-- ==== Sys2Proof/Word.lean ====
section
/-! DEFINITION. The byte of a line frame and the limits the manual names by figure. -/

namespace Sys2Proof

/-- One byte of a frame on a serial line (chapter 10). -/
abbrev Byte := BitVec 8

/-- The most pieces an area of a slot, a held count or a line may hold: 16,777,215 (R3). -/
abbrev pieceLimit : Nat := 16777215

/-- The top of a general amount field: 2,147,483,647 (Introduction, AMOUNTS). -/
abbrev amountLimit : Nat := 2147483647

/-- The top of a seal number: 4,294,967,295 (Introduction, Table 4). -/
abbrev sealLimit : Nat := 4294967295

/-- The top of an operator identifier, courier code, route code or day number: 65,535. -/
abbrev idLimit : Nat := 65535

end Sys2Proof
end

