-- ==== Sys2Proof/Config.lean ====
section
/-! DEFINITION. The free values: constants with no body, for what the manual leaves open. -/

namespace Sys2Proof

/-- The trading minute read while the clock stands BEFORE the open mark on the mark's own day (SET CLOCK
took it back while the day is closed). R30 forms the elapsed seconds as a difference that is then negative and
gives no unsigned figure for it. The argument is the number of seconds before the mark. Log entry 4. -/
opaque Config.minuteBeforeMark : Nat → Nat

/-- Which of several things that fall due at the same moment the part takes first: R172 and the rules of the
timers say that either may be taken first. The argument is a counter of such choices. Log entry 3. -/
opaque Config.dueChoice : Nat → Nat

/-- The tag of a notice's frame: the manual has the host choose the tag of a request and gives no tag to a notice.
The argument is the notice's kind code. Log entry 31. -/
opaque Config.noticeTag : Nat → Nat

/-- Whether the reset input, or the loss of the supply, that waits behind a cold start comes before the validity mark is written
(R39, R40): the manual gives a cold start no duration and says what either order leaves. The argument is the counter of choices.
Log entry 44. -/
opaque Config.coldStartCut : Nat → Bool

/-- Whether the break that waits behind a request is found while the owner still takes it (R177): the manual gives the taking of a
request no duration and says what either order leaves. The argument is the counter of choices. Log entry 46. -/
opaque Config.breakFound : Nat → Bool

end Sys2Proof
end

