-- ==== Sys2Proof/Syntax.lean ====
section
/-! DEFINITION. The commands of the CO-612: one constructor per row of spec/opcode_table.json, with the fields
the row's rule names. Fields of host requests are the NUMBERS the frame carries (R179), so that a value outside
its range can be sent and refused by its owner. -/

namespace Sys2Proof

/-- Office time: a day number 0 to 65,535 and a second of day 0 to 86,399 (R30). -/
structure OfficeTime where
  day : Nat
  sec : Nat
deriving DecidableEq, Repr, Inhabited

/-- One slot of DEFINE DENOMINATIONS: piece value and kind (0 NOTE, 1 ROLL) (R2). -/
structure DenomEntry where
  value : Nat
  kind  : Nat
deriving DecidableEq, Repr, Inhabited

/-- A line of TOP UP or TRANSFER STOCK (R9, R10). -/
structure StockLine where
  slot   : Nat
  pieces : Nat
deriving DecidableEq, Repr, Inhabited

/-- A line of ASSEMBLE BAG: the source is 0 WORKING or 1 UNFIT (R150). -/
structure AssemblyLine where
  slot   : Nat
  pieces : Nat
  source : Nat
deriving DecidableEq, Repr, Inhabited

/-- An item of WRITE PROFILE: field number in the order of Table 2.4, class, slot, value (R35, R179). -/
structure ProfileItem where
  field : Nat
  cls   : Nat
  slot  : Nat
  value : Nat
deriving DecidableEq, Repr, Inhabited

/-- Good, unfit and suspect pieces of one denomination slot (R119, Table 10.4). -/
structure Counts where
  good    : Nat
  unfit   : Nat
  suspect : Nat
deriving DecidableEq, Repr, Inhabited

/-- One of the four counting-station lines (Introduction, Table 2). -/
inductive StationLine
  | one | two | three | four
deriving DecidableEq, Repr, Inhabited

/-- The station number of a line. -/
abbrev StationLine.num : StationLine → Nat
  | .one => 1
  | .two => 2
  | .three => 3
  | .four => 4

/-- A line with a partner other than the host (R180). -/
inductive PartnerLine
  | station (line : StationLine)
  | dock
  | slotReader
deriving DecidableEq, Repr, Inhabited

/-- How a partner's record reached the part (R180). `sound`: as the frame its sender forms. `bytes`: as these bytes of the
line, where the frame was spoiled, cut short or run into another on its way (log entry 37). -/
inductive Wire
  | sound
  | bytes (bs : List Byte)
deriving DecidableEq, Repr, Inhabited

/-- Door sense (R134, R181). -/
inductive DoorSense
  | shut | opened
deriving DecidableEq, Repr, Inhabited

/-- Bolt sense (R134, R181). -/
inductive BoltSense
  | thrown | retracted
deriving DecidableEq, Repr, Inhabited

/-- Slot sense (R134, R181). -/
inductive SlotSense
  | clear | occupied
deriving DecidableEq, Repr, Inhabited

/-- One field of a reply or notice body, by its row of Table 10.2. -/
inductive Datum
  | sealNo (n : Nat)
  | amount (n : Nat)
  | wide (i : Int)
  | pieces (n : Nat)
  | pieceValue (n : Nat)
  | byte (n : Nat)
  | ident (n : Nat)
  | time (t : OfficeTime)
  | word (n : Nat)
  | enum (n : Nat)
  | mark (b : Bool)
  | present (b : Bool)
  | count (n : Nat)
  | noticeMask (m : BitVec 24)
deriving DecidableEq, Repr, Inhabited

/-- The commands: one constructor per row of spec/opcode_table.json, in its order. -/
inductive Instr
  | defineDenominations (entries : List DenomEntry)
  | transferStock (op1 op2 direction : Nat) (lines : List StockLine)
  | openDay
  | closeDay
  | cancelClose
  | resume
  | setClock (time : OfficeTime)
  | enrolOperator (op role : Nat)
  | withdrawOperator (op : Nat)
  | writeProfile (set : Nat) (items : List ProfileItem)
  | selectProfile (set op : Nat)
  | eraseRecords (op1 op2 : Nat)
  | setTill (till cls enabled : Nat)
  | openTill (till amount reduce : Nat)
  | confirmFloat (till : Nat)
  | cancelFloat (till : Nat)
  | topUp (till : Nat) (lines : List StockLine)
  | reportTakings (till takings : Nat)
  | declarePickup (till sealNo amount : Nat)
  | closeTill (till sealNo amount takings : Nat)
  | declareOfficeBag (sealNo value : Nat)
  | adoptBag (slot kind : Nat) (till : Option Nat) (value sealNo : Nat)
  | writeOffBag (slot op : Nat)
  | recountBag (slot : Nat)
  | clearStation (station : Nat)
  | enableStation (station : Nat)
  | disableStation (station : Nat)
  | requestOpening (op1 op2 windows : Nat)
  | cancelOpening
  | clearAlarm (op : Nat)
  | newConsignment
  | assembleBag (consignment : Nat) (lines : List AssemblyLine)
  | sealBag (slot sealNo : Nat)
  | discardBag (slot : Nat)
  | unsealBag (slot op : Nat)
  | attachBag (slot consignment : Nat)
  | expectDelivery (consignment sealNo value : Nat)
  | scheduleCollection (consignment courier route : Nat) (earliest latest : OfficeTime)
  | cancelConsignment (consignment : Nat)
  | setNotices (mask : Nat)
  | readStock
  | readReservations (index : Nat)
  | readOffice
  | readDaySummary
  | readOperators
  | readProfile (set : Nat)
  | readTill (till : Nat)
  | readTills (till : Nat)
  | readPickupList (index : Nat)
  | readCountQueue (index : Nat)
  | readBag (slot : Nat)
  | readSeal (sealNo : Nat)
  | readOrphans
  | readStations
  | readLock
  | readConsignment (consignment : Nat)
  | readHandover
  | readUnattached
  | hostFrame (bytes : List Byte)
  | hostByteGapTimeout
  | lineBreak
  | replySent
  | noticeSent
  | minuteEvent
  | floatExpiry (till : Nat)
  | latestReached (consignment : Nat)
  | stationReady (line : StationLine) (wire : Wire)
  | stationSealRead (line : StationLine) (sealNo : Nat) (wire : Wire)
  | strap (line : StationLine) (slot pieces cls : Nat) (wire : Wire)
  | suspect (line : StationLine) (slot : Nat) (wire : Wire)
  | doubt (line : StationLine) (slot : Nat) (wire : Wire)
  | doubtCleared (line : StationLine) (verdict : Nat) (wire : Wire)
  | jam (line : StationLine) (wire : Wire)
  | endTotals (line : StationLine) (totals : Vector Counts 12) (wire : Wire)
  | linkSilenceExpiry (line : StationLine)
  | partnerByteGapTimeout (line : PartnerLine)
  | slotSealRead (sealNo : Nat) (wire : Wire)
  | readWaitExpiry
  | doorSenseChange (level : DoorSense)
  | boltSenseChange (level : BoltSense)
  | slotSenseChange (level : SlotSense)
  | delayExpiry
  | windowExpiry
  | boltConfirmationExpiry
  | present (courier route : Nat) (wire : Wire)
  | scan (sealNo : Nat) (wire : Wire)
  | confirm (wire : Wire)
  | abandon (wire : Wire)
  | stepTimerExpiry
  | overallTimerExpiry
  | controlledStop
  | powerFailDeassert
  | resetAssert
  | resetRelease
  | powerUp
  | coldStart
  | warmRestart
  | lineReturnsToMark
  | powerLoss
  | dockFrameCheckFailed (type : Nat) (body : List Byte) (wire : Wire)
deriving DecidableEq, Repr, Inhabited

end Sys2Proof
end

