-- ==== Sys2Proof/WellFormed.lean ====
section
/-! DEFINITION. Which commands a line can carry: every field fits the bytes Table 10.2, 10.4 or 10.5 gives it, and a
request body fits a frame (R169, R179). A value that fits its bytes but not its range is well formed: its owner
refuses it with RANGE. -/

namespace Sys2Proof

/-- `n` fits in `k` bytes. -/
abbrev fits (k n : Nat) : Bool := decide (n < 256 ^ k)

/-- An office time fits its six bytes (Table 10.2). -/
def OfficeTime.fits (t : OfficeTime) : Bool := Sys2Proof.fits 2 t.day && Sys2Proof.fits 4 t.sec

/-- A definition entry fits its bytes. -/
def DenomEntry.fits (e : DenomEntry) : Bool := Sys2Proof.fits 4 e.value && Sys2Proof.fits 1 e.kind

/-- A stock line fits its bytes. -/
def StockLine.fits (l : StockLine) : Bool := Sys2Proof.fits 1 l.slot && Sys2Proof.fits 3 l.pieces

/-- An assembly line fits its bytes. -/
def AssemblyLine.fits (l : AssemblyLine) : Bool :=
  Sys2Proof.fits 1 l.slot && Sys2Proof.fits 3 l.pieces && Sys2Proof.fits 1 l.source

/-- A profile item fits its seven bytes (R179). -/
def ProfileItem.fits (p : ProfileItem) : Bool :=
  Sys2Proof.fits 1 p.field && Sys2Proof.fits 1 p.cls && Sys2Proof.fits 1 p.slot && Sys2Proof.fits 4 p.value

/-- The three figures of one slot of END fit their bytes (Table 10.4). -/
def Counts.fits (c : Counts) : Bool := Sys2Proof.fits 3 c.good && Sys2Proof.fits 3 c.unfit && Sys2Proof.fits 3 c.suspect

/-- The command can be sent on its line. -/
def WellFormed : Instr → Bool
  | .defineDenominations es => es.all DenomEntry.fits && decide (es.length ≤ 95)
  | .transferStock a b d ls => fits 2 a && fits 2 b && fits 1 d && ls.all StockLine.fits && decide (ls.length ≤ 118)
  | .openDay => true
  | .closeDay => true
  | .cancelClose => true
  | .resume => true
  | .setClock t => t.fits
  | .enrolOperator a r => fits 2 a && fits 1 r
  | .withdrawOperator a => fits 2 a
  | .writeProfile n is => fits 1 n && is.all ProfileItem.fits && decide (is.length ≤ 68)
  | .selectProfile n a => fits 1 n && fits 2 a
  | .eraseRecords a b => fits 2 a && fits 2 b
  | .setTill t c e => fits 1 t && fits 1 c && fits 1 e
  | .openTill t a r => fits 1 t && fits 4 a && fits 1 r
  | .confirmFloat t => fits 1 t
  | .cancelFloat t => fits 1 t
  | .topUp t ls => fits 1 t && ls.all StockLine.fits && decide (ls.length ≤ 119)
  | .reportTakings t k => fits 1 t && fits 4 k
  | .declarePickup t n a => fits 1 t && fits 4 n && fits 4 a
  | .closeTill t n a k => fits 1 t && fits 4 n && fits 4 a && fits 4 k
  | .declareOfficeBag n v => fits 4 n && fits 4 v
  | .adoptBag b k t v n => fits 1 b && fits 1 k && t.all (fits 1) && fits 4 v && fits 4 n
  | .writeOffBag b a => fits 1 b && fits 2 a
  | .recountBag b => fits 1 b
  | .clearStation n => fits 1 n
  | .enableStation n => fits 1 n
  | .disableStation n => fits 1 n
  | .requestOpening a b w => fits 2 a && fits 2 b && fits 1 w
  | .cancelOpening => true
  | .clearAlarm a => fits 2 a
  | .newConsignment => true
  | .assembleBag c ls => fits 1 c && ls.all AssemblyLine.fits && decide (ls.length ≤ 95)
  | .sealBag b n => fits 1 b && fits 4 n
  | .discardBag b => fits 1 b
  | .unsealBag b a => fits 1 b && fits 2 a
  | .attachBag b c => fits 1 b && fits 1 c
  | .expectDelivery c n v => fits 1 c && fits 4 n && fits 4 v
  | .scheduleCollection c u r e l => fits 1 c && fits 2 u && fits 2 r && e.fits && l.fits
  | .cancelConsignment c => fits 1 c
  | .setNotices m => fits 3 m
  | .readStock => true
  | .readReservations n => fits 1 n
  | .readOffice => true
  | .readDaySummary => true
  | .readOperators => true
  | .readProfile n => fits 1 n
  | .readTill t => fits 1 t
  | .readTills t => fits 1 t
  | .readPickupList n => fits 1 n
  | .readCountQueue n => fits 1 n
  | .readBag b => fits 1 b
  | .readSeal n => fits 4 n
  | .readOrphans => true
  | .readStations => true
  | .readLock => true
  | .readConsignment c => fits 1 c
  | .readHandover => true
  | .readUnattached => true
  | .hostFrame _ => true
  | .hostByteGapTimeout => true
  | .lineBreak => true
  | .replySent => true
  | .noticeSent => true
  | .minuteEvent => true
  | .floatExpiry t => decide (1 ≤ t ∧ t ≤ 96)
  | .latestReached c => decide (1 ≤ c ∧ c ≤ 8)
  | .stationReady _ _ => true
  | .stationSealRead _ n _ => fits 4 n
  | .strap _ d p c _ => fits 1 d && fits 1 p && fits 1 c
  | .suspect _ d _ => fits 1 d
  | .doubt _ d _ => fits 1 d
  | .doubtCleared _ v _ => fits 1 v
  | .jam _ _ => true
  | .endTotals _ t _ => t.toList.all Counts.fits
  | .linkSilenceExpiry _ => true
  | .partnerByteGapTimeout _ => true
  | .slotSealRead n _ => fits 4 n
  | .readWaitExpiry => true
  | .doorSenseChange _ => true
  | .boltSenseChange _ => true
  | .slotSenseChange _ => true
  | .delayExpiry => true
  | .windowExpiry => true
  | .boltConfirmationExpiry => true
  | .present u r _ => fits 2 u && fits 2 r
  | .scan n _ => fits 4 n
  | .confirm _ => true
  | .abandon _ => true
  | .stepTimerExpiry => true
  | .overallTimerExpiry => true
  | .controlledStop => true
  | .powerFailDeassert => true
  | .resetAssert => true
  | .resetRelease => true
  | .powerUp => true
  | .coldStart => true
  | .warmRestart => true
  | .lineReturnsToMark => true
  | .powerLoss => true
  | .dockFrameCheckFailed n b _ => fits 1 n && decide (b.length ≤ 255)

end Sys2Proof
end

