-- ==== Sys2Proof/Decode.lean ====
section
/-! DEFINITION. The bytes of the lines: numbers most significant byte first, the CRC-16, the bodies of the 58 request
kinds and their reading, and the partner frames (chapter 10). spec/opcode_table.json gives no row any bits, so no
word of the table spells a command. -/

namespace Sys2Proof

/-- The command a word of the table spells: no row of spec/opcode_table.json gives bits, so none does. -/
def decodeTableWord (_nbits _w : Nat) : Option Instr := none

/-! ### Numbers and bytes -/

/-- The number that bytes spell, most significant first (chapter 10). -/
def natOfBytes (bs : List Byte) : Nat := bs.foldl (fun n b => n * 256 + b.toNat) 0

/-- `k` bytes of `n`, most significant first. -/
def bytesOfNat : Nat → Nat → List Byte
  | 0, _ => []
  | k + 1, n => BitVec.ofNat 8 (n / 256 ^ k) :: bytesOfNat k n

/-- Eight bytes of a signed number in two's complement (chapter 10, Table 10.2). -/
def bytesOfInt (i : Int) : List Byte := bytesOfNat 8 (i % 18446744073709551616).toNat

/-- One shift of the CRC register with the generator x^16 + x^12 + x^5 + 1 (R179). -/
def crcShift (r : BitVec 16) : BitVec 16 := if r.msb then (r <<< 1) ^^^ 0x1021#16 else r <<< 1

/-- One byte into the CRC register, most significant bit first (R179). -/
def crcByte (r : BitVec 16) (b : Byte) : BitVec 16 :=
  crcShift (crcShift (crcShift (crcShift (crcShift (crcShift (crcShift (crcShift (r ^^^ (b.zeroExtend 16 <<< 8)))))))))

/-- The CRC-16 of R179: all ones at the start, no final inversion. -/
def crc16 (bs : List Byte) : BitVec 16 := bs.foldl crcByte 0xFFFF#16

/-- The CRC of R179 as sent, high byte first. -/
def crcBytes (bs : List Byte) : List Byte := bytesOfNat 2 (crc16 bs).toNat

/-- The start marker, 7E hexadecimal (Table 10.1). -/
def startMarker : Byte := 0x7E#8

/-- Encodings of Table 10.2. A count or figure for which the table gives no width is a `word` or a `wide` (log
entry 22). -/
def Datum.bytes : Datum → List Byte
  | .sealNo n => bytesOfNat 4 n
  | .amount n => bytesOfNat 4 n
  | .wide i => bytesOfInt i
  | .pieces n => bytesOfNat 3 n
  | .pieceValue n => bytesOfNat 4 n
  | .byte n => bytesOfNat 1 n
  | .ident n => bytesOfNat 2 n
  | .time t => bytesOfNat 2 t.day ++ bytesOfNat 4 t.sec
  | .word n => bytesOfNat 4 n
  | .enum n => bytesOfNat 1 n
  | .mark b => bytesOfNat 1 b.toNat
  | .present b => bytesOfNat 1 b.toNat
  | .count n => bytesOfNat 1 n
  | .noticeMask m => bytesOfNat 3 m.toNat

/-- Bytes a field takes in a body (Table 10.2). -/
def Datum.size : Datum → Nat
  | .sealNo _ => 4
  | .amount _ => 4
  | .wide _ => 8
  | .pieces _ => 3
  | .pieceValue _ => 4
  | .byte _ => 1
  | .ident _ => 2
  | .time _ => 6
  | .word _ => 4
  | .enum _ => 1
  | .mark _ => 1
  | .present _ => 1
  | .count _ => 1
  | .noticeMask _ => 3

/-- A host-line frame (Table 10.1). -/
def hostFrameBytes (kind tag : Nat) (body : List Byte) : List Byte :=
  let covered := bytesOfNat 2 body.length ++ bytesOfNat 1 kind ++ bytesOfNat 2 tag ++ body
  startMarker :: (covered ++ crcBytes covered)

/-! ### Request bodies -/

/-- The shape of one field of a request body: a number of `k` bytes, an office time, a counted list whose entries
have fields of the given widths, or an optional number (R179). -/
inductive Shape
  | num (k : Nat)
  | time
  | rows (widths : List Nat)
  | opt (k : Nat)
deriving DecidableEq, Repr

/-- What a field of a request body carries. -/
inductive Val
  | num (n : Nat)
  | time (t : OfficeTime)
  | rows (rs : List (List Nat))
  | opt (o : Option Nat)
deriving DecidableEq, Repr

/-- Read a number of `k` bytes. -/
def takeNum (k : Nat) (bs : List Byte) : Option (Nat × List Byte) :=
  if bs.length < k then none else some (natOfBytes (bs.take k), bs.drop k)

/-- Read one entry of a list. -/
def takeRow : List Nat → List Byte → Option (List Nat × List Byte)
  | [], bs => some ([], bs)
  | w :: ws, bs =>
    match takeNum w bs with
    | none => none
    | some (n, bs1) =>
      match takeRow ws bs1 with
      | none => none
      | some (r, bs2) => some (n :: r, bs2)

/-- Read the entries of a list. -/
def takeRows (ws : List Nat) : Nat → List Byte → Option (List (List Nat) × List Byte)
  | 0, bs => some ([], bs)
  | k + 1, bs =>
    match takeRow ws bs with
    | none => none
    | some (r, bs1) =>
      match takeRows ws k bs1 with
      | none => none
      | some (rs, bs2) => some (r :: rs, bs2)

/-- Read one field. A presence byte other than 0 and 1 is malformed (log entry 20). -/
def takeVal : Shape → List Byte → Option (Val × List Byte)
  | .num k, bs =>
    match takeNum k bs with
    | none => none
    | some (n, bs1) => some (.num n, bs1)
  | .time, bs =>
    match takeNum 2 bs with
    | none => none
    | some (d, bs1) =>
      match takeNum 4 bs1 with
      | none => none
      | some (s, bs2) => some (.time { day := d, sec := s }, bs2)
  | .rows ws, bs =>
    match takeNum 1 bs with
    | none => none
    | some (c, bs1) =>
      match takeRows ws c bs1 with
      | none => none
      | some (rs, bs2) => some (.rows rs, bs2)
  | .opt k, bs =>
    match takeNum 1 bs with
    | some (0, bs1) => some (.opt none, bs1)
    | some (1, bs1) =>
      match takeNum k bs1 with
      | none => none
      | some (n, bs2) => some (.opt (some n), bs2)
    | _ => none

/-- Read a whole body: exactly as long as its kind and count bytes imply (R170, R179). -/
def takeVals : List Shape → List Byte → Option (List Val)
  | [], bs => if bs.isEmpty then some [] else none
  | sh :: shs, bs =>
    match takeVal sh bs with
    | none => none
    | some (v, bs1) =>
      match takeVals shs bs1 with
      | none => none
      | some vs => some (v :: vs)

/-- The fields of each request kind, in the order its rule names them (R179, Tables 9.1 and 9.2). -/
def requestShape : Nat → Option (List Shape)
  | 1 => some [.rows [4, 1]]
  | 2 => some [.num 2, .num 2, .num 1, .rows [1, 3]]
  | 3 => some []
  | 4 => some []
  | 5 => some []
  | 6 => some []
  | 7 => some [.time]
  | 8 => some [.num 2, .num 1]
  | 9 => some [.num 2]
  | 10 => some [.num 1, .rows [1, 1, 1, 4]]
  | 11 => some [.num 1, .num 2]
  | 12 => some [.num 2, .num 2]
  | 13 => some [.num 1, .num 1, .num 1]
  | 14 => some [.num 1, .num 4, .num 1]
  | 15 => some [.num 1]
  | 16 => some [.num 1]
  | 17 => some [.num 1, .rows [1, 3]]
  | 18 => some [.num 1, .num 4]
  | 19 => some [.num 1, .num 4, .num 4]
  | 20 => some [.num 1, .num 4, .num 4, .num 4]
  | 21 => some [.num 4, .num 4]
  | 22 => some [.num 1, .num 1, .opt 1, .num 4, .num 4]
  | 23 => some [.num 1, .num 2]
  | 24 => some [.num 1]
  | 25 => some [.num 1]
  | 26 => some [.num 1]
  | 27 => some [.num 1]
  | 28 => some [.num 2, .num 2, .num 1]
  | 29 => some []
  | 30 => some [.num 2]
  | 31 => some []
  | 32 => some [.num 1, .rows [1, 3, 1]]
  | 33 => some [.num 1, .num 4]
  | 34 => some [.num 1]
  | 35 => some [.num 1, .num 2]
  | 36 => some [.num 1, .num 1]
  | 37 => some [.num 1, .num 4, .num 4]
  | 38 => some [.num 1, .num 2, .num 2, .time, .time]
  | 39 => some [.num 1]
  | 40 => some [.num 3]
  | 41 => some []
  | 42 => some [.num 1]
  | 43 => some []
  | 44 => some []
  | 45 => some []
  | 46 => some [.num 1]
  | 47 => some [.num 1]
  | 48 => some [.num 1]
  | 49 => some [.num 1]
  | 50 => some [.num 1]
  | 51 => some [.num 1]
  | 52 => some [.num 4]
  | 53 => some []
  | 54 => some []
  | 55 => some []
  | 56 => some [.num 1]
  | 57 => some []
  | 58 => some []
  | _ => none

/-- A definition entry from its fields. -/
def DenomEntry.ofRow (r : List Nat) : DenomEntry := { value := r.getD 0 0, kind := r.getD 1 0 }

/-- A stock line from its fields. -/
def StockLine.ofRow (r : List Nat) : StockLine := { slot := r.getD 0 0, pieces := r.getD 1 0 }

/-- An assembly line from its fields. -/
def AssemblyLine.ofRow (r : List Nat) : AssemblyLine := { slot := r.getD 0 0, pieces := r.getD 1 0, source := r.getD 2 0 }

/-- A profile item from its fields. -/
def ProfileItem.ofRow (r : List Nat) : ProfileItem :=
  { field := r.getD 0 0, cls := r.getD 1 0, slot := r.getD 2 0, value := r.getD 3 0 }

/-- The request a kind and its fields spell (R179). -/
def requestOfVals : Nat → List Val → Option Instr
  | 1, [.rows rs] => some (.defineDenominations (rs.map DenomEntry.ofRow))
  | 2, [.num a, .num b, .num d, .rows rs] => some (.transferStock a b d (rs.map StockLine.ofRow))
  | 3, [] => some .openDay
  | 4, [] => some .closeDay
  | 5, [] => some .cancelClose
  | 6, [] => some .resume
  | 7, [.time t] => some (.setClock t)
  | 8, [.num a, .num r] => some (.enrolOperator a r)
  | 9, [.num a] => some (.withdrawOperator a)
  | 10, [.num n, .rows rs] => some (.writeProfile n (rs.map ProfileItem.ofRow))
  | 11, [.num n, .num a] => some (.selectProfile n a)
  | 12, [.num a, .num b] => some (.eraseRecords a b)
  | 13, [.num t, .num c, .num e] => some (.setTill t c e)
  | 14, [.num t, .num a, .num r] => some (.openTill t a r)
  | 15, [.num t] => some (.confirmFloat t)
  | 16, [.num t] => some (.cancelFloat t)
  | 17, [.num t, .rows rs] => some (.topUp t (rs.map StockLine.ofRow))
  | 18, [.num t, .num k] => some (.reportTakings t k)
  | 19, [.num t, .num n, .num a] => some (.declarePickup t n a)
  | 20, [.num t, .num n, .num a, .num k] => some (.closeTill t n a k)
  | 21, [.num n, .num v] => some (.declareOfficeBag n v)
  | 22, [.num b, .num k, .opt t, .num v, .num n] => some (.adoptBag b k t v n)
  | 23, [.num b, .num a] => some (.writeOffBag b a)
  | 24, [.num b] => some (.recountBag b)
  | 25, [.num n] => some (.clearStation n)
  | 26, [.num n] => some (.enableStation n)
  | 27, [.num n] => some (.disableStation n)
  | 28, [.num a, .num b, .num w] => some (.requestOpening a b w)
  | 29, [] => some .cancelOpening
  | 30, [.num a] => some (.clearAlarm a)
  | 31, [] => some .newConsignment
  | 32, [.num c, .rows rs] => some (.assembleBag c (rs.map AssemblyLine.ofRow))
  | 33, [.num b, .num n] => some (.sealBag b n)
  | 34, [.num b] => some (.discardBag b)
  | 35, [.num b, .num a] => some (.unsealBag b a)
  | 36, [.num b, .num c] => some (.attachBag b c)
  | 37, [.num c, .num n, .num v] => some (.expectDelivery c n v)
  | 38, [.num c, .num u, .num r, .time e, .time l] => some (.scheduleCollection c u r e l)
  | 39, [.num c] => some (.cancelConsignment c)
  | 40, [.num m] => some (.setNotices m)
  | 41, [] => some .readStock
  | 42, [.num n] => some (.readReservations n)
  | 43, [] => some .readOffice
  | 44, [] => some .readDaySummary
  | 45, [] => some .readOperators
  | 46, [.num n] => some (.readProfile n)
  | 47, [.num t] => some (.readTill t)
  | 48, [.num t] => some (.readTills t)
  | 49, [.num n] => some (.readPickupList n)
  | 50, [.num n] => some (.readCountQueue n)
  | 51, [.num b] => some (.readBag b)
  | 52, [.num n] => some (.readSeal n)
  | 53, [] => some .readOrphans
  | 54, [] => some .readStations
  | 55, [] => some .readLock
  | 56, [.num c] => some (.readConsignment c)
  | 57, [] => some .readHandover
  | 58, [] => some .readUnattached
  | _, _ => none

/-- The request a kind and a body spell; `none` where the kind names no request or the body is malformed (R170). -/
def decodeRequest (kind : Nat) (body : List Byte) : Option Instr :=
  match requestShape kind with
  | none => none
  | some shs =>
    match takeVals shs body with
    | none => none
    | some vs => requestOfVals kind vs

/-- The kind code of a request, 1 to 58, and 0 for a command that is no request (R179). -/
def requestKind : Instr → Nat
  | .defineDenominations _ => 1
  | .transferStock _ _ _ _ => 2
  | .openDay => 3
  | .closeDay => 4
  | .cancelClose => 5
  | .resume => 6
  | .setClock _ => 7
  | .enrolOperator _ _ => 8
  | .withdrawOperator _ => 9
  | .writeProfile _ _ => 10
  | .selectProfile _ _ => 11
  | .eraseRecords _ _ => 12
  | .setTill _ _ _ => 13
  | .openTill _ _ _ => 14
  | .confirmFloat _ => 15
  | .cancelFloat _ => 16
  | .topUp _ _ => 17
  | .reportTakings _ _ => 18
  | .declarePickup _ _ _ => 19
  | .closeTill _ _ _ _ => 20
  | .declareOfficeBag _ _ => 21
  | .adoptBag _ _ _ _ _ => 22
  | .writeOffBag _ _ => 23
  | .recountBag _ => 24
  | .clearStation _ => 25
  | .enableStation _ => 26
  | .disableStation _ => 27
  | .requestOpening _ _ _ => 28
  | .cancelOpening => 29
  | .clearAlarm _ => 30
  | .newConsignment => 31
  | .assembleBag _ _ => 32
  | .sealBag _ _ => 33
  | .discardBag _ => 34
  | .unsealBag _ _ => 35
  | .attachBag _ _ => 36
  | .expectDelivery _ _ _ => 37
  | .scheduleCollection _ _ _ _ _ => 38
  | .cancelConsignment _ => 39
  | .setNotices _ => 40
  | .readStock => 41
  | .readReservations _ => 42
  | .readOffice => 43
  | .readDaySummary => 44
  | .readOperators => 45
  | .readProfile _ => 46
  | .readTill _ => 47
  | .readTills _ => 48
  | .readPickupList _ => 49
  | .readCountQueue _ => 50
  | .readBag _ => 51
  | .readSeal _ => 52
  | .readOrphans => 53
  | .readStations => 54
  | .readLock => 55
  | .readConsignment _ => 56
  | .readHandover => 57
  | .readUnattached => 58
  | _ => 0

/-- The fields of a request, in body order. -/
def requestVals : Instr → List Val
  | .defineDenominations es => [.rows (es.map fun e => [e.value, e.kind])]
  | .transferStock a b d ls => [.num a, .num b, .num d, .rows (ls.map fun l => [l.slot, l.pieces])]
  | .setClock t => [.time t]
  | .enrolOperator a r => [.num a, .num r]
  | .withdrawOperator a => [.num a]
  | .writeProfile n is => [.num n, .rows (is.map fun p => [p.field, p.cls, p.slot, p.value])]
  | .selectProfile n a => [.num n, .num a]
  | .eraseRecords a b => [.num a, .num b]
  | .setTill t c e => [.num t, .num c, .num e]
  | .openTill t a r => [.num t, .num a, .num r]
  | .confirmFloat t => [.num t]
  | .cancelFloat t => [.num t]
  | .topUp t ls => [.num t, .rows (ls.map fun l => [l.slot, l.pieces])]
  | .reportTakings t k => [.num t, .num k]
  | .declarePickup t n a => [.num t, .num n, .num a]
  | .closeTill t n a k => [.num t, .num n, .num a, .num k]
  | .declareOfficeBag n v => [.num n, .num v]
  | .adoptBag b k t v n => [.num b, .num k, .opt t, .num v, .num n]
  | .writeOffBag b a => [.num b, .num a]
  | .recountBag b => [.num b]
  | .clearStation n => [.num n]
  | .enableStation n => [.num n]
  | .disableStation n => [.num n]
  | .requestOpening a b w => [.num a, .num b, .num w]
  | .clearAlarm a => [.num a]
  | .assembleBag c ls => [.num c, .rows (ls.map fun l => [l.slot, l.pieces, l.source])]
  | .sealBag b n => [.num b, .num n]
  | .discardBag b => [.num b]
  | .unsealBag b a => [.num b, .num a]
  | .attachBag b c => [.num b, .num c]
  | .expectDelivery c n v => [.num c, .num n, .num v]
  | .scheduleCollection c u r e l => [.num c, .num u, .num r, .time e, .time l]
  | .cancelConsignment c => [.num c]
  | .setNotices m => [.num m]
  | .readReservations n => [.num n]
  | .readProfile n => [.num n]
  | .readTill t => [.num t]
  | .readTills t => [.num t]
  | .readPickupList n => [.num n]
  | .readCountQueue n => [.num n]
  | .readBag b => [.num b]
  | .readSeal n => [.num n]
  | .readConsignment c => [.num c]
  | _ => []

/-- One entry of a list as bytes of the given widths. -/
def putRow : List Nat → List Nat → List Byte
  | w :: ws, n :: ns => bytesOfNat w n ++ putRow ws ns
  | _, _ => []

/-- One field as bytes (R179). -/
def putVal : Shape → Val → List Byte
  | .num k, .num n => bytesOfNat k n
  | .time, .time t => bytesOfNat 2 t.day ++ bytesOfNat 4 t.sec
  | .rows ws, .rows rs => bytesOfNat 1 rs.length ++ rs.flatMap (putRow ws)
  | .opt _, .opt none => bytesOfNat 1 0
  | .opt k, .opt (some n) => bytesOfNat 1 1 ++ bytesOfNat k n
  | _, _ => []

/-- A body as bytes. -/
def putVals : List Shape → List Val → List Byte
  | sh :: shs, v :: vs => putVal sh v ++ putVals shs vs
  | _, _ => []

/-- The body of a request (R179). -/
def requestBody (i : Instr) : List Byte := putVals ((requestShape (requestKind i)).getD []) (requestVals i)

/-- The frame in which the host sends a request under a tag (Table 10.1). -/
def requestFrame (tag : Nat) (i : Instr) : List Byte := hostFrameBytes (requestKind i) tag (requestBody i)

/-! ### Partner frames -/

/-- The greatest length byte of a partner line (R180, test 2). -/
def PartnerLine.maxLength : PartnerLine → Nat
  | .station _ => 108
  | .dock => 8
  | .slotReader => 4

/-- The body length of a type that Table 10.4 or 10.5 lists, or of type 64 on the slot-reader line; `none` for any
other type (R180, test 5). -/
def PartnerLine.typeLength (l : PartnerLine) (type : Nat) : Option Nat :=
  match type with
  | 1 => some 5
  | 2 => some 0
  | 3 => some 0
  | 4 => some 0
  | 16 => some 0
  | 17 => some 4
  | 18 => some 3
  | 19 => some 1
  | 20 => some 1
  | 21 => some 1
  | 22 => some 0
  | 23 => some 108
  | 32 => some 4
  | 33 => some 4
  | 34 => some 0
  | 35 => some 0
  | 48 => some 4
  | 49 => some 1
  | 50 => some 0
  | 51 => some 0
  | 52 => some 2
  | 64 => if l = .slotReader then some 4 else none
  | _ => none

/-- The length of the received body agrees with the length its type is listed with (R180, test 5). -/
def PartnerLine.lengthOk (l : PartnerLine) (type length : Nat) : Bool :=
  match l.typeLength type with
  | none => true
  | some n => decide (length = n)

/-- A frame of a partner line: marker, length, type, body, CRC (R180). -/
def partnerFrameBytes (type : Nat) (body : List Byte) : List Byte :=
  let covered := bytesOfNat 1 body.length ++ bytesOfNat 1 type ++ body
  startMarker :: (covered ++ crcBytes covered)

/-- The bytes in which a record of this type and body came over its line. -/
def Wire.onLine (w : Wire) (type : Nat) (body : List Byte) : List Byte :=
  match w with
  | .sound => partnerFrameBytes type body
  | .bytes bs => bs

/-- The body of END: good, unfit and suspect totals of slots 1 to 12 (Table 10.4). -/
def countsBytes (t : Vector Counts 12) : List Byte :=
  t.toList.flatMap fun c => bytesOfNat 3 c.good ++ bytesOfNat 3 c.unfit ++ bytesOfNat 3 c.suspect

/-- The totals that a body of END spells (Table 10.4). -/
def countsOfBytes (body : List Byte) : Vector Counts 12 :=
  Vector.ofFn fun (i : Fin 12) =>
    { good := natOfBytes ((body.drop (9 * i.val)).take 3), unfit := natOfBytes ((body.drop (9 * i.val + 3)).take 3)
      suspect := natOfBytes ((body.drop (9 * i.val + 6)).take 3) }

end Sys2Proof
end

