-- ==== Sys2Proof/Machine/State.lean ====
section
/-! DEFINITION. The state of the CO-612 as plain data, block by block (Introduction, Table 1), and its value right
after reset. The blocks keep the manual's names: HLI, OC, ST with RT, TPS, BR, CSC, SLC, CHU. FC keeps nothing
(R85). -/

namespace Sys2Proof.Machine

/-- Why the machine stops with a fault. No command of this block ends so: every command has an effect, a refusal
CODE in its reply, or is taken with no effect. -/
inductive Fault
  /-- Raised by nothing: it keeps the type inhabited. Safe: no run ends with it. -/
  | neverRaised
deriving DecidableEq, Repr

/-- Why the machine has no meaning for a command. -/
inductive Refusal
  /-- A command of the table whose arm is not modelled yet. No arm of Dispatch.lean answers so. Safe: it stops. -/
  | notModelled (mnemonic : String)
deriving DecidableEq, Repr

/-! ### The host line: HLI -/

/-- Refusal codes, in the order of Table 5 of the Introduction. -/
inductive Code
  | frame | unknown | range | state | held | full | absent | duplicate | short | role | busy | active | incomplete
deriving DecidableEq, Repr, Inhabited

/-- Notice kinds, in the order of Table 9.3 (kind codes 128 to 149, R179). -/
inductive NoticeKind
  | pickupDue | pickupClear | floatExpired | tillReconciled
  | bagDropped | orphanBag | shutter
  | countDone | variance | suspectFound | countHeld | station
  | creditHeld | lockState | forcedDoor | boltFault
  | collectionMissed | handoverDone | handoverAbandoned | shortDelivery
  | dayClosed | restart
deriving DecidableEq, Repr, Inhabited

/-- A notice: kind, office time of the placing operation, fields of the placing rule (R175). -/
structure Notice where
  kind   : NoticeKind
  time   : OfficeTime
  fields : List Datum
deriving DecidableEq, Repr, Inhabited

/-- A reply: tag and kind of its request, `none` for ACCEPTED or a refusal code, and the detail that follows the
status byte (R173). `holdsPlace`: the reply of an owner, whose request keeps its buffer place until it is sent. -/
structure Reply where
  tag        : Nat
  kind       : Nat
  status     : Option Code
  detail     : List Datum
  holdsPlace : Bool
deriving DecidableEq, Repr, Inhabited

/-- A request in the receive buffer; `taken` once its owner has taken it and its reply is formed (R171, R172). -/
structure BufferEntry where
  tag     : Nat
  request : Instr
  taken   : Bool
deriving DecidableEq, Repr, Inhabited

/-- What the transmit side of the host line is sending (R174). `queued`: the notice being sent still holds the head
place of the notice queue, which a break takes from it (R177). -/
inductive Transmit
  | idle
  | reply (r : Reply)
  | notice (n : Notice) (queued : Bool)
deriving DecidableEq, Repr, Inhabited

/-- The Host Line Interface (chapter 9). -/
structure Hli where
  /-- Bytes of the frame in progress, start marker first (R169). -/
  rx        : List Byte
  /-- A break holds the receive line at space (R177). -/
  spacing   : Bool
  /-- The receive buffer, oldest first, at most 4 (R171). -/
  buffer    : List BufferEntry
  /-- Replies waiting to be sent, in sending order (R174). -/
  replies   : List Reply
  /-- The frame being sent (R174). -/
  tx        : Transmit
  /-- The notice queue, head first, at most 32 (R175). -/
  notices   : List Notice
  /-- The notice mask: bit n masks notice kind 128 + n (R176, R179). -/
  mask      : BitVec 24
  /-- The notices-lost flag (R175). -/
  lost      : Bool
  /-- THE MODEL'S OWN: the reply formed by the last request an owner took. -/
  lastReply : Option Reply
deriving DecidableEq, Repr, Inhabited

/-! ### Office Control: OC -/

/-- Office states, in the order of Table 2.1. -/
inductive OfficeState
  | unconfigured | closedDay | trading | closing | held
deriving DecidableEq, Repr, Inhabited

/-- Start kinds (R20). -/
inductive StartKind
  | cold | warm | warmUnclean
deriving DecidableEq, Repr, Inhabited

/-- Roles (R32). -/
inductive Role
  | office | supervisor
deriving DecidableEq, Repr, Inhabited

/-- A record of the operator table (R32). -/
structure Operator where
  ident : Nat
  role  : Role
deriving DecidableEq, Repr, Inhabited

/-- The running day totals (Table 2.2). Wide fields, not clamped; the variance sum is signed (R27). -/
structure Totals where
  floatsIssued  : Nat
  topUps        : Nat
  counted       : Nat
  unfit         : Nat
  suspectPieces : Nat
  suspectValue  : Nat
  varianceSum   : Int
  varianceCount : Nat
  handedOver    : Nat
  received      : Nat
  lostBags      : Nat
  lostValue     : Nat
deriving DecidableEq, Repr, Inhabited

/-- SUSPECT held count and watermarks of one configured slot in a day summary (R28). -/
structure SlotSummary where
  suspect : Nat
  low     : Nat
  high    : Nat
deriving DecidableEq, Repr, Inhabited

/-- A day summary (R28). -/
structure DaySummary where
  openMark   : Option OfficeTime
  closed     : OfficeTime
  minute     : Nat
  totals     : Totals
  slots      : List SlotSummary
  stockValue : Nat
deriving DecidableEq, Repr, Inhabited

/-- Halt policies (Table 2.4). -/
inductive HaltPolicy
  | none | suspect | suspectAndDoubt
deriving DecidableEq, Repr, Inhabited

/-- The two profiles by name (R34). -/
inductive ProfileName
  | a | b
deriving DecidableEq, Repr, Inhabited

/-- A trading profile: every field of Table 2.4, in its order. -/
structure Profile where
  threshold       : Vector Nat 4
  hysteresis      : Vector Nat 4
  floatMin        : Vector Nat 4
  target          : Vector (Vector Nat 12) 4
  cap             : Vector (Vector Nat 12) 4
  rateInit        : Nat
  rateMin         : Nat
  rateMax         : Nat
  smoothing       : Nat
  floor           : Vector Nat 12
  tolerance       : Nat
  poolThreshold   : Nat
  hold            : Nat
  lockDelay       : Nat
  lockWindow      : Nat
  collectionDelay : Nat
  haltPolicy      : HaltPolicy
deriving DecidableEq, Repr, Inhabited

/-- Office Control (chapter 2). -/
structure Oc where
  /-- Office state (R20). -/
  state        : OfficeState
  /-- Remembered state, present while HELD (R20). -/
  remembered   : Option OfficeState
  /-- Open mark, absent until the first OPEN DAY (R20). -/
  openMark     : Option OfficeTime
  /-- Last start kind (R20). -/
  lastStart    : StartKind
  /-- Last day summary (R28). -/
  summary      : Option DaySummary
  /-- Running day totals (R27). -/
  totals       : Totals
  /-- Office clock (R30). -/
  clock        : OfficeTime
  /-- THE MODEL'S OWN: the trading minute of the last minute event, or of OPEN DAY. -/
  minuteTold   : Nat
  /-- Operator table, in order of enrolment, at most 32 (R32). -/
  operators    : List Operator
  /-- Profile A (R34). -/
  profileA     : Profile
  /-- Profile B (R34). -/
  profileB     : Profile
  /-- Active-profile selector (R34). -/
  active       : ProfileName
  /-- Deferred-notice list, at most 32 (R41). -/
  deferred     : List Notice
  /-- Overflow mark of the deferred-notice list (R41). -/
  deferredOver : Bool
deriving DecidableEq, Repr, Inhabited

/-! ### Stock Table and Reservation Table: ST, RT -/

/-- Kinds of denomination (R1). -/
inductive DenomKind
  | note | roll
deriving DecidableEq, Repr, Inhabited

/-- A configured denomination slot (R1). -/
structure Denom where
  value : Nat
  kind  : DenomKind
deriving DecidableEq, Repr, Inhabited

/-- The counts of one denomination slot (R3, R17). -/
structure StockSlot where
  working  : Nat
  reserve  : Nat
  unfit    : Nat
  dispatch : Nat
  suspect  : Nat
  low      : Nat
  high     : Nat
deriving DecidableEq, Repr, Inhabited

/-- The two areas that reservations hold from and credits go to (R5, R14). -/
inductive Source
  | working | unfit
deriving DecidableEq, Repr, Inhabited

/-- A line of a reservation or of an outbound bag (Table 1.3, Table 5.1). -/
structure ContentLine where
  slot   : Nat
  pieces : Nat
  source : Source
deriving DecidableEq, Repr, Inhabited

/-- Owner of a reservation (Table 1.3). -/
inductive Owner
  | till (n : Nat)
  | bag (slot : Nat)
deriving DecidableEq, Repr, Inhabited

/-- A reservation record (Table 1.3). -/
structure Reservation where
  owner   : Owner
  lines   : List ContentLine
  created : OfficeTime
  expiry  : Option OfficeTime
deriving DecidableEq, Repr, Inhabited

/-- A held credit: bag slot, good and unfit pieces per slot, blocking set (R6). -/
structure HeldCredit where
  bag      : Nat
  counts   : Vector Counts 12
  blocking : List (Nat × Source)
deriving DecidableEq, Repr, Inhabited

/-- The Stock Table with the Reservation Table (chapter 1). -/
structure St where
  /-- Denomination definition; its length is the slot count (R1). -/
  denoms       : List Denom
  /-- Counts of slots 1 to 12 (R3). -/
  slots        : Vector StockSlot 12
  /-- Held-credit list, oldest first (R6). -/
  held         : List HeldCredit
  /-- Reservation records in order of creation, at most 16 (R14). -/
  reservations : List Reservation
deriving DecidableEq, Repr, Inhabited

/-! ### Till Table and Pickup Scheduler: TPS -/

/-- Till states, in the order of Table 3.1. -/
inductive TillState
  | closed | composed | opened | draining | reconciled
deriving DecidableEq, Repr, Inhabited

/-- Pending composition of a COMPOSED till (Table 3.1). -/
structure Composition where
  prior     : TillState
  requested : Nat
  composed  : Nat
  reduced   : Bool
deriving DecidableEq, Repr, Inhabited

/-- A till record (Table 3.1). -/
structure Till where
  enabled    : Bool
  cls        : Nat
  state      : TillState
  pending    : Option Composition
  floatTotal : Nat
  takings    : Nat
  kPrev      : Nat
  pickups    : Nat
  collected  : Nat
  exposure   : Nat
  rate       : Nat
  tLast      : Nat
  onList     : Bool
  bags       : List Nat
  variance   : Option Int
  reduced    : Bool
deriving DecidableEq, Repr, Inhabited

/-- An entry of the pickup-due list (R54). -/
structure DueEntry where
  till       : Nat
  minute     : Nat
  projection : Nat
deriving DecidableEq, Repr, Inhabited

/-- The Till Table and Pickup Scheduler (chapter 3). -/
structure Tps where
  /-- Till records 1 to 96 (R43). -/
  tills : Vector Till 96
  /-- Pickup-due list, oldest at the head (R54). -/
  due   : List DueEntry
deriving DecidableEq, Repr, Inhabited

/-! ### Bag Register: BR -/

/-- Bag kinds (Table 5.1). -/
inductive BagKind
  | pickup | drain | office | inbound | outbound | unknown
deriving DecidableEq, Repr, Inhabited

/-- Bag states other than FREE, in the order of Table 5.2. -/
inductive BagState
  | declared | orphan | queued | counting | creditHeld | countHeld | counted | lost
  | expected | received | assembling | sealed | scanned | handedOver
deriving DecidableEq, Repr, Inhabited

/-- Queue classes (R99). -/
inductive QueueClass
  | priority | ordinary
deriving DecidableEq, Repr, Inhabited

/-- What a completed count writes into the bag (R86, R131). -/
structure CountResult where
  tally    : Vector Counts 12
  value    : Nat
  variance : Int
  flag     : Bool
deriving DecidableEq, Repr, Inhabited

/-- A bag record that is not FREE (Table 5.1); its slot is its place in the register. -/
structure Bag where
  sealNo      : Option Nat
  kind        : BagKind
  state       : BagState
  till        : Option Nat
  consignment : Option Nat
  declared    : Option Nat
  lines       : List ContentLine
  result      : Option CountResult
  attempts    : Option Nat
  queueClass  : Option QueueClass
  bypass      : Option Nat
  changed     : OfficeTime
deriving DecidableEq, Repr, Inhabited

/-- An entry of the pending-drop list: when its passage began, seconds left of its read wait (R92). -/
structure PendingDrop where
  began : OfficeTime
  wait  : Nat
deriving DecidableEq, Repr, Inhabited

/-- The Bag Register (chapter 5). -/
structure Br where
  /-- Bag records 0 to 255, `none` for FREE (R86, R88). -/
  bags     : Vector (Option Bag) 256
  /-- The PRIORITY class of the count queue, head first (R99). -/
  priority : List Nat
  /-- The ORDINARY class of the count queue, head first (R99). -/
  ordinary : List Nat
  /-- Pending-drop list, oldest first, at most 4 (R92). -/
  drops    : List PendingDrop
deriving DecidableEq, Repr, Inhabited

/-! ### Count Station Controller: CSC -/

/-- Reasons of OFFLINE (Table 6.1). -/
inductive OfflineReason
  | start | link | disabled
deriving DecidableEq, Repr, Inhabited

/-- Reasons of HELD (Table 6.1). -/
inductive HoldReason
  | jam | suspect | doubt | pool | sequence | overrun
deriving DecidableEq, Repr, Inhabited

/-- Station states with their reasons (Table 6.1). -/
inductive StationState
  | offline (r : OfflineReason)
  | idle
  | assigned
  | counting
  | held (r : HoldReason)
deriving DecidableEq, Repr, Inhabited

/-- Portions, coded as in Table 10.4. -/
inductive Portion
  | whole | first | second
deriving DecidableEq, Repr, Inhabited

/-- Flow states (R117). -/
inductive Flow
  | go | paused
deriving DecidableEq, Repr, Inhabited

/-- A record taken from a station line (Table 6.2). -/
inductive StationRecord
  | ready
  | sealRead (sealNo : Nat)
  | strap (slot pieces : Nat) (good : Bool)
  | suspect (slot : Nat)
  | doubt (slot : Nat)
  | doubtCleared (accepted : Bool)
  | jam
  | totals (t : Vector Counts 12)
deriving DecidableEq, Repr, Inhabited

/-- What a station holds while it has a job (R106). `resumeAssigned`: it was ASSIGNED when a POOL hold began (R123). -/
structure StationJob where
  bag            : Nat
  portion        : Portion
  partner        : Option Nat
  complete       : Bool
  resumeAssigned : Bool
deriving DecidableEq, Repr, Inhabited

/-- A station record (Table 6.1) with its link-silence timer, `none` when stopped (R110). -/
structure Station where
  enabled : Bool
  state   : StationState
  job     : Option StationJob
  flow    : Flow
  intake  : List StationRecord
  silence : Option Nat
deriving DecidableEq, Repr, Inhabited

/-- One portion of a count job: its station, tally and doubt mark (R114, R119, R120). -/
structure JobPart where
  station : Nat
  tally   : Vector Counts 12
  doubt   : Option Nat
deriving DecidableEq, Repr, Inhabited

/-- A count job record (R114). -/
structure CountJob where
  bag       : Nat
  parts     : List JobPart
  assigned  : OfficeTime
  tolerance : Nat
  policy    : HaltPolicy
deriving DecidableEq, Repr, Inhabited

/-- The Count Station Controller (chapter 6). -/
structure Csc where
  /-- Stations 1 to 4 (R106). -/
  stations : Vector Station 4
  /-- Count job records, at most 4 (R114). -/
  jobs     : List CountJob
deriving DecidableEq, Repr, Inhabited

/-! ### Safe Lock Controller: SLC -/

/-- Lock states, in the order of Table 7.1. -/
inductive LockState
  | locked | delay | window | opened | securing | alarm
deriving DecidableEq, Repr, Inhabited

/-- Sources of an opening (Table 7.2). -/
inductive OpeningSource
  | office | collection | start
deriving DecidableEq, Repr, Inhabited

/-- Collection mark when present (Table 7.2). -/
inductive CollectionMark
  | waiting | told
deriving DecidableEq, Repr, Inhabited

/-- Opening record (Table 7.2). -/
structure Opening where
  source    : OpeningSource
  operators : Option (Nat × Nat)
  windows   : Nat
  delayLen  : Nat
  windowLen : Nat
  mark      : Option CollectionMark
deriving DecidableEq, Repr, Inhabited

/-- Bolt drive (R134). -/
inductive BoltDrive
  | throw | retract
deriving DecidableEq, Repr, Inhabited

/-- Shutter drive (R134). -/
inductive ShutterDrive
  | opened | closed
deriving DecidableEq, Repr, Inhabited

/-- Alarm output (R134). -/
inductive AlarmOutput
  | asserted | released
deriving DecidableEq, Repr, Inhabited

/-- The Safe Lock Controller (chapter 7). -/
structure Slc where
  /-- Lock state (R134). -/
  state             : LockState
  /-- Opening record (R134). -/
  opening           : Option Opening
  /-- Door sensor state (R134). -/
  door              : DoorSense
  /-- Bolt sensor state (R134). -/
  bolt              : BoltSense
  /-- Slot sensor state (R134). -/
  slot              : SlotSense
  /-- Bolt drive (R134). -/
  boltDrive         : BoltDrive
  /-- Shutter drive (R95, R134). -/
  shutter           : ShutterDrive
  /-- Alarm output (R134). -/
  alarm             : AlarmOutput
  /-- FORCED stands in the alarm latch (R134). -/
  forced            : Bool
  /-- BOLT stands in the alarm latch (R134). -/
  boltFault         : Bool
  /-- Pending-collection mark (R137). -/
  pendingCollection : Bool
  /-- Seconds left on the running timer: delay, window or bolt confirmation by the lock state (Table 7.1). -/
  timer             : Option Nat
deriving DecidableEq, Repr, Inhabited

/-! ### Consignment and Handover Unit: CHU -/

/-- Consignment states, in the order of Table 8.1. -/
inductive ConsignmentState
  | free | opened | scheduled | inHandover | done | missed | cancelled
deriving DecidableEq, Repr, Inhabited

/-- What SCHEDULE COLLECTION writes (Table 8.1). -/
structure Schedule where
  courier  : Nat
  route    : Nat
  earliest : OfficeTime
  latest   : OfficeTime
deriving DecidableEq, Repr, Inhabited

/-- A consignment record (Table 8.1). -/
structure Consignment where
  state    : ConsignmentState
  outbound : List Nat
  inbound  : List Nat
  schedule : Option Schedule
deriving DecidableEq, Repr, Inhabited

/-- Stages of a handover in progress (Table 8.4). -/
inductive HandoverStage
  | verified | scanning
deriving DecidableEq, Repr, Inhabited

/-- A handover in progress (Table 8.4); the timers are seconds left. -/
structure Handover where
  stage       : HandoverStage
  consignment : Nat
  courier     : Nat
  presented   : OfficeTime
  foreign     : Nat
  received    : List Nat
  overall     : Nat
  step        : Option Nat
deriving DecidableEq, Repr, Inhabited

/-- The Consignment and Handover Unit (chapter 8). -/
structure Chu where
  /-- Consignment records 1 to 8 (R148). -/
  consignments : Vector Consignment 8
  /-- The handover record, `none` for IDLE (R161). -/
  handover     : Option Handover
deriving DecidableEq, Repr, Inhabited

/-! ### Lines out, inputs, power -/

/-- The receiver of a partner line (R180): the bytes of the frame in progress, start marker first; and `hunting`, set by a
failed frame until the next start marker. -/
structure Receiver where
  bytes   : List Byte
  hunting : Bool
deriving DecidableEq, Repr, Inhabited

/-- The receivers of the partner lines: stations 1 to 4, dock, slot reader (R180). -/
structure Receivers where
  stations   : Vector Receiver 4
  dock       : Receiver
  slotReader : Receiver
deriving DecidableEq, Repr, Inhabited

/-- Reasons of an abort, in the order of Table 6.4. -/
inductive AbortReason
  | sequence | overrun | link | mismatch | disabled | restart
deriving DecidableEq, Repr, Inhabited

/-- Reasons of an abandonment, in the order of R166. -/
inductive AbandonReason
  | courier | stepTimeout | overallTimeout | foreign | lock | restart
deriving DecidableEq, Repr, Inhabited

/-- Records the part sends on a station line (Table 6.2). -/
inductive ToStation
  | assign (sealNo : Nat) (portion : Portion)
  | go
  | pause
  | abort
deriving DecidableEq, Repr, Inhabited

/-- Records the part sends on the dock line (Table 8.3); DONE carries `none` for HANDED_OVER. -/
inductive ToDock
  | acceptPresent (consignment outCount inCount : Nat)
  | acceptScan (slot : Nat) (inward : Bool) (toScan : Nat)
  | refuse (code : Code)
  | waitSafe
  | go
  | done (abandoned : Option AbandonReason)
deriving DecidableEq, Repr, Inhabited

/-- A frame the part has sent, with its line. -/
inductive SentRecord
  | toStation (station : Nat) (r : ToStation)
  | toDock (r : ToDock)
  | reply (r : Reply)
  | notice (n : Notice)
deriving DecidableEq, Repr, Inhabited

/-- Whether the part runs (R38, R39). `stopping` stands only inside CONTROLLED STOP; `stopped` from the clean-stop
mark on; `starting` from power-up or release of reset until a start, the wait for the power-fail input included. -/
inductive Phase
  | off | inReset | starting | running | stopping | stopped
deriving DecidableEq, Repr, Inhabited

/-- The input lines (Table 10.6), after their filter (R181). -/
structure Pins where
  door      : DoorSense
  bolt      : BoltSense
  slot      : SlotSense
  /-- The power-fail input is asserted. -/
  powerFail : Bool
  /-- The reset input is asserted. -/
  reset     : Bool
deriving DecidableEq, Repr, Inhabited

end Sys2Proof.Machine

namespace Sys2Proof.Machine

/-- The whole machine. -/
structure State where
  /-- Commands waiting, first in, first out. -/
  pending : List Instr
  /-- Whether the part runs (R38, R39). -/
  phase   : Phase
  /-- The input lines (Table 10.6). -/
  pins    : Pins
  /-- Validity mark of the store header (chapter 2.7). -/
  valid   : Bool
  /-- Clean-stop mark of the store header (chapter 2.7). -/
  clean   : Bool
  hli     : Hli
  oc      : Oc
  st      : St
  tps     : Tps
  br      : Br
  csc     : Csc
  slc     : Slc
  chu     : Chu
  /-- The receivers of the partner lines (R180). -/
  receivers : Receivers
  /-- THE MODEL'S OWN: every frame sent on a line, oldest first. -/
  sent    : List SentRecord
  /-- THE MODEL'S OWN: counter of the free choices: among things due at one moment, of an interrupted cold start, of a break found
  while a request is taken. -/
  choices : Nat
deriving DecidableEq, Repr, Inhabited

/-! ### Reset: every record at its cold-start value (R40) -/

/-- Day totals of zero (R27). -/
def Totals.zero : Totals :=
  { floatsIssued := 0, topUps := 0, counted := 0, unfit := 0, suspectPieces := 0, suspectValue := 0, varianceSum := 0,
    varianceCount := 0, handedOver := 0, received := 0, lostBags := 0, lostValue := 0 }

/-- The cold-start values of Table 2.4. -/
def Profile.atColdStart : Profile :=
  { threshold := Vector.replicate 4 200000, hysteresis := Vector.replicate 4 50000, floatMin := Vector.replicate 4 0,
    target := Vector.replicate 4 (Vector.replicate 12 0), cap := Vector.replicate 4 (Vector.replicate 12 0),
    rateInit := 500, rateMin := 0, rateMax := 20000, smoothing := 4, floor := Vector.replicate 12 0, tolerance := 0,
    poolThreshold := 0, hold := 15, lockDelay := 10, lockWindow := 5, collectionDelay := 5, haltPolicy := .none }

/-- OC after a cold start (R20, R27, R28, R30, R32, R34, R40). -/
def Oc.atColdStart : Oc :=
  { state := .unconfigured, remembered := none, openMark := none, lastStart := .cold, summary := none,
    totals := Totals.zero, clock := { day := 0, sec := 0 }, minuteTold := 0, operators := [],
    profileA := Profile.atColdStart, profileB := Profile.atColdStart, active := .a, deferred := [],
    deferredOver := false }

/-- One slot's counts after a cold start (R19). -/
def StockSlot.empty : StockSlot :=
  { working := 0, reserve := 0, unfit := 0, dispatch := 0, suspect := 0, low := 0, high := 0 }

/-- ST and RT after a cold start (R19). -/
def St.atColdStart : St :=
  { denoms := [], slots := Vector.replicate 12 StockSlot.empty, held := [], reservations := [] }

/-- A till record after a cold start (R66). -/
def Till.atColdStart : Till :=
  { enabled := false, cls := 0, state := .closed, pending := none, floatTotal := 0, takings := 0, kPrev := 0,
    pickups := 0, collected := 0, exposure := 0, rate := 0, tLast := 0, onList := false, bags := [], variance := none,
    reduced := false }

/-- TPS after a cold start (R66). -/
def Tps.atColdStart : Tps := { tills := Vector.replicate 96 Till.atColdStart, due := [] }

/-- BR after a cold start (R105). -/
def Br.atColdStart : Br := { bags := Vector.replicate 256 none, priority := [], ordinary := [], drops := [] }

/-- A station after a cold start (R133). -/
def Station.atColdStart : Station :=
  { enabled := true, state := .offline .start, job := none, flow := .go, intake := [], silence := none }

/-- CSC after a cold start (R133). -/
def Csc.atColdStart : Csc := { stations := Vector.replicate 4 Station.atColdStart, jobs := [] }

/-- A consignment record after a cold start (R148). -/
def Consignment.atColdStart : Consignment := { state := .free, outbound := [], inbound := [], schedule := none }

/-- CHU after a cold start (R168). -/
def Chu.atColdStart : Chu := { consignments := Vector.replicate 8 Consignment.atColdStart, handover := none }

/-- A receiver at rest: no frame in progress, none failed (R180). -/
def Receiver.rest : Receiver := { bytes := [], hunting := false }

/-- The receivers after any start: at rest (log entry 28). -/
def Receivers.rest : Receivers :=
  { stations := Vector.replicate 4 Receiver.rest, dock := Receiver.rest, slotReader := Receiver.rest }

/-- The RESTART notice of a cold start (R39, R40, R178). -/
def Notice.restartCold : Notice := { kind := .restart, time := { day := 0, sec := 0 }, fields := [.enum 0] }

/-- HLI after a cold start: nothing but the RESTART notice, which is being sent (R178, Table 9.4). -/
def Hli.atColdStart : Hli :=
  { rx := [], spacing := false, buffer := [], replies := [], tx := .notice Notice.restartCold true,
    notices := [Notice.restartCold], mask := 0, lost := false, lastReply := none }

/-- SLC after a cold start with the door SHUT, the bolt THROWN and the slot CLEAR (Tables 7.3, 7.4). -/
def Slc.atColdStart : Slc :=
  { state := .locked, opening := none, door := .shut, bolt := .thrown, slot := .clear, boltDrive := .throw,
    shutter := .closed, alarm := .released, forced := false, boltFault := false, pendingCollection := false,
    timer := none }

/-- The machine right after reset: a cold start has been made (R40), with the sense lines reading SHUT, THROWN and
CLEAR and the power-fail and reset inputs deasserted (log entry 1). -/
def State.reset : State :=
  { pending := [], phase := .running,
    pins := { door := .shut, bolt := .thrown, slot := .clear, powerFail := false, reset := false },
    valid := true, clean := false, hli := Hli.atColdStart, oc := Oc.atColdStart, st := St.atColdStart,
    tps := Tps.atColdStart, br := Br.atColdStart, csc := Csc.atColdStart, slc := Slc.atColdStart,
    chu := Chu.atColdStart, receivers := Receivers.rest, sent := [], choices := 0 }

end Sys2Proof.Machine
end

