-- ==== Sys2Proof/Machine/Operands.lean ====
section
/-! DEFINITION. What a field carries: the codes of the enumerations (R179), the ranges of request fields, the
operator checks of R33, and the numbered records of the blocks by their numbers. -/

namespace Sys2Proof.Machine

/-! ### Numbered records -/

/-- Record `k` of a table numbered from 1. -/
def nth {α : Type} {n : Nat} (dflt : α) (v : Vector α n) (k : Nat) : α :=
  if k = 0 then dflt else v[k - 1]?.getD dflt

/-- The table with record `k`, numbered from 1, replaced. -/
def putNth {α : Type} {n : Nat} (v : Vector α n) (k : Nat) (x : α) : Vector α n :=
  if k = 0 then v else v.setIfInBounds (k - 1) x

/-- The numbers 1 to `n`. -/
def upTo (n : Nat) : List Nat := (List.range n).map (· + 1)

/-- Till record `n` (R43). -/
def State.till (s : State) (n : Nat) : Till := nth Till.atColdStart s.tps.tills n

/-- Till record `n` replaced. -/
def State.setTill (s : State) (n : Nat) (t : Till) : State := { s with tps := { s.tps with tills := putNth s.tps.tills n t } }

/-- The bag record of a slot, `none` while it is FREE or no slot of the register (R86). -/
def State.bag (s : State) (b : Nat) : Option Bag := s.br.bags[b]?.getD none

/-- The bag record of a slot replaced; `none` frees it. -/
def State.setBag (s : State) (b : Nat) (x : Option Bag) : State :=
  { s with br := { s.br with bags := s.br.bags.setIfInBounds b x } }

/-- Station record `n` (R106). -/
def State.station (s : State) (n : Nat) : Station := nth Station.atColdStart s.csc.stations n

/-- Station record `n` replaced. -/
def State.setStation (s : State) (n : Nat) (x : Station) : State :=
  { s with csc := { s.csc with stations := putNth s.csc.stations n x } }

/-- Consignment record `n` (R148). -/
def State.consignment (s : State) (n : Nat) : Consignment := nth Consignment.atColdStart s.chu.consignments n

/-- Consignment record `n` replaced. -/
def State.setConsignment (s : State) (n : Nat) (c : Consignment) : State :=
  { s with chu := { s.chu with consignments := putNth s.chu.consignments n c } }

/-- The counts of denomination slot `d` (R3). -/
def State.slot (s : State) (d : Nat) : StockSlot := nth StockSlot.empty s.st.slots d

/-- The counts of denomination slot `d` replaced. -/
def State.setSlot (s : State) (d : Nat) (x : StockSlot) : State := { s with st := { s.st with slots := putNth s.st.slots d x } }

/-- Every bag record that is not FREE, with its slot, in order of slot. -/
def State.bagList (s : State) : List (Nat × Bag) :=
  (List.range 256).filterMap fun b => (s.bag b).map fun x => (b, x)

/-! ### Codes (R179: 0 upward, in the order the values are first listed) -/

/-- Reply status: 0 ACCEPTED, 1 to 13 the codes of Table 5 (Table 10.3). -/
def Code.num (c : Code) : Nat := c.ctorIdx + 1

/-- Notice kind code, 128 to 149 (R179). -/
def NoticeKind.num (k : NoticeKind) : Nat := k.ctorIdx + 128

/-- Office state. -/
def OfficeState.code (x : OfficeState) : Datum := .enum x.ctorIdx

/-- Start kind. -/
def StartKind.code (x : StartKind) : Datum := .enum x.ctorIdx

/-- Role. -/
def Role.code (x : Role) : Datum := .enum x.ctorIdx

/-- Kind of denomination. -/
def DenomKind.code (x : DenomKind) : Datum := .enum x.ctorIdx

/-- Profile name. -/
def ProfileName.code (x : ProfileName) : Datum := .enum x.ctorIdx

/-- Halt policy, as a profile value. -/
def HaltPolicy.num (x : HaltPolicy) : Nat := x.ctorIdx

/-- Source area of a line. -/
def Source.code (x : Source) : Datum := .enum x.ctorIdx

/-- Area in the order WORKING, RESERVE, UNFIT, DISPATCH, of the two areas a credit may fail at (DESIGN CHOICE, log entry 32). -/
def Source.areaCode : Source → Datum
  | .working => .enum 0
  | .unfit => .enum 2

/-- Till state. -/
def TillState.code (x : TillState) : Datum := .enum x.ctorIdx

/-- Bag kind. -/
def BagKind.code (x : BagKind) : Datum := .enum x.ctorIdx

/-- Bag state; FREE is 0 (Table 5.2). -/
def BagState.code (x : BagState) : Datum := .enum (x.ctorIdx + 1)

/-- Queue class. -/
def QueueClass.code (x : QueueClass) : Datum := .enum x.ctorIdx

/-- Reasons of Table 6.1, OFFLINE's before HELD's. -/
def OfflineReason.code (x : OfflineReason) : Datum := .enum x.ctorIdx

/-- Reasons of Table 6.1, OFFLINE's before HELD's. -/
def HoldReason.code (x : HoldReason) : Datum := .enum (x.ctorIdx + 3)

/-- Station state without its reason. -/
def StationState.code : StationState → Datum
  | .offline _ => .enum 0
  | .idle => .enum 1
  | .assigned => .enum 2
  | .counting => .enum 3
  | .held _ => .enum 4

/-- The reason of a station state, with its presence byte. -/
def StationState.reason : StationState → List Datum
  | .offline r => [.present true, r.code]
  | .held r => [.present true, r.code]
  | _ => [.present false]

/-- Portion (Table 10.4). -/
def Portion.code (x : Portion) : Datum := .enum x.ctorIdx

/-- Flow state. -/
def Flow.code (x : Flow) : Datum := .enum x.ctorIdx

/-- Abort reason (Table 6.4). -/
def AbortReason.code (x : AbortReason) : Datum := .enum x.ctorIdx

/-- Abandonment reason (R166). -/
def AbandonReason.code (x : AbandonReason) : Datum := .enum x.ctorIdx

/-- Lock state (Table 7.1). -/
def LockState.code (x : LockState) : Datum := .enum x.ctorIdx

/-- Source of an opening (Table 7.2). -/
def OpeningSource.code (x : OpeningSource) : Datum := .enum x.ctorIdx

/-- Collection mark: absent, WAITING or TOLD (Table 7.2), one code and no presence byte (DESIGN CHOICE, log entry 38). -/
def markCode : Option CollectionMark → Datum
  | none => .enum 0
  | some .waiting => .enum 1
  | some .told => .enum 2

/-- Door sense. -/
def doorCode (x : DoorSense) : Datum := .enum x.ctorIdx

/-- Bolt sense. -/
def boltCode (x : BoltSense) : Datum := .enum x.ctorIdx

/-- Slot sense. -/
def slotCode (x : SlotSense) : Datum := .enum x.ctorIdx

/-- Bolt drive. -/
def BoltDrive.code (x : BoltDrive) : Datum := .enum x.ctorIdx

/-- Shutter drive. -/
def ShutterDrive.code (x : ShutterDrive) : Datum := .enum x.ctorIdx

/-- Alarm output. -/
def AlarmOutput.code (x : AlarmOutput) : Datum := .enum x.ctorIdx

/-- Consignment state (Table 8.1). -/
def ConsignmentState.code (x : ConsignmentState) : Datum := .enum x.ctorIdx

/-- Handover state: IDLE, VERIFIED, SCANNING (Table 8.4). -/
def handoverCode : Option Handover → Datum
  | none => .enum 0
  | some h => .enum (h.stage.ctorIdx + 1)

/-- An optional field of a body: a presence byte, then the field when present (R179 for requests; which fields of a reply or
notice have one is DESIGN CHOICE, log entry 38). -/
def optional (o : Option (List Datum)) : List Datum :=
  match o with
  | none => [.present false]
  | some ds => .present true :: ds

/-- A counted list of a body: a count byte, then the entries (R179). -/
def counted (es : List (List Datum)) : List Datum := .count es.length :: es.flatten

/-- The profile a request names (R34). -/
def profileOf : Nat → Option ProfileName
  | 0 => some .a
  | 1 => some .b
  | _ => none

/-- The role a request names (R32). -/
def roleOf : Nat → Option Role
  | 0 => some .office
  | 1 => some .supervisor
  | _ => none

/-- The kind of denomination a request names (R2). -/
def denomKindOf : Nat → Option DenomKind
  | 0 => some .note
  | 1 => some .roll
  | _ => none

/-- The source area a request names (R150). -/
def sourceOf : Nat → Option Source
  | 0 => some .working
  | 1 => some .unfit
  | _ => none

/-- The halt policy a profile value names (R35). -/
def haltPolicyOf : Nat → Option HaltPolicy
  | 0 => some .none
  | 1 => some .suspect
  | 2 => some .suspectAndDoubt
  | _ => none

/-- A mark byte: 0 clear, 1 set; any other value is out of range (R179). -/
def markOf : Nat → Option Bool
  | 0 => some false
  | 1 => some true
  | _ => none

/-! ### Ranges of request fields -/

/-- A till number (R43). -/
abbrev tillOk (n : Nat) : Bool := decide (1 ≤ n ∧ n ≤ 96)

/-- A station number of a request (R106). -/
abbrev stationOk (n : Nat) : Bool := decide (1 ≤ n ∧ n ≤ 4)

/-- A consignment number (R148). -/
abbrev consignmentOk (n : Nat) : Bool := decide (1 ≤ n ∧ n ≤ 8)

/-- A bag slot (R88). -/
abbrev bagSlotOk (b : Nat) : Bool := decide (b ≤ 255)

/-- A seal number (Table 4). -/
abbrev sealOk (n : Nat) : Bool := decide (1 ≤ n ∧ n ≤ sealLimit)

/-- An amount from 0 (Introduction, AMOUNTS). -/
abbrev amountOk (n : Nat) : Bool := decide (n ≤ amountLimit)

/-- A courier or route code (Table 4). -/
abbrev courierOk (n : Nat) : Bool := decide (1 ≤ n ∧ n ≤ idLimit)

/-- An office time (R30). -/
def timeOk (t : OfficeTime) : Bool := decide (t.day ≤ idLimit ∧ t.sec ≤ 86399)

/-- A configured denomination slot (R1). -/
def State.slotOk (s : State) (d : Nat) : Bool := decide (1 ≤ d ∧ d ≤ s.st.denoms.length)

/-- Pieces of a line (R9, R10, R150). -/
abbrev piecesOk (n : Nat) : Bool := decide (1 ≤ n ∧ n ≤ pieceLimit)

/-- The lines of TOP UP and TRANSFER STOCK: 1 to 12, configured slots, pieces in range, no slot twice (R9, R10). -/
def State.stockLinesOk (s : State) (ls : List StockLine) : Bool :=
  decide (1 ≤ ls.length ∧ ls.length ≤ 12) && ls.all (fun l => s.slotOk l.slot && piecesOk l.pieces) &&
    decide (ls.map StockLine.slot).Nodup

/-- Pieces that the lines of a request name for a slot, 0 for a slot they do not name. -/
def lineFor (ls : List StockLine) (d : Nat) : Nat := ((ls.find? fun l => l.slot = d).map StockLine.pieces).getD 0

/-- The lines of ASSEMBLE BAG (R150, test 2). -/
def State.assemblyLinesOk (s : State) (ls : List AssemblyLine) : Bool :=
  decide (1 ≤ ls.length ∧ ls.length ≤ 12) &&
    ls.all (fun l => s.slotOk l.slot && piecesOk l.pieces && (sourceOf l.source).isSome) &&
    decide (ls.map AssemblyLine.slot).Nodup

/-- A content line inserted by slot order. -/
def insertLine (l : ContentLine) : List ContentLine → List ContentLine
  | [] => [l]
  | m :: ms => if l.slot ≤ m.slot then l :: m :: ms else m :: insertLine l ms

/-- Content lines in slot order (Table 1.3). -/
def sortLines (ls : List ContentLine) : List ContentLine := ls.foldr insertLine []

/-- The content lines that assembly lines name, in slot order (R150). -/
def contentLines (ls : List AssemblyLine) : List ContentLine :=
  sortLines (ls.map fun l => { slot := l.slot, pieces := l.pieces, source := (sourceOf l.source).getD .working })

/-! ### Operator checks (R33) -/

/-- The role under which an identifier is enrolled. -/
def State.roleOfOperator (s : State) (id : Nat) : Option Role := (s.oc.operators.find? (fun o => o.ident = id)).map Operator.role

/-- Enrolled as SUPERVISOR; 0 fails every check. -/
def State.isSupervisor (s : State) (id : Nat) : Bool := decide (id ≠ 0 ∧ s.roleOfOperator id = some .supervisor)

/-- Enrolled in either role; 0 fails every check. -/
def State.isEnrolled (s : State) (id : Nat) : Bool := decide (id ≠ 0) && (s.roleOfOperator id).isSome

/-- Dual control: two different enrolled operators, at least one a SUPERVISOR (R33). -/
def State.dualControl (s : State) (a b : Nat) : Bool :=
  decide (a ≠ b) && s.isEnrolled a && s.isEnrolled b && (s.isSupervisor a || s.isSupervisor b)

/-- Two different supervisors (R33). -/
def State.twoSupervisors (s : State) (a b : Nat) : Bool := decide (a ≠ b) && s.isSupervisor a && s.isSupervisor b

end Sys2Proof.Machine
end

