-- ==== Sys2Proof/Machine/Flags.lean ====
section
/-! DEFINITION. The figures the blocks work out and do not store: office time, values, availability and limits,
exposure, projection and rate, a profile brought into range, the composition of a float, the outstanding figures.
Each is a function of the state or of its own operands and changes nothing. -/

namespace Sys2Proof

/-! ### Office time (R30, R77) -/

/-- Office time `n` seconds later, carried past midnight and past day 65,535 (R30, R77). -/
def OfficeTime.later (t : OfficeTime) (n : Nat) : OfficeTime :=
  { day := (t.day + (t.sec + n) / 86400) % 65536, sec := (t.sec + n) % 86400 }

/-- `a` comes before `b`: by day number first, then by second (R157). -/
def OfficeTime.before (a b : OfficeTime) : Bool := decide (a.day < b.day ∨ (a.day = b.day ∧ a.sec < b.sec))

/-- Days from `a` to `b`, taken forward through day 65,535 to day 0 (R30). -/
def OfficeTime.daysTo (a b : OfficeTime) : Nat := (b.day + 65536 - a.day) % 65536

/-- Seconds from `a` forward to `b`; 0 where `b` is earlier on the same day (R30). -/
def OfficeTime.secondsTo (a b : OfficeTime) : Nat := OfficeTime.daysTo a b * 86400 + b.sec - a.sec

/-! ### Profile fields by number -/

/-- Whether a field number of Table 2.4 is kept per class. -/
def fieldPerClass (f : Nat) : Bool := decide (f ≤ 4)

/-- Whether a field number of Table 2.4 is kept per slot. -/
def fieldPerSlot (f : Nat) : Bool := decide (f = 3 ∨ f = 4 ∨ f = 9)

/-- An item writes this field, class and slot; the class and slot bytes of a field not kept so are not read (R179). -/
def ProfileItem.names (i : ProfileItem) (k : Nat × Nat × Nat) : Bool :=
  decide (i.field = k.1) && (!fieldPerClass k.1 || decide (i.cls = k.2.1)) &&
    (!fieldPerSlot k.1 || decide (i.slot = k.2.2))

end Sys2Proof

namespace Sys2Proof.Machine

/-- The trading minute that a clock shows for an open mark (R30). Before the mark on the mark's own day the
elapsed seconds are negative and the figure is free (log entry 4). -/
def minuteOf (mark clock : OfficeTime) : Nat :=
  if OfficeTime.daysTo mark clock = 0 ∧ clock.sec < mark.sec then Config.minuteBeforeMark (mark.sec - clock.sec)
  else OfficeTime.secondsTo mark clock / 60

/-- The trading minute (R30); 0 before the first OPEN DAY, where no rule reads it. -/
def State.minute (s : State) : Nat :=
  match s.oc.openMark with
  | none => 0
  | some m => minuteOf m s.oc.clock

/-! ### Profiles (R34) -/

/-- A profile by name. -/
def State.profileOf (s : State) : ProfileName → Profile
  | .a => s.oc.profileA
  | .b => s.oc.profileB

/-- The active profile (R34, R37). -/
def State.profile (s : State) : Profile := s.profileOf s.oc.active

/-- A per-class field. -/
def classOf (v : Vector Nat 4) (c : Nat) : Nat := v[c]?.getD 0

/-- A per-class per-slot field. -/
def classSlotOf (v : Vector (Vector Nat 12) 4) (c d : Nat) : Nat := nth 0 (v[c]?.getD (Vector.replicate 12 0)) d

/-! ### Values (R4) -/

/-- The configured slots, in order from slot 1. -/
def State.slots (s : State) : List Nat := upTo s.st.denoms.length

/-- Piece value of a configured slot, 0 for an unused one. -/
def State.pieceValue (s : State) (d : Nat) : Nat := if d = 0 then 0 else (s.st.denoms[d - 1]?.map Denom.value).getD 0

/-- A configured slot of kind ROLL. -/
def State.isRoll (s : State) (d : Nat) : Bool := decide (d ≠ 0 ∧ s.st.denoms[d - 1]?.map Denom.kind = some .roll)

/-- The value of an area, named by its count: the sum over configured slots of count times piece value (R4). -/
def State.areaValue (s : State) (area : StockSlot → Nat) : Nat := (s.slots.map fun d => area (s.slot d) * s.pieceValue d).sum

/-- The stock value: the sum of the four areas (R4). -/
def State.stockValue (s : State) : Nat :=
  s.areaValue StockSlot.working + s.areaValue StockSlot.reserve + s.areaValue StockSlot.unfit + s.areaValue StockSlot.dispatch

/-- The value of content lines. -/
def State.linesValue (s : State) (ls : List ContentLine) : Nat := (ls.map fun l => l.pieces * s.pieceValue l.slot).sum

/-- The value of the lines of a top-up. -/
def State.stockLinesValue (s : State) (ls : List StockLine) : Nat := (ls.map fun l => l.pieces * s.pieceValue l.slot).sum

/-- The value of a figure of a tally: the sum over configured slots of pieces times piece value. -/
def State.tallyValue (s : State) (f : Counts → Nat) (t : Vector Counts 12) : Nat :=
  (s.slots.map fun d => f (nth default t d) * s.pieceValue d).sum

/-! ### Reservations and availability (R14, R16) -/

/-- Pieces of a slot that lines hold from a source area. -/
def heldBy (ls : List ContentLine) (a : Source) (d : Nat) : Nat :=
  ((ls.filter fun l => l.slot = d && l.source = a).map ContentLine.pieces).sum

/-- Pieces of a slot reserved from a source area by every reservation record (R16). -/
def State.reserved (s : State) (a : Source) (d : Nat) : Nat := (s.st.reservations.map fun r => heldBy r.lines a d).sum

/-- Availability of a slot: WORKING, less the floor, less the pieces reserved from WORKING, not below 0 (R16). -/
def State.availability (s : State) (d : Nat) : Nat :=
  (s.slot d).working - nth 0 s.profile.floor d - s.reserved .working d

/-- Limit of an assembly line from an area, and of a transfer out of WORKING: the count less the pieces reserved
from it, with no floor (R10, R16). -/
def State.assemblyLimit (s : State) (a : Source) (d : Nat) : Nat :=
  match a with
  | .working => (s.slot d).working - s.reserved .working d
  | .unfit => (s.slot d).unfit - s.reserved .unfit d

/-- The least slot of a list that fails a test. -/
def leastFailing (fails : Nat → Bool) (ds : List Nat) : Option Nat := (ds.filter fails).min?

/-- The pairs of slot and area at which a credit does not fit, slots in order, WORKING before UNFIT (R5, R6). -/
def State.creditFailures (s : State) (t : Vector Counts 12) : List (Nat × Source) :=
  s.slots.flatMap fun d =>
    (if (s.slot d).working + (nth default t d).good ≤ pieceLimit then [] else [(d, Source.working)]) ++
    (if (s.slot d).unfit + (nth default t d).unfit ≤ pieceLimit then [] else [(d, Source.unfit)])

/-! ### Tills (R51 to R53) -/

/-- Exposure: float total + K − P, held in 0 to 2,147,483,647 (R52). -/
def Till.exposureOf (t : Till) : Nat := min (t.floatTotal + t.takings - t.pickups) amountLimit

/-- Projection at a trading minute (R53). -/
def Till.projection (t : Till) (minute : Nat) : Nat :=
  min (t.exposure + t.rate * min (minute - t.tLast) 240 / 16) amountLimit

/-- A figure held between a floor and a ceiling. -/
def clampTo (lo hi x : Nat) : Nat := if x < lo then lo else if hi < x then hi else x

/-- The observed rate of an update, in sixteenths, at most the ceiling (R51, step 1). -/
def observedRate (p : Profile) (gain minutes : Nat) : Nat := min (gain * 16 / minutes) (p.rateMax * 16)

/-- The rate moved a fraction k/16 of the way toward the observed rate, truncated toward zero (R51, step 2). -/
def smoothed (k rate obs : Nat) : Nat :=
  if rate ≤ obs then rate + (obs - rate) * k / 16 else rate - (rate - obs) * k / 16

/-- The rate update of R51, with a new takings figure at a trading minute. -/
def Till.rateUpdate (p : Profile) (takings minute : Nat) (t : Till) : Till :=
  if t.tLast < minute ∧ t.kPrev ≤ takings then
    { t with
      rate := clampTo (p.rateMin * 16) (p.rateMax * 16)
        (smoothed p.smoothing t.rate (observedRate p (takings - t.kPrev) (minute - t.tLast)))
      kPrev := takings
      tLast := minute }
  else t

/-! ### Profiles brought into range (R36) -/

/-- The value of a field of a profile by its number in Table 2.4, class and slot (R179). -/
def Profile.get (p : Profile) (f c d : Nat) : Nat :=
  match f with
  | 0 => classOf p.threshold c
  | 1 => classOf p.hysteresis c
  | 2 => classOf p.floatMin c
  | 3 => classSlotOf p.target c d
  | 4 => classSlotOf p.cap c d
  | 5 => p.rateInit
  | 6 => p.rateMin
  | 7 => p.rateMax
  | 8 => p.smoothing
  | 9 => nth 0 p.floor d
  | 10 => p.tolerance
  | 11 => p.poolThreshold
  | 12 => p.hold
  | 13 => p.lockDelay
  | 14 => p.lockWindow
  | 15 => p.collectionDelay
  | 16 => p.haltPolicy.num
  | _ => 0

/-- A per-class per-slot field replaced. -/
def putClassSlot (v : Vector (Vector Nat 12) 4) (c d x : Nat) : Vector (Vector Nat 12) 4 :=
  v.setIfInBounds c (putNth (v[c]?.getD (Vector.replicate 12 0)) d x)

/-- A field of a profile replaced, by its number in Table 2.4. -/
def Profile.set (p : Profile) (f c d x : Nat) : Profile :=
  match f with
  | 0 => { p with threshold := p.threshold.setIfInBounds c x }
  | 1 => { p with hysteresis := p.hysteresis.setIfInBounds c x }
  | 2 => { p with floatMin := p.floatMin.setIfInBounds c x }
  | 3 => { p with target := putClassSlot p.target c d x }
  | 4 => { p with cap := putClassSlot p.cap c d x }
  | 5 => { p with rateInit := x }
  | 6 => { p with rateMin := x }
  | 7 => { p with rateMax := x }
  | 8 => { p with smoothing := x }
  | 9 => { p with floor := putNth p.floor d x }
  | 10 => { p with tolerance := x }
  | 11 => { p with poolThreshold := x }
  | 12 => { p with hold := x }
  | 13 => { p with lockDelay := x }
  | 14 => { p with lockWindow := x }
  | 15 => { p with collectionDelay := x }
  | 16 => { p with haltPolicy := (haltPolicyOf x).getD p.haltPolicy }
  | _ => p

/-- A written value brought into the fixed range of its field (Table 2.4; R36, first step). The limits one field sets
on another act in the second step. -/
def fixedRange (f x : Nat) : Nat :=
  match f with
  | 0 => clampTo 1000 10000000 x
  | 1 => min x 10000000
  | 2 => min x 10000000
  | 3 => min x 999
  | 4 => min x 999
  | 5 => min x 1000000
  | 6 => min x 1000000
  | 7 => min x 1000000
  | 8 => clampTo 1 16 x
  | 9 => min x 99999
  | 10 => min x 100000
  | 11 => min x 10000000
  | 12 => clampTo 1 60 x
  | 13 => clampTo 1 60 x
  | 14 => clampTo 1 15 x
  | 15 => min x 60
  | _ => x

/-- The limits between fields, on the whole set, in the order of R36: H, c, r_max, r_init. -/
def Profile.enforce (p : Profile) : Profile :=
  let rMax := max p.rateMax p.rateMin
  { p with
    hysteresis := Vector.zipWith min p.hysteresis p.threshold
    cap := Vector.zipWith (fun c t => Vector.zipWith max c t) p.cap p.target
    rateMax := rMax
    rateInit := clampTo p.rateMin rMax p.rateInit }

/-- The items of a write applied in their order, each in its fixed range (R35, R36). -/
def Profile.write (p : Profile) (items : List ProfileItem) : Profile :=
  items.foldl (fun q i => q.set i.field i.cls i.slot (fixedRange i.field i.value)) p

/-- A profile after a write: items applied, then brought into range (R35, R36). -/
def Profile.afterWrite (p : Profile) (items : List ProfileItem) : Profile := (p.write items).enforce

/-- Every field with its class and slot, in the order of Table 2.4, slots in `ds` alone. The class of a field not kept per class,
and the slot of a field not kept per slot, are 0 (DESIGN CHOICE, log entry 12: R36 lists a clamped field with its class and slot,
and R179 speaks of the items of a request alone). -/
def profileKeys (ds : List Nat) : List (Nat × Nat × Nat) :=
  (List.range 17).flatMap fun f =>
    (if fieldPerClass f then List.range 4 else [0]).flatMap fun c =>
      (if fieldPerSlot f then ds else [0]).map fun d => (f, c, d)

/-- The fields a write leaves clamped: written and stored with another value than the last one written, or not
written and stored with another value than before (R36). -/
def clampedKeys (before after : Profile) (items : List ProfileItem) : List (Nat × Nat × Nat) :=
  (profileKeys (upTo 12)).filter fun k =>
    match (items.filter (·.names k)).getLast? with
    | some i => decide (after.get k.1 k.2.1 k.2.2 ≠ i.value)
    | none => decide (after.get k.1 k.2.1 k.2.2 ≠ before.get k.1 k.2.1 k.2.2)

/-! ### Composition of a float (chapter 4) -/

/-- One slot as a composition reads it: slot, piece value, target, cap, availability (Table 4.1). -/
structure FloatInput where
  slot   : Nat
  value  : Nat
  target : Nat
  cap    : Nat
  avail  : Nat
deriving DecidableEq, Repr, Inhabited

/-- The slots a composition for a class reads, in order from slot 1 (R67, R68). -/
def State.floatInputs (s : State) (cls : Nat) : List FloatInput :=
  s.slots.map fun d =>
    { slot := d, value := s.pieceValue d, target := classSlotOf s.profile.target cls d,
      cap := classSlotOf s.profile.cap cls d, avail := s.availability d }

/-- Phase 1: the template, from the highest slot downward; the pieces of each slot and the remainder (R69). -/
def phase1 : List FloatInput → Nat → List Nat × Nat
  | [], r => ([], r)
  | i :: is, r =>
    let n := min (min i.target i.avail) (r / i.value)
    let rest := phase1 is (r - n * i.value)
    (n :: rest.1, rest.2)

/-- Phase 2: the fill, on the pieces phase 1 took; the pieces of each slot and the remainder (R70). -/
def phase2 : List FloatInput → List Nat → Nat → List Nat × Nat
  | i :: is, n :: ns, r =>
    let e := min (min (i.cap - n) (i.avail - n)) (r / i.value)
    let rest := phase2 is ns (r - e * i.value)
    ((n + e) :: rest.1, rest.2)
  | _, ns, r => (ns, r)

/-- Both phases; the second is not entered when the first leaves no remainder (R69). -/
def compose (is : List FloatInput) (amount : Nat) : List Nat × Nat :=
  let p := phase1 is amount
  if p.2 = 0 then p else phase2 is p.1 p.2

/-- The outcome of a composition (Table 4.2), the reasons of SHORT in the order of R75. -/
inductive FloatOutcome
  | exact | reduced | notAllowed | belowMinimum | nothingComposed
deriving DecidableEq, Repr, Inhabited

/-- The outcome decided from the remainder, the mark and the float minimum (R72). -/
def floatOutcome (amount rest floatMin : Nat) (reduce : Bool) : FloatOutcome :=
  if rest = 0 then .exact
  else if !reduce then .notAllowed
  else if amount - rest = 0 then .nothingComposed
  else if amount - rest < floatMin then .belowMinimum
  else .reduced

/-- The lines of the reservation: one for each slot with pieces, from WORKING, in slot order (R73). -/
def floatLines (is : List FloatInput) (ns : List Nat) : List ContentLine :=
  ((is.zip ns).filter fun p => decide (0 < p.2)).map fun p => { slot := p.1.slot, pieces := p.2, source := .working }

/-! ### Outstanding figures (R24) -/

/-- A till in COMPOSED, OPEN or DRAINING. -/
def Till.outstanding (t : Till) : Bool := decide (t.state = .composed ∨ t.state = .opened ∨ t.state = .draining)

/-- A bag in QUEUED, COUNTING, CREDIT_HELD or COUNT_HELD. -/
def Bag.outstanding (x : Bag) : Bool :=
  decide (x.state = .queued ∨ x.state = .counting ∨ x.state = .creditHeld ∨ x.state = .countHeld)

/-- The five outstanding figures: tills, bags, reservations, handover, lock (R24). -/
structure Outstanding where
  tills        : Nat
  bags         : Nat
  reservations : Nat
  handover     : Nat
  lock         : Nat
deriving DecidableEq, Repr, Inhabited

/-- The outstanding figures as they stand (R24). -/
def State.outstanding (s : State) : Outstanding :=
  { tills := (s.tps.tills.toList.filter Till.outstanding).length
    bags := (s.bagList.filter fun p => p.2.outstanding).length
    reservations := s.st.reservations.length
    handover := if s.chu.handover.isNone then 0 else 1
    lock := if s.slc.state = .locked then 0 else 1 }

/-- The outstanding count: their sum; the closing conditions hold when it is 0 (R24). -/
def Outstanding.total (o : Outstanding) : Nat := o.tills + o.bags + o.reservations + o.handover + o.lock

/-! ### Bags and seals (R88, R89, R99) -/

/-- The live record that carries a seal: neither FREE nor ORPHAN; the lowest slot (R89). -/
def State.liveSeal (s : State) (n : Nat) : Option (Nat × Bag) :=
  s.bagList.find? fun p => decide (p.2.sealNo = some n ∧ p.2.state ≠ .orphan)

/-- The seal is live (R89). -/
def State.sealLive (s : State) (n : Nat) : Bool := (s.liveSeal n).isSome

/-- The lowest FREE slot of the general pool, 0 to 239 (R88). -/
def State.freeGeneral (s : State) : Option Nat := (List.range 240).find? fun b => (s.bag b).isNone

/-- The FREE slots of the orphan reserve, 240 to 255, in order (R88). -/
def State.freeOrphans (s : State) : List Nat := ((List.range 16).map (· + 240)).filter fun b => (s.bag b).isNone

/-- The count queue, head first: PRIORITY before ORDINARY (R99). -/
def State.queue (s : State) : List Nat := s.br.priority ++ s.br.ordinary

/-- The position of a bag in the count queue, the head being 1; 0 for a bag not in it. -/
def State.position (s : State) (b : Nat) : Nat := (s.queue.findIdx? (· = b)).elim 0 (· + 1)

/-- The class in which a bag enters the queue: PRIORITY when its till is DRAINING (R99). -/
def State.entryClass (s : State) (till : Option Nat) : QueueClass :=
  match till with
  | none => .ordinary
  | some n => if (s.till n).state = .draining then .priority else .ordinary

/-- A till's session bags not yet COUNTED or LOST (R59, R62). -/
def State.bagsOutstanding (s : State) (t : Till) : Nat :=
  (t.bags.filter fun b =>
    match s.bag b with
    | none => false
    | some x => decide (x.state ≠ .counted ∧ x.state ≠ .lost)).length

/-- Outbound bags of a consignment not yet SCANNED (R164, R165). -/
def State.toScan (s : State) (c : Nat) : Nat :=
  ((s.consignment c).outbound.filter fun b =>
    match s.bag b with
    | none => false
    | some x => decide (x.state ≠ .scanned)).length

/-! ### Stations (R112) -/

/-- Stations enabled and not OFFLINE. -/
def State.online (s : State) : Nat :=
  (s.csc.stations.toList.filter fun x =>
    x.enabled && (match x.state with | .offline _ => false | _ => true)).length

/-- A bag needs a pool (R112). -/
def State.needsPool (s : State) (b : Nat) : Bool :=
  decide (s.profile.poolThreshold ≠ 0) &&
    decide (s.profile.poolThreshold ≤ ((s.bag b).bind Bag.declared).getD 0) && decide (2 ≤ s.online)

/-- The IDLE stations, lowest number first. -/
def State.idleStations (s : State) : List Nat := (upTo 4).filter fun n => (s.station n).state = .idle

/-! ### Output lines (R181) -/

/-- The level of the bolt drive line: RETRACT only while the part runs and the record says so. R181 gives THROW for an asserted reset
and from the clean-stop mark on; THROW without supply, and while the part waits to start with no clean-stop mark, is log entry 14
(DESIGN CHOICE). -/
def State.boltLine (s : State) : BoltDrive := if s.phase = .running then s.slc.boltDrive else .throw

/-- The level of the shutter drive line; CLOSED in every phase in which the part does not run, as for the bolt drive (R181; DESIGN
CHOICE, log entry 14). -/
def State.shutterLine (s : State) : ShutterDrive := if s.phase = .running then s.slc.shutter else .closed

/-- The level of the alarm output: by the record while the part runs, by the latch in the store while reset is asserted
or the part is stopped (R181). While the part waits to start with no clean-stop mark it goes by the latch as well, and it is released
without supply (DESIGN CHOICE, log entry 14). -/
def State.alarmLine (s : State) : AlarmOutput :=
  if s.phase = .running then s.slc.alarm
  else if s.phase ≠ .off ∧ (s.slc.forced || s.slc.boltFault) then .asserted else .released

end Sys2Proof.Machine
end

