-- ==== Sys2Proof/Machine/Ops.lean ====
section
/-! DEFINITION. The shared operations of HLI, OC, ST, RT, TPS and BR that the meanings are built of: placing notices,
forming replies, moving stock, retrying held credits, reservations, bag records and the count queue, drops, the
shutter, evaluations and reconciliation. Each is one function of the state. -/

namespace Sys2Proof.Machine

/-! ### Frames sent -/

/-- A frame goes out on a line. -/
def State.send (s : State) (r : SentRecord) : State := { s with sent := s.sent ++ [r] }

/-- The till of a bag, if any, as a field of a body. -/
def tillField (t : Option Nat) : List Datum := optional (t.map fun n => [.byte n])

/-! ### Notices (R175, R41) -/

/-- The kind is masked (R176). -/
def State.masked (s : State) (k : NoticeKind) : Bool := s.hli.mask.getLsbD (k.num - 128)

/-- A notice meets the mask and the capacity of the notice queue (R175). -/
def State.queueNotice (s : State) (n : Notice) : State :=
  if s.masked n.kind then s
  else if s.hli.notices.length < 32 then { s with hli := { s.hli with notices := s.hli.notices ++ [n] } }
  else { s with hli := { s.hli with lost := true } }

/-- A notice is written to the deferred-notice list, or marks its overflow (R41). -/
def State.deferNotice (s : State) (n : Notice) : State :=
  if s.oc.deferred.length < 32 then { s with oc := { s.oc with deferred := s.oc.deferred ++ [n] } }
  else { s with oc := { s.oc with deferredOver := true } }

/-- A block places a notice, with the office time of the operation (R175). The notices of a stop's or a restart's
resolution go to the deferred-notice list (R38, R41). -/
def State.place (s : State) (k : NoticeKind) (fields : List Datum) : State :=
  if s.phase = .running then s.queueNotice { kind := k, time := s.oc.clock, fields := fields }
  else s.deferNotice { kind := k, time := s.oc.clock, fields := fields }

/-! ### Replies and the transmit line (R171 to R174) -/

/-- When the transmit line is free, the oldest waiting reply begins, or else the notice at the head (R174). -/
def State.startTx (s : State) : State :=
  match s.hli.tx with
  | .idle =>
    match s.hli.replies with
    | r :: rs => { s with hli := { s.hli with tx := .reply r, replies := rs } }
    | [] =>
      match s.hli.notices with
      | n :: _ => { s with hli := { s.hli with tx := .notice n true } }
      | [] => s
  | _ => s

/-- The oldest request in the receive buffer not yet taken by its owner (R172). -/
def State.nextRequest (s : State) : Option BufferEntry := s.hli.buffer.find? fun e => !e.taken

/-- The oldest untaken entry marked taken. -/
def markTaken : List BufferEntry → List BufferEntry
  | [] => []
  | e :: es => if e.taken then e :: markTaken es else { e with taken := true } :: es

/-- A break: frame in progress, requests not taken, waiting replies with their places, notices and the notices-lost
flag are discarded; the frame being sent goes on to its last byte (R177). -/
def Hli.broken (h : Hli) : Hli :=
  { h with
    rx := [], spacing := true, replies := [], notices := [], lost := false
    buffer := match h.tx with
      | .reply r => if r.holdsPlace then h.buffer.take 1 else []
      | _ => []
    tx := match h.tx with
      | .notice n _ => .notice n false
      | t => t }

/-- A break comes next on the host line. -/
def State.breakWaits (s : State) : Bool :=
  match s.pending with
  | .lineBreak :: _ => true
  | _ => false

/-- The reply to a request that holds a place of the receive buffer is formed and waits to be sent (R173). A break that comes next
may be found while the owner takes the request: the request then stands, and the HLI, which has done what a break does, discards the
reply as it is formed, with its place (R177; a free value, log entry 46). -/
def State.queueReply (s : State) (r : Reply) : State :=
  let formed : Hli := { s.hli with replies := s.hli.replies ++ [r], buffer := markTaken s.hli.buffer, lastReply := some r }
  if s.breakWaits then
    { s with choices := s.choices + 1, hli := if Config.breakFound s.choices then { s.hli.broken with lastReply := some r } else formed }
  else { s with hli := formed }

/-- The reply to a request its owner has taken (R173). Where the request is the one the receive buffer hands over next
(R172), the reply carries that frame's tag and waits to be sent. Where it is not, the command stands for a request
whose frame is not shown, and its reply is kept as the last reply alone (log entry 2). -/
def State.formReply (s : State) (req : Instr) (status : Option Code) (detail : List Datum) : State :=
  match s.nextRequest with
  | some e =>
    if e.request = req then
      s.queueReply { tag := e.tag, kind := requestKind req, status := status, detail := detail, holdsPlace := true }
    else { s with hli := { s.hli with lastReply := some { tag := 0, kind := requestKind req, status := status, detail := detail, holdsPlace := false } } }
  | none =>
    { s with hli := { s.hli with lastReply := some { tag := 0, kind := requestKind req, status := status, detail := detail, holdsPlace := false } } }

/-- A reply of the line itself, to a rejected, unknown or malformed frame or a full buffer; with 8 such replies
waiting none is formed (R169, R170, R171, R174). -/
def State.lineReply (s : State) (tag kind : Nat) (c : Code) : State :=
  if (s.hli.replies.filter fun r => !r.holdsPlace).length < 8 then
    { s with hli := { s.hli with
      replies := s.hli.replies ++ [({ tag := tag, kind := kind, status := some c, detail := [], holdsPlace := false } : Reply)] } }
  else s

/-! ### Stock (R3, R5, R17) -/

/-- WORKING of a slot set to a count; a changed count meets the watermarks (R17). -/
def StockSlot.withWorking (x : StockSlot) (w : Nat) : StockSlot :=
  if w = x.working then x else { x with working := w, low := min x.low w, high := max x.high w }

/-- The counts of one slot changed. -/
def State.changeSlot (s : State) (d : Nat) (f : StockSlot → StockSlot) : State := s.setSlot d (f (s.slot d))

/-- Pieces taken from a source area of a slot. -/
def StockSlot.take (a : Source) (n : Nat) (x : StockSlot) : StockSlot :=
  match a with
  | .working => x.withWorking (x.working - n)
  | .unfit => { x with unfit := x.unfit - n }

/-- Pieces put back into a source area of a slot. -/
def StockSlot.give (a : Source) (n : Nat) (x : StockSlot) : StockSlot :=
  match a with
  | .working => x.withWorking (x.working + n)
  | .unfit => { x with unfit := x.unfit + n }

/-- The day totals changed by a report to OC (R27). -/
def State.tellOc (s : State) (f : Totals → Totals) : State := { s with oc := { s.oc with totals := f s.oc.totals } }

/-- Reservation of an owner (R14). -/
def State.reservationOf (s : State) (o : Owner) : Option Reservation := s.st.reservations.find? fun r => r.owner = o

/-- A reservation placed behind every record in the table (R14, R77). -/
def State.placeReservation (s : State) (r : Reservation) : State :=
  { s with st := { s.st with reservations := s.st.reservations ++ [r] } }

/-- An owner's reservation freed; no count changes (R15). -/
def State.freeReservation (s : State) (o : Owner) : State :=
  { s with st := { s.st with reservations := s.st.reservations.filter fun r => decide (r.owner ≠ o) } }

/-! ### Bag records (R86 to R90) -/

/-- A bag record changed; a FREE slot stays FREE. -/
def State.changeBag (s : State) (b : Nat) (f : Bag → Bag) : State :=
  match s.bag b with
  | none => s
  | some x => s.setBag b (some (f x))

/-- A bag changes state, which writes the time of last state change (R86). -/
def State.moveBag (s : State) (b : Nat) (st : BagState) : State :=
  s.changeBag b fun x => { x with state := st, changed := s.oc.clock }

/-- A new bag record with the fields every creation shares; the rest absent (R90). -/
def newBag (kind : BagKind) (st : BagState) (clock : OfficeTime) : Bag :=
  { sealNo := none, kind := kind, state := st, till := none, consignment := none, declared := none, lines := [],
    result := none, attempts := none, queueClass := none, bypass := none, changed := clock }

/-! ### The count queue (R99 to R101) -/

/-- A bag enters a class at its tail (R99). -/
def State.enqueueTail (s : State) (b : Nat) (c : QueueClass) : State :=
  let s1 := s.changeBag b fun x => { x with state := .queued, changed := s.oc.clock, queueClass := some c, bypass := some 0 }
  match c with
  | .priority => { s1 with br := { s1.br with priority := s1.br.priority ++ [b] } }
  | .ordinary => { s1 with br := { s1.br with ordinary := s1.br.ordinary ++ [b] } }

/-- A bag enters a class at its head (R98, R99, R101). -/
def State.enqueueHead (s : State) (b : Nat) (c : QueueClass) : State :=
  let s1 := s.changeBag b fun x => { x with state := .queued, changed := s.oc.clock, queueClass := some c, bypass := some 0 }
  match c with
  | .priority => { s1 with br := { s1.br with priority := b :: s1.br.priority } }
  | .ordinary => { s1 with br := { s1.br with ordinary := b :: s1.br.ordinary } }

/-- A bag leaves the queue for a station; the bags behind it close up (R101). -/
def State.dequeue (s : State) (b : Nat) : State :=
  let s1 := s.changeBag b fun x => { x with state := .counting, changed := s.oc.clock, queueClass := none, bypass := none }
  { s1 with br := { s1.br with
    priority := s1.br.priority.filter fun q => decide (q ≠ b)
    ordinary := s1.br.ordinary.filter fun q => decide (q ≠ b) } }

/-- The QUEUED bags of a till that starts to drain move from ORDINARY behind the PRIORITY class, in their order, with
their bypass counts kept (R100). -/
def State.drainToPriority (s : State) (n : Nat) : State :=
  let mine := fun b => decide ((s.bag b).bind Bag.till = some n)
  let moved := s.br.ordinary.filter mine
  let s1 := moved.foldl (fun u b => u.changeBag b fun x => { x with queueClass := some .priority }) s
  { s1 with br := { s1.br with
    priority := s1.br.priority ++ moved
    ordinary := s1.br.ordinary.filter fun b => !mine b } }

/-! ### Tills: reconciliation and evaluation (R52 to R62) -/

/-- A till record changed. -/
def State.changeTill (s : State) (n : Nat) (f : Till → Till) : State := s.setTill n (f (s.till n))

/-- The variance of a session: collected − (float total + K), signed (R62). -/
def Till.varianceOf (t : Till) : Int := (t.collected : Int) - ((t.floatTotal : Int) + (t.takings : Int))

/-- A DRAINING till whose session bags are all COUNTED or LOST reconciles (R62). The notice's fields are those of R62,
then the reduced flag that R74 reports with it (log entry 8). -/
def State.reconcile (s : State) (n : Nat) : State :=
  let t := s.till n
  if t.state = .draining ∧ s.bagsOutstanding t = 0 then
    let v := t.varianceOf
    let s1 := s.setTill n { t with state := .reconciled, variance := some v }
    let s2 := s1.tellOc fun q => { q with varianceSum := q.varianceSum + v, varianceCount := q.varianceCount + 1 }
    s2.place .tillReconciled [.byte n, .wide t.floatTotal, .amount t.takings, .wide t.pickups, .wide t.collected, .wide v, .mark t.reduced]
  else s

/-- BR tells TPS that a bag became COUNTED: its till's collected figure grows, and a DRAINING till is tested (R60). -/
def State.tellCounted (s : State) (b : Nat) : State :=
  match s.bag b with
  | none => s
  | some x =>
    match x.till with
    | none => s
    | some n => (s.changeTill n fun t => { t with collected := t.collected + (x.result.map CountResult.value).getD 0 }).reconcile n

/-- A bag becomes LOST: OC is told its declared value, or 0, and TPS is told for a till's bag (R61, R87). -/
def State.loseBag (s : State) (b : Nat) : State :=
  let x := (s.bag b).getD default
  let s1 := (s.moveBag b .lost).tellOc fun q => { q with lostBags := q.lostBags + 1, lostValue := q.lostValue + x.declared.getD 0 }
  match x.till with
  | none => s1
  | some n => s1.reconcile n

/-- An evaluation of an OPEN till at a trading minute (R54): it joins the pickup-due list, leaves it, or stays. -/
def State.evaluate (s : State) (n minute : Nat) : State :=
  let t := s.till n
  if t.state ≠ .opened then s
  else
    let ep := t.projection minute
    let threshold := classOf s.profile.threshold t.cls
    if !t.onList && decide (threshold ≤ ep) then
      let s1 := s.setTill n { t with onList := true }
      let s2 := { s1 with tps := { s1.tps with due := s1.tps.due ++ [({ till := n, minute := minute, projection := ep } : DueEntry)] } }
      s2.place .pickupDue [.byte n, .byte t.cls, .word minute, .amount ep, .word threshold]
    else if t.onList && decide (ep ≤ threshold - classOf s.profile.hysteresis t.cls) then
      let s1 := s.setTill n { t with onList := false }
      let s2 := { s1 with tps := { s1.tps with due := s1.tps.due.filter fun e => decide (e.till ≠ n) } }
      s2.place .pickupClear [.byte n, .word minute, .amount ep]
    else s

/-- A minute event: every OPEN till is evaluated, in order of number (R56). -/
def State.minuteEvent (s : State) (minute : Nat) : State :=
  let s1 := { s with oc := { s.oc with minuteTold := minute } }
  (upTo 96).foldl (fun u n => u.evaluate n minute) s1

/-- A bag joins a till's session: P grows, E is worked anew (R52, R57, R58). -/
def State.joinSession (s : State) (n b value : Nat) : State :=
  s.changeTill n fun t =>
    let t1 := { t with bags := t.bags ++ [b], pickups := t.pickups + value }
    { t1 with exposure := t1.exposureOf }

/-- A COMPOSED till returns to the prior state of its pending composition; any other till stays (R47, R48). -/
def State.uncompose (s : State) (n : Nat) : State :=
  s.changeTill n fun t =>
    if t.state = .composed then { t with state := (t.pending.map Composition.prior).getD .closed, pending := none } else t

/-- A float reservation expires or is removed at a restart: its till returns and FLOAT_EXPIRED is placed (R48, R66). -/
def State.floatExpired (s : State) (n : Nat) : State :=
  let c := (s.till n).pending.getD default
  ((s.freeReservation (.till n)).uncompose n).place .floatExpired [.byte n, .amount c.requested, .amount c.composed]

/-! ### Credits (R5, R6) -/

/-- Good pieces into WORKING and unfit pieces into UNFIT of one slot (R5). -/
def StockSlot.add (c : Counts) (x : StockSlot) : StockSlot :=
  { StockSlot.withWorking x (x.working + c.good) with unfit := x.unfit + c.unfit }

/-- A credit that fits is applied: stock, day totals, the bag COUNTED, TPS told (R5). -/
def State.applyCredit (s : State) (b : Nat) (t : Vector Counts 12) : State :=
  let s1 := s.slots.foldl (fun u d => u.changeSlot d (StockSlot.add (nth default t d))) s
  let s2 := s1.tellOc fun q =>
    { q with counted := q.counted + s.tallyValue (fun c => c.good + c.unfit) t, unfit := q.unfit + s.tallyValue Counts.unfit t }
  (s2.moveBag b .counted).tellCounted b

/-- The suspect pieces of a credit join the SUSPECT held counts, which saturate, and OC is told (R3, R5). -/
def State.addSuspects (s : State) (t : Vector Counts 12) : State :=
  let s1 := s.slots.foldl (fun u d => u.changeSlot d fun x => { x with suspect := min (x.suspect + (nth default t d).suspect) pieceLimit }) s
  s1.tellOc fun q =>
    { q with
      suspectPieces := q.suspectPieces + (s.slots.map fun d => (nth default t d).suspect).sum
      suspectValue := q.suspectValue + s.tallyValue Counts.suspect t }

/-- A credit is presented: taken whole, or held with its blocking set, its suspect pieces counted once (R5, R6). -/
def State.credit (s : State) (b : Nat) (t : Vector Counts 12) : State :=
  let s1 := s.addSuspects t
  match s1.creditFailures t with
  | [] => s1.applyCredit b t
  | (d, a) :: rest =>
    let entry : HeldCredit := { bag := b, counts := t.map fun c => { c with suspect := 0 }, blocking := (d, a) :: rest }
    let s2 := ({ s1 with st := { s1.st with held := s1.st.held ++ [entry] } }).moveBag b .creditHeld
    s2.place .creditHeld [.byte b, .byte d, a.areaCode]

/-- One held credit retested in the pass of a lowered slot and area (R6). -/
def State.retryOne (p : Nat × Source) (s : State) (e : HeldCredit) : State :=
  if p ∈ e.blocking then
    match s.creditFailures e.counts with
    | [] => ({ s with st := { s.st with held := s.st.held.filter fun h => decide (h.bag ≠ e.bag) } }).applyCredit e.bag e.counts
    | f :: fs => { s with st := { s.st with held := s.st.held.map fun h => if h.bag = e.bag then { h with blocking := f :: fs } else h } }
  else s

/-- One pass over the held-credit list, from the oldest entry (R6). -/
def State.retryPass (s : State) (p : Nat × Source) : State := s.st.held.foldl (State.retryOne p) s

/-- The passes after an operation that lowered these slots and areas, one after another (R6). -/
def State.retryPasses (s : State) (ps : List (Nat × Source)) : State := ps.foldl State.retryPass s

/-- The slots and areas that content lines lower, in slot order, WORKING before UNFIT (R6). -/
def loweredBy (ls : List ContentLine) : List (Nat × Source) := (sortLines ls).map fun l => (l.slot, l.source)

/-- The configured slots that stock lines name, in order. -/
def State.namedSlots (s : State) (ls : List StockLine) : List Nat := s.slots.filter fun d => decide (d ∈ ls.map StockLine.slot)

/-- Content lines taken from their source areas, all in one operation (R8, R11). -/
def State.takeLines (s : State) (ls : List ContentLine) : State :=
  ls.foldl (fun u l => u.changeSlot l.slot (StockSlot.take l.source l.pieces)) s

/-! ### The shutter (R95) -/

/-- The first failing condition of the shutter, in the order OFFICE_STATE, ORPHANS_FULL, STOP (R95). -/
def State.shutterFault (s : State) : Option Nat :=
  if s.oc.state ≠ .trading ∧ s.oc.state ≠ .closing then some 0
  else if s.freeOrphans.isEmpty then some 1
  else if s.phase = .stopping then some 2
  else none

/-- SLC decides the shutter afresh; a changed drive places SHUTTER (R95), with a presence byte before the failing condition
(DESIGN CHOICE, log entry 38). -/
def State.decideShutter (s : State) : State :=
  match s.shutterFault with
  | none =>
    if s.slc.shutter = .opened then s
    else ({ s with slc := { s.slc with shutter := .opened } }).place .shutter [ShutterDrive.opened.code, .present false]
  | some f =>
    if s.slc.shutter = .closed then s
    else ({ s with slc := { s.slc with shutter := .closed } }).place .shutter [ShutterDrive.closed.code, .present true, .enum f]

/-! ### Drops (R92 to R94) -/

/-- Reasons of an orphan drop, in the order of R93. -/
inductive OrphanReason
  | unknownSeal
  | stateMismatch (slot : Nat) (state : BagState)
  | noRead
deriving DecidableEq, Repr, Inhabited

/-- The reason and, for STATE_MISMATCH, the other record's slot and state (R93, R94), the two behind one presence byte (DESIGN
CHOICE, log entry 38). -/
def OrphanReason.fields : OrphanReason → List Datum
  | .unknownSeal => [.enum 0, .present false]
  | .stateMismatch b st => [.enum 1, .present true, .byte b, st.code]
  | .noRead => [.enum 2, .present false]

/-- An orphan drop: a record in the lowest FREE orphan slot, or none when the reserve is full; ORPHAN_BAG (R94). -/
def State.orphanDrop (s : State) (sealNo : Option Nat) (reason : OrphanReason) : State :=
  match s.freeOrphans with
  | [] => s.place .orphanBag ([.present false, .sealNo (sealNo.getD 0)] ++ reason.fields ++ [.count 0])
  | b :: rest =>
    let s1 := s.setBag b (some { newBag .unknown .orphan s.oc.clock with sealNo := sealNo })
    let s2 := s1.place .orphanBag ([.present true, .byte b, .sealNo (sealNo.getD 0)] ++ reason.fields ++ [.count rest.length])
    if rest.isEmpty then s2.decideShutter else s2

/-- A drop resolved with a seal, or with none: a matched drop queues its bag, any other makes an orphan (R93). -/
def State.resolveDrop (s : State) (sealNo : Option Nat) : State :=
  match sealNo with
  | none => s.orphanDrop none .noRead
  | some n =>
    match s.liveSeal n with
    | none => s.orphanDrop (some n) .unknownSeal
    | some (b, x) =>
      if x.state = .declared then
        let c := s.entryClass x.till
        let s1 := s.enqueueTail b c
        s1.place .bagDropped ([.byte b, .sealNo n, x.kind.code] ++ tillField x.till ++ [c.code, .count (s1.position b)])
      else s.orphanDrop (some n) (.stateMismatch b x.state)

/-- The oldest pending drop is resolved and removed (R92). -/
def State.resolveOldest (s : State) (sealNo : Option Nat) : State :=
  match s.br.drops with
  | [] => s
  | _ :: ds => ({ s with br := { s.br with drops := ds } }).resolveDrop sealNo

/-- A passage begins: a full list first resolves its oldest entry as no read (R92). -/
def State.passage (s : State) : State :=
  let s1 := if s.br.drops.length < 4 then s else s.resolveOldest none
  { s1 with br := { s1.br with drops := s1.br.drops ++ [({ began := s.oc.clock, wait := 2 } : PendingDrop)] } }

end Sys2Proof.Machine
end

