-- ==== Sys2Proof/Machine/LockOps.lean ====
section
/-! DEFINITION. The shared operations of SLC and of the handover in CHU: entering each lock state, the bolt
confirmation, alarms, collections joining and leaving an opening, the abandonment of a handover, and the sense
events (chapters 7 and 8). -/

namespace Sys2Proof.Machine

/-! ### Lock state and its notice (R135, R146) -/

/-- Causes of a change of lock state, in the order of R146. -/
inductive LockCause
  | request | collection | delayExpired | doorOpened | doorShut | windowExpired | boltConfirmed | cancelled
  | collectionCancelled | alarmCleared | openingLost
deriving DecidableEq, Repr, Inhabited

/-- The lock record changed. -/
def State.changeSlc (s : State) (f : Slc → Slc) : State := { s with slc := f s.slc }

/-- The bolt drive that a lock state holds: RETRACT in WINDOW and OPEN alone (R135). -/
def LockState.drive : LockState → BoltDrive
  | .window => .retract
  | .opened => .retract
  | _ => .throw

/-- The lock record in a state, with the drive of that state, an opening and a running timer (R135, Table 7.1). -/
def Slc.enter (l : Slc) (st : LockState) (o : Option Opening) (timer : Option Nat) : Slc :=
  { l with state := st, boltDrive := st.drive, opening := o, timer := timer }

/-- Source and windows left of an opening, behind one presence byte (DESIGN CHOICE, log entry 38). -/
def openingField (o : Option Opening) : List Datum := optional (o.map fun x => [x.source.code, .byte x.windows])

/-- The office time at which the running timer will expire, behind a presence byte (DESIGN CHOICE, log entry 38). -/
def State.timerField (s : State) : List Datum := optional (s.slc.timer.map fun n => [.time (s.oc.clock.later n)])

/-- LOCK_STATE (R146). -/
def State.lockNotice (s : State) (cause : LockCause) : State :=
  s.place .lockState ([s.slc.state.code] ++ openingField s.slc.opening ++ s.timerField ++ [.enum cause.ctorIdx])

/-- The lock enters a state and LOCK_STATE is placed (R146). -/
def State.enterLock (s : State) (st : LockState) (o : Option Opening) (timer : Option Nat) (cause : LockCause) : State :=
  (s.changeSlc fun l => l.enter st o timer).lockNotice cause

/-! ### What SLC tells CHU (R163) -/

/-- The handover record changed. -/
def State.setHandover (s : State) (h : Option Handover) : State := { s with chu := { s.chu with handover := h } }

/-- CHU is told that a window is reached: a VERIFIED handover becomes SCANNING and GO is sent (R163). -/
def State.tellWindow (s : State) : State :=
  match s.chu.handover with
  | some h =>
    if h.stage = .verified then
      (s.setHandover (some { h with stage := .scanning, received := [], step := some 120 })).send (.toDock .go)
    else s
  | none => s

/-! ### Window, delay, securing (R138 to R140) -/

/-- The lock becomes WINDOW: the bolt is drawn, the window timer starts, a waiting collection is told (R138). -/
def State.enterWindow (s : State) (o : Opening) (cause : LockCause) : State :=
  let told := if o.mark = some .waiting then { o with mark := some .told } else o
  let s1 := s.changeSlc fun l => l.enter .window (some told) (some (o.windowLen * 60))
  (if o.mark = some .waiting then s1.tellWindow else s1).lockNotice cause

/-- The lock becomes DELAY for the captured length; a length of 0 makes it WINDOW at once (R137, R140), with the cause given here and
not DELAY_EXPIRED (DEDUCED, log entry 43). -/
def State.enterDelay (s : State) (o : Opening) (cause : LockCause) : State :=
  if o.delayLen = 0 then s.enterWindow o cause else s.enterLock .delay (some o) (some (o.delayLen * 60)) cause

/-- A collection request in LOCKED: an opening of source COLLECTION (R137). -/
def State.takeCollection (s : State) : State :=
  s.enterDelay
    { source := .collection, operators := none, windows := 1, delayLen := s.profile.collectionDelay,
      windowLen := s.profile.lockWindow, mark := some .waiting } .collection

/-- The bolt is confirmed in SECURING: windows left falls by 1; the next delay, or LOCKED and then a pending
collection (R137, R140). -/
def State.boltConfirmed (s : State) : State :=
  let o := s.slc.opening.getD default
  let pending := s.slc.pendingCollection
  let s1 := s.changeSlc fun l => { l with pendingCollection := false }
  if 1 ≤ o.windows - 1 then
    s1.enterDelay { o with windows := o.windows - 1, mark := if pending then some .waiting else none } .boltConfirmed
  else
    let s2 := s1.enterLock .locked none none .boltConfirmed
    if pending then s2.takeCollection else s2

/-- The lock becomes SECURING: the bolt is thrown, the collection mark ends, 10 seconds start; a bolt already home is
confirmed in the same operation (R140). -/
def State.enterSecuring (s : State) (cause : LockCause) : State :=
  let s1 := s.enterLock .securing (s.slc.opening.map fun o => { o with mark := none }) (some 10) cause
  if s1.slc.bolt = .thrown then s1.boltConfirmed else s1

/-! ### Collections (R137, R145) -/

/-- SLC's answers to a collection request (R137). -/
inductive CollectionAnswer
  | reached | wait | refused
deriving DecidableEq, Repr, Inhabited

/-- A collection request: what SLC does and what it answers (R137). -/
def State.collectionRequest (s : State) : State × CollectionAnswer :=
  match s.slc.opening.bind Opening.mark with
  | some .waiting => (s, .wait)
  | some .told => (s, .reached)
  | none =>
    if s.slc.pendingCollection then (s, .wait)
    else
      let join := fun m => s.changeSlc fun l => { l with opening := l.opening.map fun o => { o with mark := some m } }
      match s.slc.state with
      | .locked => (s.takeCollection, if s.profile.collectionDelay = 0 then .reached else .wait)
      | .delay => (join .waiting, .wait)
      | .window => (join .told, .reached)
      | .opened => (join .told, .reached)
      | .securing => (s.changeSlc fun l => { l with pendingCollection := true }, .wait)
      | .alarm => (s, .refused)

/-- CHU cancels a collection: one still in DELAY is taken away, one whose window was reached stands (R145). -/
def State.cancelCollection (s : State) : State :=
  let s1 := s.changeSlc fun l => { l with pendingCollection := false }
  match s.slc.opening with
  | none => s1
  | some o =>
    if s.slc.state = .delay then
      if o.source = .collection then s1.enterLock .locked none none .collectionCancelled
      else s1.changeSlc fun l => { l with opening := some { o with mark := if o.mark = some .waiting then none else o.mark } }
    else s1

/-! ### Consignments and abandonment (R158, R166) -/

/-- A consignment record changed. -/
def State.changeConsignment (s : State) (c : Nat) (f : Consignment → Consignment) : State :=
  s.setConsignment c (f (s.consignment c))

/-- COLLECTION_MISSED for a consignment (R158). -/
def State.missedNotice (s : State) (c : Nat) : State :=
  let x := s.consignment c
  let k := x.schedule.getD default
  s.place .collectionMissed [.byte c, .ident k.courier, .ident k.route, .time k.latest, .count x.outbound.length, .count x.inbound.length]

/-- A SCHEDULED consignment whose latest is reached becomes MISSED (R158). -/
def State.missConsignment (s : State) (c : Nat) : State :=
  if (s.consignment c).state = .scheduled then (s.changeConsignment c fun x => { x with state := .missed }).missedNotice c else s

/-- The bags of a list that stand in a state. -/
def State.bagsIn (s : State) (bs : List Nat) (st : BagState) : List Nat :=
  bs.filter fun b => decide ((s.bag b).map Bag.state = some st)

/-- A handover is abandoned: bags go back, the collection is cancelled, the consignment becomes SCHEDULED or MISSED,
the handover IDLE; notices, and DONE except for RESTART (R166). -/
def State.abandonHandover (s : State) (reason : AbandonReason) : State :=
  match s.chu.handover with
  | none => s
  | some h =>
    let c := h.consignment
    let outs := s.bagsIn (s.consignment c).outbound .scanned
    let ins := s.bagsIn (s.consignment c).inbound .received
    let s1 := outs.foldl (fun u b => u.moveBag b .sealed) s
    let s2 := ins.foldl (fun u b => u.moveBag b .expected) s1
    let s3 := s2.cancelCollection
    let early := s.oc.clock.before (((s.consignment c).schedule.getD default).latest)
    let entered : ConsignmentState := if early then .scheduled else .missed
    let s4 := (s3.changeConsignment c fun x => { x with state := entered }).setHandover none
    let s5 := s4.place .handoverAbandoned [.byte c, reason.code, entered.code, .count outs.length, .count ins.length]
    let s6 := if early then s5 else s5.missedNotice c
    if reason = .restart then s6 else s6.send (.toDock (.done (some reason)))

/-- CHU is told that the opening ended without a window: a VERIFIED handover is abandoned with reason LOCK (R163). -/
def State.tellOpeningLost (s : State) : State :=
  match s.chu.handover with
  | some h => if h.stage = .verified then s.abandonHandover .lock else s
  | none => s

/-! ### Alarm (R141, R142) -/

/-- A collection waits on the opening or on the pending mark (R141). -/
def Slc.collectionWaits (l : Slc) : Bool := decide (l.opening.bind Opening.mark = some .waiting) || l.pendingCollection

/-- The lock record in ALARM with a reason added to the latch (R141, R142). -/
def Slc.toAlarm (l : Slc) (forced boltFault : Bool) : Slc :=
  { l.enter .alarm none none with
    forced := l.forced || forced, boltFault := l.boltFault || boltFault, alarm := .asserted, pendingCollection := false }

/-- The source of a removed opening, behind a presence byte (DESIGN CHOICE, log entry 38). -/
def sourceField (o : Option Opening) : List Datum := optional (o.map fun x => [x.source.code])

/-- A bolt fault: BOLT joins the latch, the lock is in ALARM, CHU is told, BOLT_FAULT (R141). An event taken in ALARM leaves no lock
state: the notice gives ALARM, and no source; the office time is a field of its own (DESIGN CHOICE, log entry 42). -/
def State.raiseBoltFault (s : State) : State :=
  let s1 := s.changeSlc fun l => l.toAlarm false true
  let s2 := if s.slc.collectionWaits then s1.tellOpeningLost else s1
  s2.place .boltFault ([s.slc.state.code] ++ sourceField s.slc.opening ++ [boltCode s.slc.bolt, doorCode s.slc.door, .time s.oc.clock])

/-- A forced door: FORCED joins the latch, the lock is in ALARM, CHU is told, FORCED_DOOR (R142). An event taken in ALARM leaves no
lock state: the notice gives ALARM, and no source; the office time is a field of its own (DESIGN CHOICE, log entry 42). -/
def State.raiseForcedDoor (s : State) : State :=
  let s1 := s.changeSlc fun l => l.toAlarm true false
  let s2 := if s.slc.collectionWaits then s1.tellOpeningLost else s1
  s2.place .forcedDoor ([s.slc.state.code] ++ sourceField s.slc.opening ++ [.time s.oc.clock])

/-! ### Sense events (R135, R139 to R142) -/

/-- The door sense changes to a level: the sensor state, then what the lock state makes of it. -/
def State.doorEvent (s : State) (x : DoorSense) : State :=
  let s1 := s.changeSlc fun l => { l with door := x }
  match x, s.slc.state with
  | .opened, .window => s1.enterLock .opened s1.slc.opening none .doorOpened
  | .opened, .opened => s1
  | .opened, .alarm => if s.slc.forced then s1 else s1.raiseForcedDoor
  | .opened, .locked => s1.raiseForcedDoor
  | .opened, .delay => s1.raiseForcedDoor
  | .opened, .securing => s1.raiseForcedDoor
  | .shut, .opened => s1.enterSecuring .doorShut
  | .shut, _ => s1

/-- The bolt sense changes to a level: the sensor state, then what the lock state makes of it. -/
def State.boltEvent (s : State) (x : BoltSense) : State :=
  let s1 := s.changeSlc fun l => { l with bolt := x }
  match x, s.slc.state with
  | .thrown, .securing => s1.boltConfirmed
  | .thrown, _ => s1
  | .retracted, .locked => s1.raiseBoltFault
  | .retracted, .delay => s1.raiseBoltFault
  | .retracted, .alarm => if s.slc.boltFault then s1 else s1.raiseBoltFault
  | .retracted, _ => s1

/-- The slot sense changes to a level: OCCUPIED is the start of a passage (R135). -/
def State.slotEvent (s : State) (x : SlotSense) : State :=
  let s1 := s.changeSlc fun l => { l with slot := x }
  match x with
  | .occupied => s1.passage
  | .clear => s1

/-! ### Start (R147) -/

/-- The opening record that a start makes (R147). -/
def State.startOpening (s : State) : Opening :=
  { source := .start, operators := none, windows := 1, delayLen := s.profile.lockDelay, windowLen := s.profile.lockWindow, mark := none }

/-- The lock state set from the sensor states and the latch (R147, Table 7.3), with every timer and the pending mark
cleared and SECURING's confirmation started. -/
def State.recomputeLock (s : State) : State :=
  let l := { s.slc with pendingCollection := false, shutter := .closed }
  let latched := l.forced || l.boltFault
  let l1 :=
    if latched then l.enter .alarm none none
    else
      match l.door, l.bolt with
      | .shut, .thrown => l.enter .locked none none
      | .shut, .retracted => l.enter .securing (some s.startOpening) (some 10)
      | .opened, _ => l.enter .opened (some s.startOpening) none
  { s with slc := { l1 with alarm := if latched then .asserted else .released } }

/-- SLC reads the three sense lines (R147). -/
def State.readSenses (s : State) : State := s.changeSlc fun l => { l with door := s.pins.door, bolt := s.pins.bolt, slot := s.pins.slot }

/-- SLC's resolution at a stop or restart: an opening in DELAY is lost, with a deferred notice (R147). The notice
carries the lost opening's source and windows left (R147), and the expiry time of the timer that runs in the state entered,
SECURING's confirmation (R146, log entry 15). -/
def State.resolveLock (s : State) : State :=
  let s1 := s.recomputeLock
  if s.slc.state = .delay then
    s1.place .lockState
      ([s1.slc.state.code] ++ openingField s.slc.opening ++ s1.timerField ++ [.enum LockCause.openingLost.ctorIdx])
  else s1

end Sys2Proof.Machine
end

