-- ==== Sys2Proof/Machine/StationOps.lean ====
section
/-! DEFINITION. The shared operations of CSC: sending to stations, the arbiter, the intake queue, applying a record,
halts, aborts and completion (chapter 6). -/

namespace Sys2Proof.Machine

/-- A station record changed. -/
def State.changeStation (s : State) (n : Nat) (f : Station → Station) : State := s.setStation n (f (s.station n))

/-- A record goes out to a station. -/
def State.sendStation (s : State) (n : Nat) (r : ToStation) : State := s.send (.toStation n r)

/-! ### Jobs (R106, R114) -/

/-- The count job of a bag. -/
def State.jobOf (s : State) (b : Nat) : Option CountJob := s.csc.jobs.find? fun j => j.bag = b

/-- The job of a station. -/
def State.stationJob (s : State) (n : Nat) : Option CountJob := (s.station n).job.bind fun j => s.jobOf j.bag

/-- The part of a job that a station counts. -/
def CountJob.part (j : CountJob) (n : Nat) : JobPart := (j.parts.find? fun p => p.station = n).getD default

/-- One part of the job of a bag changed. -/
def State.changePart (s : State) (b n : Nat) (f : JobPart → JobPart) : State :=
  { s with csc := { s.csc with jobs := s.csc.jobs.map fun j =>
    if j.bag = b then { j with parts := j.parts.map fun p => if p.station = n then f p else p } else j } }

/-- The stations of the job of a bag, lowest number first. -/
def State.jobStations (s : State) (b : Nat) : List Nat :=
  (upTo 4).filter fun n => decide ((s.station n).job.map StationJob.bag = some b)

/-- STATION for a station as it now stands, with the abort reason for an abort (R107); a presence byte stands before the reason,
the bag slot and the abort reason (DESIGN CHOICE, log entry 38). -/
def State.stationNotice (s : State) (n : Nat) (abort : Option AbortReason) : State :=
  let x := s.station n
  s.place .station ([.byte n, x.state.code] ++ x.state.reason ++ optional (x.job.map fun j => [.byte j.bag]) ++
    optional (abort.map fun r => [r.code]))

/-- A station without a job: the fields of R127 step 3 and R131 step 5. -/
def Station.clearJob (x : Station) (st : StationState) : Station :=
  { x with state := st, job := none, flow := .go, intake := [], silence := none }

/-! ### The arbiter (R111 to R114) -/

/-- A tally that is empty in every slot and class. -/
def emptyTally : Vector Counts 12 := Vector.replicate 12 { good := 0, unfit := 0, suspect := 0 }

/-- One station of an assignment: ASSIGNED with its portion, ASSIGN sent, its link-silence timer started (R110, R114). -/
def State.assignStation (b : Nat) (s : State) (a : Nat × Portion × Option Nat) : State :=
  let s1 := s.changeStation a.1 fun x =>
    { x with state := .assigned, flow := .go, intake := [], silence := some 30,
             job := some { bag := b, portion := a.2.1, partner := a.2.2, complete := false, resumeAssigned := false } }
  s1.sendStation a.1 (.assign (((s.bag b).bind Bag.sealNo).getD 0) a.2.1)

/-- An assignment of a bag to its stations, in one operation (R114). -/
def State.assign (s : State) (b : Nat) (as : List (Nat × Portion × Option Nat)) : State :=
  let job : CountJob :=
    { bag := b, parts := as.map fun a => { station := a.1, tally := emptyTally, doubt := none }, assigned := s.oc.clock,
      tolerance := s.profile.tolerance, policy := s.profile.haltPolicy }
  let s1 := s.dequeue b
  as.foldl (State.assignStation b) { s1 with csc := { s1.csc with jobs := s1.csc.jobs ++ [job] } }

/-- One step of a pass: what is assigned, or `none` when nothing is (R113). -/
def State.arbiterStep (s : State) : Option State :=
  match s.queue, s.idleStations with
  | [], _ => none
  | _, [] => none
  | h :: behind, i :: idle =>
    if s.needsPool h then
      match idle with
      | k :: _ => some (s.assign h [(i, .first, some k), (k, .second, some i)])
      | [] =>
        let passed := ((s.bag h).bind Bag.bypass).getD 0
        if passed < 3 then
          match behind.find? fun b => !s.needsPool b with
          | some b => some ((s.assign b [(i, .whole, none)]).changeBag h fun x => { x with bypass := some (passed + 1) })
          | none => none
        else none
    else some (s.assign h [(i, .whole, none)])

/-- Steps until one assigns nothing; each takes an IDLE station, so 4 are enough (R111). -/
def State.arbiterSteps : Nat → State → State
  | 0, s => s
  | k + 1, s =>
    match s.arbiterStep with
    | none => s
    | some s1 => State.arbiterSteps k s1

/-- A pass of the arbiter; it assigns nothing outside TRADING and CLOSING (R111). -/
def State.arbiterPass (s : State) : State :=
  if s.oc.state = .trading ∨ s.oc.state = .closing then State.arbiterSteps 4 s else s

/-! ### Flow (R117) -/

/-- GO to every station that is COUNTING with its flow PAUSED, at the end of an operation (R117). -/
def State.sendGos (s : State) : State :=
  (upTo 4).foldl (fun u n =>
    if (u.station n).state = .counting ∧ (u.station n).flow = .paused then
      (u.changeStation n fun x => { x with flow := .go }).sendStation n .go
    else u) s

/-- PAUSE to a station entering HELD with its flow GO (R117). -/
def State.pause (s : State) (n : Nat) : State :=
  if (s.station n).flow = .go then (s.changeStation n fun x => { x with flow := .paused }).sendStation n .pause else s

/-! ### Aborts (R127) -/

/-- The state of the station at fault after an abort (Table 6.4). -/
def AbortReason.faultState : AbortReason → StationState
  | .sequence => .held .sequence
  | .overrun => .held .overrun
  | .link => .offline .link
  | .mismatch => .idle
  | .disabled => .offline .disabled
  | .restart => .offline .start

/-- The state of a station of the job that is not at fault: it keeps a JAM, SUSPECT or DOUBT hold, else IDLE (R127). -/
def StationState.afterAbort : StationState → StationState
  | .held .jam => .held .jam
  | .held .suspect => .held .suspect
  | .held .doubt => .held .doubt
  | _ => .idle

/-- The bag of an aborted job: attempts grow by 1; below 2 it goes to the head of its class, at 2 it is COUNT_HELD with
its notice (R101, R127). -/
def State.requeueAborted (s : State) (b : Nat) (reason : AbortReason) : State :=
  match s.bag b with
  | none => s
  | some x =>
    let k := x.attempts.getD 0 + 1
    let s1 := s.setBag b (some { x with attempts := some k })
    if k < 2 then s1.enqueueHead b (s.entryClass x.till)
    else (s1.moveBag b .countHeld).place .countHeld ([.byte b, .sealNo (x.sealNo.getD 0), x.kind.code] ++ tillField x.till ++ [reason.code])

/-- An abort of the job of the station at fault, all but the arbiter's pass (R127, steps 1 to 6). The STATION notices of a
pooled job stand lowest station first (DESIGN CHOICE, log entry 34). -/
def State.abortJob (s : State) (n : Nat) (reason : AbortReason) : State :=
  match (s.station n).job with
  | none => s
  | some j =>
    let ns := s.jobStations j.bag
    let s1 := ns.foldl (fun u m => u.sendStation m .abort) s
    let s2 := { s1 with csc := { s1.csc with jobs := s1.csc.jobs.filter fun q => decide (q.bag ≠ j.bag) } }
    let s3 := ns.foldl (fun u m => u.changeStation m fun x =>
      x.clearJob (if m = n then reason.faultState else x.state.afterAbort)) s2
    let s4 := s3.requeueAborted j.bag reason
    ns.foldl (fun u m => u.stationNotice m (some reason)) s4

/-! ### Halts (R122, R123) -/

/-- A station is held with a reason: its timer stops, PAUSE, STATION (R117, R122). -/
def State.hold (s : State) (n : Nat) (r : HoldReason) : State :=
  ((s.changeStation n fun x => { x with state := .held r, silence := none }).pause n).stationNotice n none

/-- The partner of a halted station, COUNTING or ASSIGNED with its portion not complete, is held for POOL (R123). -/
def State.holdPartner (s : State) (n : Nat) : State :=
  match (s.station n).job.bind StationJob.partner with
  | none => s
  | some p =>
    let x := s.station p
    match x.job with
    | none => s
    | some k =>
      if !k.complete ∧ (x.state = .counting ∨ x.state = .assigned) then
        (s.setStation p { x with job := some { k with resumeAssigned := decide (x.state = .assigned) } }).hold p .pool
      else s

/-- A halt of a station, and of its partner with it (R122, R123); the halting station's STATION stands first (DESIGN CHOICE, log
entry 34). -/
def State.halt (s : State) (n : Nat) (r : HoldReason) : State := (s.hold n r).holdPartner n

/-- The hold that a suspect piece causes under a policy (R122). -/
def HaltPolicy.onSuspect : HaltPolicy → Bool
  | .none => false
  | .suspect => true
  | .suspectAndDoubt => true

/-- The hold that a doubtful piece causes under a policy (R122). -/
def HaltPolicy.onDoubt : HaltPolicy → Bool
  | .suspectAndDoubt => true
  | _ => false

/-! ### Completion (R129 to R131) -/

/-- Two tallies summed slot by slot and class by class (R130). -/
def addTallies (a b : Vector Counts 12) : Vector Counts 12 :=
  Vector.zipWith (fun x y => { good := x.good + y.good, unfit := x.unfit + y.unfit, suspect := x.suspect + y.suspect }) a b

/-- Unfit pieces of ROLL slots counted as good (R131, step 1). -/
def State.rollsGood (s : State) (t : Vector Counts 12) : Vector Counts 12 :=
  Vector.ofFn fun (i : Fin 12) =>
    let c := t[i.val]
    if s.isRoll (i.val + 1) then { c with good := c.good + c.unfit, unfit := 0 } else c

/-- What a completed count writes into the bag (R131, step 1). The figures of its tally are exact sums, also above
16,777,215, where a reply gives their low 24 bits (DESIGN CHOICE, log entry 36). -/
def State.countResult (s : State) (j : CountJob) (declared : Nat) : CountResult :=
  let t := s.rollsGood (j.parts.foldl (fun a p => addTallies a p.tally) emptyTally)
  let value := s.tallyValue (fun c => c.good + c.unfit) t
  { tally := t, value := value, variance := (value : Int) - (declared : Int), flag := decide (j.tolerance < ((value : Int) - (declared : Int)).natAbs) }

/-- COUNT_DONE, VARIANCE and SUSPECT_FOUND of a completion, in that order (R131, step 3). The suspect pieces in total of
COUNT_DONE take 8 bytes (DESIGN CHOICE, log entry 32). -/
def State.countNotices (s : State) (b : Nat) (x : Bag) (j : CountJob) (r : CountResult) : State :=
  let suspects := s.slots.map fun d => (nth default r.tally d).suspect
  let declared := x.declared.getD 0
  let s1 := s.place .countDone ([.byte b, .sealNo (x.sealNo.getD 0), x.kind.code] ++ tillField x.till ++
    [.amount declared, .wide r.value, .wide r.variance, .mark r.flag, .wide suspects.sum] ++
    counted (j.parts.map fun p => [.byte p.station]))
  let s2 := if r.flag then s1.place .variance ([.byte b] ++ tillField x.till ++ [.amount declared, .wide r.value, .wide r.variance, .word j.tolerance]) else s1
  if suspects.sum = 0 then s2 else s2.place .suspectFound ([.byte b] ++ counted (suspects.map fun n => [.pieces n]))

/-- A job completes, all but the arbiter's pass (R131, steps 1 to 5). -/
def State.completeJob (s : State) (b : Nat) : State :=
  match s.jobOf b, s.bag b with
  | some j, some x =>
    let r := s.countResult j (x.declared.getD 0)
    let s1 := s.setBag b (some { x with result := some r })
    let s2 := (s1.countNotices b x j r).credit b r.tally
    let ns := s.jobStations b
    let s3 := { s2 with csc := { s2.csc with jobs := s2.csc.jobs.filter fun q => decide (q.bag ≠ b) } }
    ns.foldl (fun u m => u.changeStation m fun y => y.clearJob .idle) s3
  | _, _ => s

/-- A portion is complete; the job completes with the last (R129). -/
def State.completePortion (s : State) (n : Nat) (k : StationJob) : State :=
  let s1 := s.changeStation n fun x => { x with silence := none, job := some { k with complete := true } }
  match k.partner with
  | none => s1.completeJob k.bag
  | some p => if (s1.station p).job.any StationJob.complete then s1.completeJob k.bag else s1

/-! ### Applying a record (R115, R116, R119 to R122, R129) -/

/-- A count of a tally grows in one slot (R119). -/
def addCount (t : Vector Counts 12) (d : Nat) (f : Counts → Counts) : Vector Counts 12 := putNth t d (f (nth default t d))

/-- Pieces added to a station's tally, unless a count would pass 16,777,215, which is a faulty record (R119, R121).
The doubt mark becomes the one given. -/
def State.tallyOr (s : State) (b n d : Nat) (f : Counts → Counts) (doubt : Option Nat) (t : Vector Counts 12) : State :=
  let t1 := addCount t d f
  let c := nth default t1 d
  if c.good ≤ pieceLimit ∧ c.unfit ≤ pieceLimit ∧ c.suspect ≤ pieceLimit then
    s.changePart b n fun p => { p with tally := t1, doubt := doubt }
  else s.abortJob n .sequence

/-- The station still has the job of this bag: the record did not abort it. -/
def State.onJob (s : State) (n b : Nat) : Bool := decide ((s.station n).job.map StationJob.bag = some b)

/-- A tally effect, then a halt when the record was good and the policy asks for it (R122). -/
def State.haltIf (s : State) (n b : Nat) (wanted : Bool) (r : HoldReason) : State :=
  if wanted && s.onJob n b then s.halt n r else s

/-- A record applied for a station in COUNTING whose portion is not complete (Table 6.3, R121, R122, R129). -/
def State.applyCounting (s : State) (n : Nat) (k : StationJob) (j : CountJob) (r : StationRecord) : State :=
  let p := j.part n
  let b := k.bag
  match r with
  | .ready => s.abortJob n .sequence
  | .sealRead _ => s.abortJob n .sequence
  | .strap d pieces good =>
    if s.slotOk d && decide (1 ≤ pieces ∧ pieces ≤ 100) then
      s.tallyOr b n d (fun c => if good then { c with good := c.good + pieces } else { c with unfit := c.unfit + pieces }) p.doubt p.tally
    else s.abortJob n .sequence
  | .suspect d =>
    if s.slotOk d then
      (s.tallyOr b n d (fun c => { c with suspect := c.suspect + 1 }) p.doubt p.tally).haltIf n b j.policy.onSuspect .suspect
    else s.abortJob n .sequence
  | .doubt d =>
    if s.slotOk d && p.doubt.isNone then
      (s.changePart b n fun q => { q with doubt := some d }).haltIf n b j.policy.onDoubt .doubt
    else s.abortJob n .sequence
  | .doubtCleared accepted =>
    match p.doubt with
    | none => s.abortJob n .sequence
    | some d =>
      if accepted then s.tallyOr b n d (fun c => { c with good := c.good + 1 }) none p.tally
      else (s.tallyOr b n d (fun c => { c with suspect := c.suspect + 1 }) none p.tally).haltIf n b j.policy.onSuspect .suspect
  | .jam => s.halt n .jam
  | .totals t =>
    if p.doubt.isSome then s.abortJob n .sequence
    else if t = p.tally then s.completePortion n k
    else s.abortJob n .mismatch

/-- A record applied from the intake queue (R115, R116). -/
def State.applyRecord (s : State) (n : Nat) (r : StationRecord) : State :=
  match (s.station n).job, s.stationJob n with
  | some k, some j =>
    match (s.station n).state with
    | .assigned =>
      match r with
      | .sealRead q =>
        if q ≠ 0 ∧ (s.bag k.bag).bind Bag.sealNo = some q then s.changeStation n fun x => { x with state := .counting }
        else s.abortJob n .sequence
      | _ => s.abortJob n .sequence
    | .counting => if k.complete then s.abortJob n .sequence else s.applyCounting n k j r
    | _ => s
  | _, _ => s

/-- The station applies records: it is ASSIGNED or COUNTING (R116). -/
def Station.applies (x : Station) : Bool := decide (x.state = .assigned ∨ x.state = .counting)

/-- Queued records applied from the head until the queue is empty or the station stops applying (R116); the fuel is the
length of the queue. -/
def State.drain : Nat → Nat → State → State
  | 0, _, s => s
  | k + 1, n, s =>
    match (s.station n).intake with
    | [] => s
    | r :: rs =>
      if (s.station n).applies then
        State.drain k n ((s.changeStation n fun x => { x with intake := rs }).applyRecord n r)
      else s

/-! ### Arrival (R108 to R110, R118) -/

/-- A record enters the intake queue, which restarts a running link-silence timer; a full queue aborts the job; a
station that is not HELD applies it in the same operation (R108, R110, R116, R118). -/
def State.enterIntake (s : State) (n : Nat) (r : StationRecord) : State :=
  if (s.station n).intake.length < 16 then
    let s1 := s.changeStation n fun x => { x with intake := x.intake ++ [r], silence := x.silence.map fun _ => 30 }
    State.drain (s1.station n).intake.length n s1
  else s.abortJob n .overrun

/-- READY at a station that is OFFLINE and enabled (R109). -/
def State.stationOnline (s : State) (n : Nat) : State :=
  if (s.station n).enabled then
    (s.changeStation n fun x => { x with state := .idle, flow := .go, intake := [] }).stationNotice n none
  else s

/-- A well-framed record arrives on a station line (R108). -/
def State.stationArrival (s : State) (n : Nat) (r : StationRecord) : State :=
  let x := s.station n
  match x.job with
  | none =>
    match x.state with
    | .offline _ => if r = .ready then s.stationOnline n else s
    | _ => s
  | some k =>
    if x.state = .assigned ∨ k.complete then
      if r = .ready then s else s.enterIntake n r
    else s.enterIntake n r

/-! ### CLEAR STATION (R124) -/

/-- A HELD station of a job whose hold ends: back to COUNTING, or to ASSIGNED after a POOL hold that began there; its
timer starts again; STATION (R110, R123, R124). -/
def State.endHold (s : State) (n : Nat) : State :=
  let x := s.station n
  match x.state, x.job with
  | .held r, some k =>
    let st : StationState := if r = .pool ∧ k.resumeAssigned then .assigned else .counting
    (s.setStation n { x with state := st, job := some { k with resumeAssigned := false },
                             silence := if k.complete then none else some 30 }).stationNotice n none
  | _, _ => s

/-- The hold of a job ends: its HELD stations return, then their queues are applied, the lower-numbered first (R124). The STATION
notices of both stand before any queued record is applied, the lower-numbered station's first (DESIGN CHOICE, log entry 34). -/
def State.endHolds (s : State) (b : Nat) : State :=
  let ns := s.jobStations b
  let s1 := ns.foldl State.endHold s
  ns.foldl (fun u n => State.drain (u.station n).intake.length n u) s1

/-! ### Stop and restart (R105, R133) -/

/-- `a` stands before `b` in the order of R105: later change first, ties by descending slot. -/
def laterChanged (a b : Nat × Bag) : Bool :=
  b.2.changed.before a.2.changed || (decide (a.2.changed = b.2.changed) && decide (b.1 < a.1))

/-- A COUNTING bag inserted in the order of R105. -/
def insertCounting (x : Nat × Bag) : List (Nat × Bag) → List (Nat × Bag)
  | [] => [x]
  | y :: ys => if laterChanged x y then x :: y :: ys else y :: insertCounting x ys

/-- The COUNTING bags in the order of R105. -/
def State.countingBags (s : State) : List Nat :=
  (((s.bagList.filter fun p => decide (p.2.state = .counting)).foldr insertCounting [])).map Prod.fst

/-- CSC's and BR's resolution of the jobs at a stop or restart: ABORT to every station of a job, the COUNTING bags
requeued or parked in the order of R105, every station OFFLINE with reason START (R105, R133). -/
def State.resolveJobs (s : State) : State :=
  let s1 := (upTo 4).foldl (fun u n => if (u.station n).job.isSome then u.sendStation n .abort else u) s
  let s2 := { s1 with csc := { s1.csc with jobs := [] } }
  let s3 := s2.countingBags.foldl (fun u b => u.requeueAborted b .restart) s2
  (upTo 4).foldl (fun u n => u.changeStation n fun x => x.clearJob (.offline .start)) s3

end Sys2Proof.Machine
end

