-- ==== Sys2Proof/Machine/OfficeOps.lean ====
section
/-! DEFINITION. How an operation is taken and ended: the answer of an owner to a request, the arbiter's pass and the
closing test at the end of an operation, the close of the day, the bodies of replies that are lists, and the
resolution of a stop or a restart (chapters 2, 6 and 9). -/

namespace Sys2Proof.Machine

/-! ### The arbiter's pass at the end of an operation (R111) -/

/-- A station was made IDLE, or made OFFLINE from a state that was not OFFLINE; a change of the OFFLINE reason alone is
neither (R111, R126). -/
def newlyFree (before now : StationState) : Bool :=
  match now, before with
  | .idle, .idle => false
  | .idle, _ => true
  | .offline _, .offline _ => false
  | .offline _, _ => true
  | _, _ => false

/-- The operation that led from `s0` to `s` starts a pass: it ended a job or made a station IDLE or OFFLINE, placed
a bag in the count queue, brought the office to TRADING or CLOSING, or switched the profile (R111, R127, R131). -/
def State.passDue (s0 s : State) : Bool :=
  decide (s.csc.jobs.length < s0.csc.jobs.length) ||
    (upTo 4).any (fun n => newlyFree (s0.station n).state (s.station n).state) ||
    s.queue.any (fun b => decide (b ∉ s0.queue)) ||
    decide (s.oc.state ≠ s0.oc.state ∧ (s.oc.state = .trading ∨ s.oc.state = .closing)) ||
    decide (s.oc.active ≠ s0.oc.active)

/-- The pass and then the GOs, at the end of the operation that led from `s0` to `s` (R111, R117). -/
def State.endPass (s0 s : State) : State := (if s0.passDue s then s.arbiterPass else s).sendGos

/-! ### The close of the day (R25, R28, R63, R104, R156) -/

/-- The totals of Table 2.2 as fields. -/
def Totals.fields (t : Totals) : List Datum :=
  [.wide t.floatsIssued, .wide t.topUps, .wide t.counted, .wide t.unfit, .wide t.suspectPieces, .wide t.suspectValue,
   .wide t.varianceSum, .wide t.varianceCount, .wide t.handedOver, .wide t.received, .wide t.lostBags, .wide t.lostValue]

/-- A day summary as fields (R28). A presence byte stands before the open mark, though a summary always has one (DESIGN CHOICE,
log entry 38). -/
def DaySummary.fields (d : DaySummary) : List Datum :=
  optional (d.openMark.map fun m => [.time m]) ++ [.time d.closed, .word d.minute] ++ d.totals.fields ++
    counted (d.slots.map fun x => [.pieces x.suspect, .pieces x.low, .pieces x.high]) ++ [.wide d.stockValue]

/-- The five outstanding figures as fields (R24). -/
def Outstanding.fields (o : Outstanding) : List Datum :=
  [.count o.tills, .count o.bags, .count o.reservations, .count o.handover, .count o.lock]

/-- The day summary formed at a close (R28). -/
def State.summarize (s : State) : DaySummary :=
  { openMark := s.oc.openMark, closed := s.oc.clock, minute := s.minute, totals := s.oc.totals,
    slots := s.slots.map fun d => { suspect := (s.slot d).suspect, low := (s.slot d).low, high := (s.slot d).high },
    stockValue := s.stockValue }

/-- A bag in COUNTED, LOST or HANDED_OVER, which the close frees (R104). -/
def Bag.finished (x : Bag) : Bool := decide (x.state = .counted ∨ x.state = .lost ∨ x.state = .handedOver)

/-- The slot of a bag that the close frees. -/
def State.finishedSlot (s : State) (b : Nat) : Bool := (s.bag b).any Bag.finished

/-- A consignment at the close: DONE and CANCELLED are freed; the others lose the freed slots from their lists (R25,
R156). -/
def State.closeConsignment (s : State) (c : Consignment) : Consignment :=
  if c.state = .done ∨ c.state = .cancelled then Consignment.atColdStart
  else { c with outbound := c.outbound.filter fun b => !s.finishedSlot b, inbound := c.inbound.filter fun b => !s.finishedSlot b }

/-- The day closes, all but the notice (R25). -/
def State.closeDay (s : State) : State :=
  let s1 : State :=
    { s with
      oc := { s.oc with summary := some s.summarize, totals := Totals.zero, state := .closedDay }
      br := { s.br with bags := s.br.bags.map fun o => o.filter fun x => !x.finished }
      chu := { s.chu with consignments := s.chu.consignments.map s.closeConsignment }
      tps := { s.tps with tills := s.tps.tills.map fun t => if t.state = .reconciled then { t with bags := [] } else t } }
  s1.decideShutter

/-- The closing test at the end of an operation; a day that closes from CLOSING places DAY_CLOSED (R25), behind every other notice
of the operation, the SHUTTER of the close among them (R182). -/
def State.closingTest (s : State) : State :=
  if s.oc.state = .closing ∧ s.outstanding.total = 0 then s.closeDay.place .dayClosed s.summarize.fields else s

/-- The end of the operation that led from `s0` to `s`: the pass, the GOs, the closing test (R111, R117, R25, R182). -/
def State.settle (s0 s : State) : State := (s0.endPass s).closingTest

/-! ### Requests and events (R172, R173) -/

/-- What an owner answers to a request: a refusal, which changes no record, or the state that the request leaves;
each with the detail of the reply. -/
inductive Answer
  | refuse (c : Code) (detail : List Datum)
  | accept (s : State) (detail : List Datum)
deriving DecidableEq, Repr

/-- A request is taken by its owner and its reply formed (R172, R173). Nothing is taken while the part does not run. -/
def takeRequest (req : Instr) (op : State → Answer) (s : State) : Host.Outcome State Fault Refusal :=
  if s.phase = .running then
    match op s with
    | .refuse c d => .next (s.formReply req (some c) d).startTx
    | .accept s1 d => .next (s1.formReply req none d).startTx
  else .next s

/-- An owner's answer with the end of its operation (R111, R25). -/
def settled (op : State → Answer) (s : State) : Answer :=
  match op s with
  | .refuse c d => .refuse c d
  | .accept s1 d => .accept (s.settle s1) d

/-- HELD refuses every request kind of Table 9.1 but RESUME and SET NOTICES, before any other test (R21). -/
def unlessHeld (op : State → Answer) (s : State) : Answer :=
  if s.oc.state = .held then .refuse .held [] else op s

/-- An event reaches a block other than by a request (R172). Nothing happens while the part does not run. -/
def takeEvent (f : State → State) (s : State) : Host.Outcome State Fault Refusal :=
  if s.phase = .running then .next (s.settle (f s)).startTx else .next s

/-- Something happens on a line: what it makes of the state, and then the transmit line goes on. An operation that a frame
carries to a block ends within `f`. Nothing happens while the part does not run. -/
def takeLineEvent (f : State → State) (s : State) : Host.Outcome State Fault Refusal :=
  if s.phase = .running then .next (f s).startTx else .next s

/-! ### Reply bodies that are lists (R173, Table 10.3) -/

/-- Bytes of one entry. -/
def entrySize (e : List Datum) : Nat := (e.map Datum.size).sum

/-- The entries from the head, as many whole ones as fit in a room. -/
def fitting : Nat → List (List Datum) → List (List Datum)
  | _, [] => []
  | room, e :: es => if entrySize e ≤ room then e :: fitting (room - entrySize e) es else []

/-- A part of a list: the entries that fit beside `other` bytes, the number given, then the total that the rule names
(Table 10.3). The status and the number given take two bytes more of the 480. -/
def listing (other : Nat) (es : List (List Datum)) (total : List Datum) : List Datum :=
  let given := fitting (478 - other) es
  given.flatten ++ [.count given.length] ++ total

/-! ### Minute event and the clock (R22, R30, R31) -/

/-- OC passes one minute event carrying the current trading minute, in TRADING and CLOSING (R22, R30). -/
def State.tellMinute (s : State) : State :=
  if s.oc.state = .trading ∨ s.oc.state = .closing then s.minuteEvent s.minute else s

/-- Latests at or before the clock are acted on, in order of consignment number (R31, R158, R168). -/
def State.missReached (s : State) : State :=
  (upTo 8).foldl (fun u c => if !u.oc.clock.before ((u.consignment c).schedule.getD default).latest then u.missConsignment c else u) s

/-! ### Stop and start (R38 to R42) -/

/-- TPS and RT: every COMPOSED till returns to its prior state, in order of number; no float reservation stays (R19,
R66). -/
def State.resolveTills (s : State) : State :=
  let s1 := ((upTo 96).filter fun n => decide ((s.till n).state = .composed)).foldl State.floatExpired s
  { s1 with st := { s1.st with reservations := s1.st.reservations.filter fun r => match r.owner with | .till _ => false | .bag _ => true } }

/-- BR: every pending drop is resolved with no read, oldest first (R105). -/
def State.resolveDrops (s : State) : State := s.br.drops.foldl (fun u _ => u.resolveOldest none) s

/-- The resolution that every block applies at a controlled stop and at a restart (R38, R41), the blocks in the order
TPS, BR, CSC, SLC, CHU (log entry 16). -/
def State.resolution (s : State) : State := (s.resolveTills.resolveDrops.resolveJobs.resolveLock).abandonHandover .restart

/-- The office becomes HELD and remembers the state it was in; a HELD office keeps what it remembers (R38, R41). -/
def State.enterHeld (s : State) : State :=
  if s.oc.state = .held then s else { s with oc := { s.oc with remembered := some s.oc.state, state := .held } }

/-- HLI drops what it holds of the line: frame in progress, requests, replies, notices; a frame being sent is cut off
(R38, R178). -/
def Hli.cleared (h : Hli) : Hli := { h with rx := [], spacing := false, buffer := [], replies := [], tx := .idle, notices := [] }

/-- The controlled stop (R38): the HLI stops, the shutter closes, every block resolves, the office is HELD, the
clean-stop mark is written. The SHUTTER of the close is the first of the deferred notices (DEDUCED, log entry 10). -/
def State.controlledStop (s : State) : State :=
  let s1 : State := { s with phase := .stopping, hli := s.hli.cleared, receivers := Receivers.rest }
  { s1.decideShutter.resolution.enterHeld with clean := true, phase := .stopped }

/-- RESTART is placed before any other notice, masked or not (R39, R178). -/
def State.placeRestart (s : State) (k : StartKind) : State :=
  { s with
    oc := { s.oc with lastStart := k }
    hli := { s.hli with notices := [{ kind := .restart, time := s.oc.clock, fields := [k.code] }] } }

/-- A cold start: every record at its cold-start value, the lock by Table 7.3 from the sense lines, RESTART COLD (R40,
R147, R178). The queue of commands, the input lines and the model's own records stay. -/
def State.coldStart (s : State) : State :=
  let s1 : State :=
    { State.reset with
      pending := s.pending, pins := s.pins, sent := s.sent, choices := s.choices
      hli := { Hli.atColdStart with lastReply := s.hli.lastReply } }
  s1.readSenses.recomputeLock

/-- The reset input, or the loss of the supply, comes next: the two that stop the part at once (R39). -/
def State.stopWaits (s : State) : Bool :=
  match s.pending with
  | .resetAssert :: _ => true
  | .powerLoss :: _ => true
  | _ => false

/-- A cold start as the part performs it. Where the reset input or the loss of the supply comes next, it may come before the
validity mark is written: the mark is then absent, no notice is sent, and the part, which has not begun to run, stops where it
stands, so that its next start is cold again (R39, R40; a free value, log entry 44). -/
def State.performColdStart (s : State) : State :=
  if s.stopWaits then
    let s1 : State := { s with choices := s.choices + 1 }
    if Config.coldStartCut s.choices then { s1 with valid := false, phase := .starting } else s1.coldStart
  else s.coldStart

/-- A warm restart (R41, R168, R178): the clean-stop mark is cleared, the sense lines are read, the resolution is
applied, passed latests are missed, the office is HELD, RESTART says WARM or WARM UNCLEAN. A shutter drive stored OPEN, after
an unclean stop, is CLOSED with no SHUTTER notice (DESIGN CHOICE, log entry 35). -/
def State.warmRestart (s : State) : State :=
  let kind : StartKind := if s.clean then .warm else .warmUnclean
  let s1 : State := { s with clean := false, hli := { s.hli.cleared with lost := false }, receivers := Receivers.rest }
  let s2 := (s1.changeSlc fun l => { l with shutter := .closed }).readSenses
  let s3 := (s2.resolution.missReached.enterHeld).placeRestart kind
  { s3 with phase := .running }.startTx

/-- What the transmit side is sending, as a frame of the line. -/
def Transmit.frame : Transmit → List SentRecord
  | .idle => []
  | .reply r => [.reply r]
  | .notice n _ => [.notice n]

/-- The frame being sent and the replies waiting go out to the last, before the records are erased (R42). -/
def State.flush (s : State) : State :=
  { s with
    sent := s.sent ++ s.hli.tx.frame ++ s.hli.replies.map SentRecord.reply
    hli := { s.hli with tx := .idle, replies := [] } }

end Sys2Proof.Machine
end

