-- ==== Sys2Proof/Machine/LineOps.lean ====
section
/-! DEFINITION. The shared operations of the lines: the receiver of the host line byte by byte (R169 to R171), and the
frames of the partner lines, with the dialogue of the dock (R160 to R167, R180). -/

namespace Sys2Proof.Machine

/-! ### The receiver of the host line (R169 to R171) -/

/-- The receiver's bytes replaced. -/
def State.setRx (s : State) (bs : List Byte) : State := { s with hli := { s.hli with rx := bs } }

/-- A frame that reaches no owner is answered by the line itself; a line that is free begins the answer at once, so that it
does not wait (R174). -/
def State.answerFrame (s : State) (tag kind : Nat) (c : Code) : State := (s.lineReply tag kind c).startTx

/-- A rejected frame: discarded whole, answered FRAME with tag 0 and kind 0 (R169). -/
def State.rejectFrame (s : State) : State := (s.setRx []).answerFrame 0 0 .frame

/-- A frame whose CRC agrees: UNKNOWN, FRAME, BUSY, or a place in the receive buffer (R170, R171). -/
def State.takeFrame (s : State) (kind tag : Nat) (body : List Byte) : State :=
  if kind = 0 ∨ 58 < kind then s.answerFrame tag kind .unknown
  else
    match decodeRequest kind body with
    | none => s.answerFrame tag kind .frame
    | some r =>
      if s.hli.buffer.length < 4 then
        { s with hli := { s.hli with buffer := s.hli.buffer ++ [({ tag := tag, request := r, taken := false } : BufferEntry)] } }
      else s.answerFrame tag kind .busy

/-- Length field of the frame in progress (Table 10.1). -/
def frameLength (bs : List Byte) : Nat := natOfBytes ((bs.drop 1).take 2)

/-- A whole frame: its CRC is compared, and it is rejected or taken (R169, R170). -/
def State.endFrame (s : State) (bs : List Byte) : State :=
  let len := frameLength bs
  if natOfBytes ((bs.drop (6 + len)).take 2) = (crc16 ((bs.drop 1).take (5 + len))).toNat then
    (s.setRx []).takeFrame (natOfBytes ((bs.drop 3).take 1)) (natOfBytes ((bs.drop 4).take 2)) ((bs.drop 6).take len)
  else s.rejectFrame

/-- One byte arrives on the host line (R169). While a break holds the line no byte is taken (R177). -/
def State.takeByte (s : State) (b : Byte) : State :=
  if s.hli.spacing then s
  else
    match s.hli.rx with
    | [] => if b = startMarker then s.setRx [b] else s
    | c :: cs =>
      let bs := c :: (cs ++ [b])
      if bs.length < 6 then s.setRx bs
      else if 480 < frameLength bs then s.rejectFrame
      else if bs.length < 8 + frameLength bs then s.setRx bs
      else s.endFrame bs

/-! ### Frames sent (R171, R174) -/

/-- The last byte of the reply being sent is sent: the place of its request is given up (R171). -/
def State.replySent (s : State) : State :=
  match s.hli.tx with
  | .reply r =>
    let s1 := s.send (.reply r)
    { s1 with hli := { s1.hli with tx := .idle, buffer := if r.holdsPlace then s1.hli.buffer.drop 1 else s1.hli.buffer } }
  | _ => s

/-- The last byte of the notice being sent is sent: it leaves the notice queue (R174). -/
def State.noticeSent (s : State) : State :=
  match s.hli.tx with
  | .notice n queued =>
    let s1 := s.send (.notice n)
    { s1 with hli := { s1.hli with tx := .idle, notices := if queued then s1.hli.notices.drop 1 else s1.hli.notices } }
  | _ => s

/-! ### The dock (R160 to R167) -/

/-- A record of the handset (Table 8.3). -/
inductive DockRecord
  | present (courier route : Nat)
  | scan (sealNo : Nat)
  | confirm
  | abandon
deriving DecidableEq, Repr, Inhabited

/-- The handset's record that a type and a body of the right length spell; `none` for another type (Table 10.5). -/
def dockRecordOf (type : Nat) (body : List Byte) : Option DockRecord :=
  match type with
  | 32 => some (.present (natOfBytes (body.take 2)) (natOfBytes (body.drop 2)))
  | 33 => some (.scan (natOfBytes body))
  | 34 => some .confirm
  | 35 => some .abandon
  | _ => none

/-- REFUSE with a code goes to the handset (Table 8.3). -/
def State.dockRefuse (s : State) (c : Code) : State := s.send (.toDock (.refuse c))

/-- The consignments SCHEDULED on a route, in order of number (R162). -/
def State.scheduledOn (s : State) (route : Nat) : List Nat :=
  (upTo 8).filter fun c => decide ((s.consignment c).state = .scheduled ∧ (s.consignment c).schedule.map Schedule.route = some route)

/-- The office time lies inside the window of a consignment (R158). -/
def State.inWindow (s : State) (c : Nat) : Bool :=
  match (s.consignment c).schedule with
  | none => false
  | some k => !s.oc.clock.before k.earliest && s.oc.clock.before k.latest

/-- An accepted PRESENT: the handover record is written, ACCEPT and WAIT SAFE or GO are sent (R162). -/
def State.beginHandover (s : State) (c courier : Nat) (a : CollectionAnswer) : State :=
  let x := s.consignment c
  let scanning := decide (a = .reached)
  let h : Handover :=
    { stage := if scanning then .scanning else .verified, consignment := c, courier := courier, presented := s.oc.clock,
      foreign := 0, received := [], overall := 900, step := if scanning then some 120 else none }
  let s1 := (s.changeConsignment c fun y => { y with state := .inHandover }).setHandover (some h)
  let s2 := s1.send (.toDock (.acceptPresent c x.outbound.length x.inbound.length))
  s2.send (.toDock (if scanning then .go else .waitSafe))

/-- PRESENT taken in IDLE (R162). At most one window of a route holds a time (R157); were there two, the lowest-numbered consignment
is met (DESIGN CHOICE, log entry 40). -/
def State.dockPresent (s : State) (courier route : Nat) : State :=
  if courier = 0 ∨ route = 0 then s.dockRefuse .range
  else if s.scheduledOn route = [] then s.dockRefuse .absent
  else
    match (s.scheduledOn route).filter s.inWindow with
    | [] => s.dockRefuse .state
    | c :: _ =>
      if (s.consignment c).schedule.map Schedule.courier ≠ some courier then s.dockRefuse .absent
      else
        let answer := s.collectionRequest
        if answer.2 = .refused then s.dockRefuse .state else answer.1.beginHandover c courier answer.2

/-- A foreign scan: REFUSE ABSENT; the third abandons the handover (R164). -/
def State.foreignScan (s : State) (h : Handover) : State :=
  let s1 := (s.setHandover (some { h with foreign := h.foreign + 1 })).dockRefuse .absent
  if 3 ≤ h.foreign + 1 then s1.abandonHandover .foreign else s1

/-- SCAN taken in SCANNING (R164). -/
def State.dockScan (s : State) (h : Handover) (sealNo : Nat) : State :=
  let c := s.consignment h.consignment
  if sealNo = 0 then s.dockRefuse .range
  else
    match s.liveSeal sealNo with
    | none => s.foreignScan h
    | some (b, x) =>
      if x.kind = .outbound ∧ b ∈ c.outbound then
        if x.state = .sealed then
          let s1 := s.moveBag b .scanned
          s1.send (.toDock (.acceptScan b false (s1.toScan h.consignment)))
        else if x.state = .scanned then s.dockRefuse .duplicate
        else s.foreignScan h
      else if x.kind = .inbound ∧ b ∈ c.inbound then
        if x.state = .expected then
          let s1 := (s.moveBag b .received).setHandover (some { h with received := h.received ++ [b] })
          s1.send (.toDock (.acceptScan b true (s1.toScan h.consignment)))
        else if x.state = .received then s.dockRefuse .duplicate
        else s.foreignScan h
      else s.foreignScan h

/-- Content lines leave DISPATCH (R13). -/
def State.leaveDispatch (s : State) (ls : List ContentLine) : State :=
  ls.foldl (fun u l => u.changeSlot l.slot fun x => { x with dispatch := x.dispatch - l.pieces }) s

/-- The handover debit of one SCANNED bag: its pieces leave DISPATCH and it becomes HANDED_OVER (R13). -/
def State.handOverBag (s : State) (b : Nat) : State :=
  (s.leaveDispatch (((s.bag b).map Bag.lines).getD [])).moveBag b .handedOver

/-- CONFIRM taken with every outbound bag SCANNED (R165, steps 1 to 6). The two sums of bag values in HANDOVER_DONE are sent as wide
values of 8 bytes (DESIGN CHOICE, log entry 22). -/
def State.completeHandover (s : State) (h : Handover) : State :=
  let c := s.consignment h.consignment
  let outs := s.bagsIn c.outbound .scanned
  let value := (outs.map fun b => s.linesValue (((s.bag b).map Bag.lines).getD [])).sum
  let s1 := (outs.foldl State.handOverBag s).tellOc fun q => { q with handedOver := q.handedOver + value }
  let ins := s.bagsIn h.received .received
  let declared := (ins.map fun b => ((s.bag b).bind Bag.declared).getD 0).sum
  let s2 := (ins.foldl (fun u b => u.enqueueTail b .ordinary) s1).tellOc fun q => { q with received := q.received + declared }
  let left := s.bagsIn c.inbound .expected
  let s3 := left.foldl (fun u b => u.changeBag b fun x => { x with consignment := none }) s2
  let s4 := (s3.changeConsignment h.consignment fun y =>
    { y with state := .done, inbound := y.inbound.filter fun b => decide (b ∉ left) }).setHandover none
  let s5 := s4.place .handoverDone [.byte h.consignment, .ident h.courier, .count outs.length, .wide value, .count ins.length, .wide declared]
  let s6 :=
    if left = [] then s5
    else s5.place .shortDelivery (.byte h.consignment :: counted (left.map fun b => [.byte b, .sealNo (((s.bag b).bind Bag.sealNo).getD 0)]))
  s6.send (.toDock (.done none))

/-- CONFIRM taken in SCANNING (R165). -/
def State.dockConfirm (s : State) (h : Handover) : State :=
  if s.toScan h.consignment = 0 then s.completeHandover h else s.dockRefuse .incomplete

/-- A well-framed record of the handset (R160). -/
def State.dockRecord (s : State) (r : DockRecord) : State :=
  if s.oc.state = .held then s.dockRefuse .held
  else if s.oc.state = .unconfigured then s.dockRefuse .state
  else
    match s.chu.handover with
    | none =>
      match r with
      | .present courier route => s.dockPresent courier route
      | _ => s.dockRefuse .state
    | some h =>
      match h.stage with
      | .verified =>
        match r with
        | .present _ _ => s.dockRefuse .busy
        | .abandon => s.abandonHandover .courier
        | _ => s.send (.toDock .waitSafe)
      | .scanning =>
        let h1 : Handover := { h with step := some 120 }
        let s1 := s.setHandover (some h1)
        match r with
        | .present _ _ => s1.dockRefuse .busy
        | .scan n => s1.dockScan h1 n
        | .confirm => s1.dockConfirm h1
        | .abandon => s1.abandonHandover .courier

/-! ### The receivers of the partner lines (R108, R160, R180) -/

/-- The record that a station's type and body of the right length spell; `none` for a type that is no station's, and for a
class or verdict byte other than 0 and 1 (R180, Table 10.4). -/
def stationRecordOf (type : Nat) (body : List Byte) : Option StationRecord :=
  match type, body with
  | 16, _ => some .ready
  | 17, _ => some (.sealRead (natOfBytes body))
  | 18, [d, n, c] => if c.toNat ≤ 1 then some (.strap d.toNat n.toNat (decide (c.toNat = 0))) else none
  | 19, [d] => some (.suspect d.toNat)
  | 20, [d] => some (.doubt d.toNat)
  | 21, [v] => if v.toNat ≤ 1 then some (.doubtCleared (decide (v.toNat = 0))) else none
  | 22, _ => some .jam
  | 23, _ => some (.totals (countsOfBytes body))
  | _, _ => none

/-- The tests of a frame that its type decides: test 5 on every line; on a station line the type and the class and verdict
bytes; on the slot-reader line type 64 (R180). -/
def acceptsFrame (l : PartnerLine) (type : Nat) (body : List Byte) : Bool :=
  l.lengthOk type body.length &&
    match l with
    | .station _ => (stationRecordOf type body).isSome
    | .dock => true
    | .slotReader => decide (type = 64)

/-- What a byte makes of the line: nothing yet, a frame that fails its check, or a frame that passes it. -/
inductive Heard
  | nothing
  | failed
  | frame (type : Nat) (body : List Byte)
deriving DecidableEq, Repr, Inhabited

/-- A receiver that hunts for the next start marker, after a failed frame (R180). -/
def Receiver.hunt : Receiver := { bytes := [], hunting := true }

/-- A failed frame: the receiver hunts from the next byte (R180). -/
def Receiver.failed : Receiver × Heard := (Receiver.hunt, .failed)

/-- A receiver takes one byte (R180). Of the bytes before a frame, one that is no start marker fails test 1, and while the
receiver hunts it is passed over. The length is tested once the type is taken, as on the host line, the CRC and the type at
the last byte (log entry 28). -/
def Receiver.take (l : PartnerLine) (r : Receiver) (b : Byte) : Receiver × Heard :=
  match r.bytes with
  | [] =>
    if b = startMarker then ({ bytes := [b], hunting := false }, .nothing)
    else if r.hunting then (r, .nothing)
    else Receiver.failed
  | c :: cs =>
    let bs := c :: (cs ++ [b])
    let len := natOfBytes ((bs.drop 1).take 1)
    let type := natOfBytes ((bs.drop 2).take 1)
    let body := (bs.drop 3).take len
    if bs.length < 3 then ({ r with bytes := bs }, .nothing)
    else if l.maxLength < len then Receiver.failed
    else if bs.length < 5 + len then ({ r with bytes := bs }, .nothing)
    else if (bs.drop (3 + len)).take 2 = crcBytes ((bs.drop 1).take (2 + len)) ∧ acceptsFrame l type body = true then
      (Receiver.rest, .frame type body)
    else Receiver.failed

/-- The receiver of a partner line. -/
def State.receiver (s : State) : PartnerLine → Receiver
  | .station l => nth Receiver.rest s.receivers.stations l.num
  | .dock => s.receivers.dock
  | .slotReader => s.receivers.slotReader

/-- The receiver of a partner line replaced. -/
def State.setReceiver (s : State) (l : PartnerLine) (r : Receiver) : State :=
  match l with
  | .station n => { s with receivers := { s.receivers with stations := putNth s.receivers.stations n.num r } }
  | .dock => { s with receivers := { s.receivers with dock := r } }
  | .slotReader => { s with receivers := { s.receivers with slotReader := r } }

/-- A frame fails its check: REFUSE FRAME on the dock line; on the others it is discarded with no effect (R180). -/
def State.failFrame (s : State) : PartnerLine → State
  | .dock => s.dockRefuse .frame
  | .station _ => s
  | .slotReader => s

/-- A frame that passed its check: a station's record is taken by CSC (R108), the handset's by CHU, with REFUSE UNKNOWN for a
type that is no handset's (R160, R180), in HELD and in UNCONFIGURED too (DEDUCED, log entry 45), and a SEAL READ resolves the oldest
pending drop (R92). -/
def State.takePartnerFrame (s : State) (l : PartnerLine) (type : Nat) (body : List Byte) : State :=
  match l with
  | .station n =>
    match stationRecordOf type body with
    | none => s
    | some r => s.stationArrival n.num r
  | .dock =>
    match dockRecordOf type body with
    | none => s.dockRefuse .unknown
    | some r => s.dockRecord r
  | .slotReader => s.resolveOldest (if natOfBytes body = 0 then none else some (natOfBytes body))

/-- One byte arrives on a partner line; the record of a whole frame is one operation (R172, R180). -/
def State.partnerByte (l : PartnerLine) (s : State) (b : Byte) : State :=
  let x := (s.receiver l).take l b
  let s1 := s.setReceiver l x.1
  match x.2 with
  | .nothing => s1
  | .failed => s1.failFrame l
  | .frame type body => s1.settle (s1.takePartnerFrame l type body)

/-- Bytes arrive on a partner line, one after another. Nothing is taken while the part does not run. -/
def takePartner (l : PartnerLine) (bs : List Byte) (s : State) : Host.Outcome State Fault Refusal :=
  takeLineEvent (fun s => bs.foldl (State.partnerByte l) s) s

/-- 50 milliseconds pass on a partner line: a frame in progress fails its check (R180, test 4). -/
def State.partnerGap (s : State) (l : PartnerLine) : State :=
  if (s.receiver l).bytes = [] then s else (s.setReceiver l Receiver.hunt).failFrame l

end Sys2Proof.Machine
end

