-- ==== Sys2Proof/Machine/Tills.lean ====
section
/-! DEFINITION. The requests of TPS, with the composition of a float, and the expiry of a float (chapters 3 and 4). -/

namespace Sys2Proof.Machine

/-- The exposure and the on-list figures that several replies end with: E, the projection now, the on-list mark. -/
def State.exposureFields (s : State) (n : Nat) : List Datum :=
  [.amount (s.till n).exposure, .amount ((s.till n).projection s.minute), .mark (s.till n).onList]

/-! ### SET TILL (R44) -/

/-- SET TILL at its owner (R44). The till number and the enabled mark are tested with the class (DESIGN CHOICE, log entry 41). -/
def askSetTill (n cls enabled : Nat) (s : State) : Answer :=
  if tillOk n = false ∨ 3 < cls then .refuse .range []
  else
    match markOf enabled with
    | none => .refuse .range []
    | some e =>
      if (s.till n).outstanding then .refuse .state []
      else
        .accept (s.changeTill n fun t => { t with cls := cls, enabled := e })
          [.byte n, .byte cls, .mark e, (s.till n).state.code]

/-- SET TILL (R44). -/
def execSetTill (n cls enabled : Nat) (s : State) : Host.Outcome State Fault Refusal :=
  takeRequest (.setTill n cls enabled) (unlessHeld (askSetTill n cls enabled)) s

/-! ### OPEN TILL (R45, R67 to R78) -/

/-- The detail of a SHORT refusal (R75). Its list has an entry for each configured slot and is led by no count byte (DESIGN
CHOICE, log entry 32). -/
def shortDetail (reason amount rest floatMin : Nat) (is : List FloatInput) (ns : List Nat) : List Datum :=
  [.enum reason, .amount amount, .amount rest, .amount (amount - rest), .amount floatMin] ++
    ((is.zip ns).flatMap fun p => [.pieces p.2, .pieces p.1.avail])

/-- A float reservation placed and its till COMPOSED (R73, R74, R77). Every other field stands, the variance of a till opened
from RECONCILED among them: R45 against R43 and Table 3.1 (DEDUCED, log entry 39). -/
def State.placeFloat (s : State) (n amount composed : Nat) (reduced : Bool) (ls : List ContentLine) : State :=
  let s1 := s.placeReservation
    { owner := .till n, lines := ls, created := s.oc.clock, expiry := some (s.oc.clock.later (s.profile.hold * 60)) }
  s1.changeTill n fun t =>
    { t with
      pending := some { prior := t.state, requested := amount, composed := composed, reduced := reduced }
      state := .composed }

/-- The reply to an OPEN TILL that is taken (R73); a REDUCED one adds the remainder (R74), with no presence byte (DESIGN CHOICE,
log entry 38). -/
def State.floatDetail (s : State) (n amount rest : Nat) (reduced : Bool) (ls : List ContentLine) : List Datum :=
  [.byte n, TillState.composed.code, .amount amount, .amount (amount - rest), .mark reduced] ++
    counted (ls.map fun l => [.byte l.slot, .pieces l.pieces, .amount (l.pieces * s.pieceValue l.slot)]) ++
    [.time (s.oc.clock.later (s.profile.hold * 60))] ++ (if reduced then [.amount rest] else [])

/-- The composition of OPEN TILL with its outcome, one operation of ST (R67, R72). -/
def State.composeFloat (s : State) (n amount : Nat) (reduce : Bool) : Answer :=
  let cls := (s.till n).cls
  let is := s.floatInputs cls
  let c := compose is amount
  let floatMin := classOf s.profile.floatMin cls
  let place := fun (reduced : Bool) =>
    Answer.accept (s.placeFloat n amount (amount - c.2) reduced (floatLines is c.1)) (s.floatDetail n amount c.2 reduced (floatLines is c.1))
  match floatOutcome amount c.2 floatMin reduce with
  | .exact => place false
  | .reduced => place true
  | .notAllowed => .refuse .short (shortDetail 0 amount c.2 floatMin is c.1)
  | .belowMinimum => .refuse .short (shortDetail 1 amount c.2 floatMin is c.1)
  | .nothingComposed => .refuse .short (shortDetail 2 amount c.2 floatMin is c.1)

/-- OPEN TILL at its owner (R45). The RANGE tests of the till number (R43) and of the reduce-allowed mark, which the ordered tests
do not name, stand with test 2, before the office state (DESIGN CHOICE, log entry 41). -/
def askOpenTill (n amount reduce : Nat) (s : State) : Answer :=
  if tillOk n = false ∨ amount < 1 ∨ 10000000 < amount then .refuse .range []
  else
    match markOf reduce with
    | none => .refuse .range []
    | some r =>
      if s.oc.state ≠ .trading then .refuse .state []
      else if ((s.till n).state ≠ .closed ∧ (s.till n).state ≠ .reconciled) ∨ (s.till n).enabled = false then .refuse .state []
      else if 16 ≤ s.st.reservations.length then .refuse .full []
      else s.composeFloat n amount r

/-- OPEN TILL (R45). -/
def execOpenTill (n amount reduce : Nat) (s : State) : Host.Outcome State Fault Refusal :=
  takeRequest (.openTill n amount reduce) (unlessHeld (askOpenTill n amount reduce)) s

/-! ### CONFIRM FLOAT, CANCEL FLOAT, expiry (R46 to R48) -/

/-- The till record that a confirmation writes (R46). -/
def Till.confirmed (t : Till) (p : Profile) (minute : Nat) : Till :=
  let c := t.pending.getD default
  { t with
    floatTotal := c.composed, takings := 0, kPrev := 0, pickups := 0, collected := 0, rate := p.rateInit * 16,
    tLast := minute, exposure := min c.composed amountLimit, reduced := c.reduced, bags := [], variance := none,
    onList := false, pending := none, state := .opened }

/-- The float debit (R8): the reserved pieces leave WORKING, the record is freed, OC is told. -/
def State.floatDebit (s : State) (n : Nat) : State :=
  let ls := ((s.reservationOf (.till n)).map Reservation.lines).getD []
  ((s.takeLines ls).freeReservation (.till n)).tellOc fun q => { q with floatsIssued := q.floatsIssued + s.linesValue ls }

/-- CONFIRM FLOAT at its owner (R46). The till number is tested before STATE (DESIGN CHOICE, log entry 41). -/
def askConfirmFloat (n : Nat) (s : State) : Answer :=
  if tillOk n = false then .refuse .range []
  else if (s.till n).state ≠ .composed then .refuse .state []
  else
    let ls := ((s.reservationOf (.till n)).map Reservation.lines).getD []
    let s1 := (s.floatDebit n).changeTill n fun t => t.confirmed s.profile s.minute
    .accept (s1.retryPasses (loweredBy ls)) [.wide (s1.till n).floatTotal, .word (s1.till n).rate, .word (s1.till n).tLast]

/-- CONFIRM FLOAT (R46). -/
def execConfirmFloat (n : Nat) (s : State) : Host.Outcome State Fault Refusal :=
  takeRequest (.confirmFloat n) (unlessHeld (settled (askConfirmFloat n))) s

/-- CANCEL FLOAT at its owner (R47). The till number is tested before STATE (DESIGN CHOICE, log entry 41). -/
def askCancelFloat (n : Nat) (s : State) : Answer :=
  if tillOk n = false then .refuse .range []
  else if (s.till n).state ≠ .composed then .refuse .state []
  else
    let s1 := (s.freeReservation (.till n)).uncompose n
    .accept s1 [(s1.till n).state.code]

/-- CANCEL FLOAT (R47). -/
def execCancelFloat (n : Nat) (s : State) : Host.Outcome State Fault Refusal :=
  takeRequest (.cancelFloat n) (unlessHeld (settled (askCancelFloat n))) s

/-- FLOAT EXPIRY of a till's reservation, when it still stands (R15, R48). -/
def execFloatExpiry (n : Nat) (s : State) : Host.Outcome State Fault Refusal :=
  takeEvent (fun s => if (s.reservationOf (.till n)).isSome then s.floatExpired n else s) s

/-! ### TOP UP, REPORT TAKINGS (R49, R50) -/

/-- The lines of a top-up as content lines from WORKING. -/
def workingLines (ls : List StockLine) : List ContentLine := ls.map fun l => { slot := l.slot, pieces := l.pieces, source := .working }

/-- The lowest slot whose line passes its availability (R9). -/
def State.topUpShort (s : State) (ls : List StockLine) : Option Nat :=
  leastFailing (fun d => decide (s.availability d < lineFor ls d)) (s.namedSlots ls)

/-- TOP UP at its owner (R9, R49). The till number is tested with the lines, before STATE (DESIGN CHOICE, log entry 41); the till
is evaluated before the passes of R6 (DESIGN CHOICE, log entry 34). -/
def askTopUp (n : Nat) (ls : List StockLine) (s : State) : Answer :=
  if tillOk n = false ∨ s.stockLinesOk ls = false then .refuse .range []
  else if s.oc.state ≠ .trading ∨ (s.till n).state ≠ .opened then .refuse .state []
  else
    match s.topUpShort ls with
    | some d => .refuse .short [.byte d, .pieces (s.availability d)]
    | none =>
      let value := s.stockLinesValue ls
      let s1 := (s.takeLines (workingLines ls)).tellOc fun q => { q with topUps := q.topUps + value }
      let s2 := s1.changeTill n fun t =>
        let t1 := { t with floatTotal := t.floatTotal + value }
        { t1 with exposure := t1.exposureOf }
      let s3 := s2.evaluate n s2.minute
      .accept (s3.retryPasses (loweredBy (workingLines ls)))
        ([.wide value, .wide (s3.till n).floatTotal] ++ s3.exposureFields n)

/-- TOP UP (R49). -/
def execTopUp (n : Nat) (ls : List StockLine) (s : State) : Host.Outcome State Fault Refusal :=
  takeRequest (.topUp n ls) (unlessHeld (settled (askTopUp n ls))) s

/-- The till record after a report: the rate update, then K and E (R50, steps 1 to 3). -/
def Till.reported (t : Till) (p : Profile) (takings minute : Nat) : Till :=
  let t1 := { t.rateUpdate p takings minute with takings := takings }
  { t1 with exposure := t1.exposureOf }

/-- REPORT TAKINGS at its owner (R50). The till number is tested with the figure (DESIGN CHOICE, log entry 41). -/
def askReportTakings (n takings : Nat) (s : State) : Answer :=
  if tillOk n = false ∨ amountOk takings = false then .refuse .range []
  else if (s.till n).state ≠ .opened then .refuse .state []
  else
    let s1 := (s.changeTill n fun t => t.reported s.profile takings s.minute).evaluate n s.minute
    .accept s1 ([.amount takings, .word (s1.till n).rate, .word (s1.till n).tLast] ++ s1.exposureFields n)

/-- REPORT TAKINGS (R50). -/
def execReportTakings (n takings : Nat) (s : State) : Host.Outcome State Fault Refusal :=
  takeRequest (.reportTakings n takings) (unlessHeld (askReportTakings n takings)) s

/-! ### DECLARE PICKUP, CLOSE TILL (R57, R59, R90) -/

/-- A declared bag of a till or of the office (R90, R91). -/
def declaredBag (kind : BagKind) (till : Option Nat) (sealNo value : Nat) (clock : OfficeTime) : Bag :=
  { newBag kind .declared clock with sealNo := some sealNo, till := till, declared := some value, attempts := some 0 }

/-- BR's answer to a declaration: the slot, or DUPLICATE before FULL (R90). -/
def State.declarationSlot (s : State) (sealNo : Nat) : Except Code Nat :=
  if s.sealLive sealNo then .error .duplicate
  else
    match s.freeGeneral with
    | none => .error .full
    | some b => .ok b

/-- DECLARE PICKUP at its owner (R57). The till number is tested with test 2 (DESIGN CHOICE, log entry 41). -/
def askDeclarePickup (n sealNo amount : Nat) (s : State) : Answer :=
  if tillOk n = false ∨ sealOk sealNo = false ∨ amount < 1 ∨ amountOk amount = false then .refuse .range []
  else if s.oc.state ≠ .trading ∨ (s.till n).state ≠ .opened then .refuse .state []
  else if 23 ≤ (s.till n).bags.length then .refuse .full []
  else
    match s.declarationSlot sealNo with
    | .error c => .refuse c []
    | .ok b =>
      let s1 := s.setBag b (some (declaredBag .pickup (some n) sealNo amount s.oc.clock))
      let s2 := (s1.joinSession n b amount).evaluate n s.minute
      .accept s2 ([.byte b, .wide (s2.till n).pickups] ++ s2.exposureFields n)

/-- DECLARE PICKUP (R57). -/
def execDeclarePickup (n sealNo amount : Nat) (s : State) : Host.Outcome State Fault Refusal :=
  takeRequest (.declarePickup n sealNo amount) (unlessHeld (settled (askDeclarePickup n sealNo amount))) s

/-- A till leaves the pickup-due list at its close, without a notice (R59 step 4). -/
def State.leaveDue (s : State) (n : Nat) : State :=
  let s1 := s.changeTill n fun t => { t with onList := false }
  { s1 with tps := { s1.tps with due := s1.tps.due.filter fun e => decide (e.till ≠ n) } }

/-- The six steps of a close, once BR has created the drain bag (R59). -/
def State.drainTill (s : State) (n b amount takings : Nat) : State :=
  let s1 := (s.changeTill n fun t => { t with takings := takings }).joinSession n b amount
  ((s1.leaveDue n).changeTill n fun t => { t with state := .draining }).drainToPriority n

/-- CLOSE TILL at its owner (R59). -/
def askCloseTill (n sealNo amount takings : Nat) (s : State) : Answer :=
  if tillOk n = false ∨ sealOk sealNo = false ∨ amountOk amount = false ∨ amountOk takings = false then .refuse .range []
  else if (s.oc.state ≠ .trading ∧ s.oc.state ≠ .closing) ∨ (s.till n).state ≠ .opened then .refuse .state []
  else
    match s.declarationSlot sealNo with
    | .error c => .refuse c []
    | .ok b =>
      let s1 := (s.setBag b (some (declaredBag .drain (some n) sealNo amount s.oc.clock))).drainTill n b amount takings
      let t := s1.till n
      .accept s1 [.byte b, .amount t.takings, .wide t.pickups, .amount t.exposure, .count (s1.bagsOutstanding t)]

/-- CLOSE TILL (R59). -/
def execCloseTill (n sealNo amount takings : Nat) (s : State) : Host.Outcome State Fault Refusal :=
  takeRequest (.closeTill n sealNo amount takings) (unlessHeld (settled (askCloseTill n sealNo amount takings))) s

/-! ### Reads (R64, R65) -/

/-- Prior state of a pending composition, coded by the values that Table 3.1 lists for the field: 0 CLOSED, 1 RECONCILED
(R179; DEDUCED, log entry 32). -/
def priorCode (x : TillState) : Datum := .enum (if x = .reconciled then 1 else 0)

/-- The pending composition with the expiry of its reservation (R64), before which stands a presence byte of its own (DESIGN
CHOICE, log entry 38). -/
def State.pendingFields (s : State) (n : Nat) (c : Composition) : List Datum :=
  [priorCode c.prior, .amount c.requested, .amount c.composed, .mark c.reduced] ++
    optional (((s.reservationOf (.till n)).bind Reservation.expiry).map fun t => [.time t])

/-- The reply to READ TILL (R64), the fields in the order of Table 3.1. Presence bytes stand before the pending composition, the
variance and the list position, and none before the projection and the bag count, which the state implies (DESIGN CHOICE, log
entry 38). The variance of a till COMPOSED from RECONCILED is sent (R45; DEDUCED, log entry 39). -/
def State.tillFields (s : State) (n : Nat) : List Datum :=
  let t := s.till n
  let place := (s.tps.due.findIdx? fun e => e.till = n).map (· + 1)
  [.byte n, .mark t.enabled, .byte t.cls, t.state.code] ++ optional (t.pending.map (s.pendingFields n)) ++
    [.wide t.floatTotal, .amount t.takings, .amount t.kPrev, .wide t.pickups, .wide t.collected, .amount t.exposure, .word t.rate,
     .word t.tLast, .mark t.onList] ++
    counted (t.bags.map fun b => [.byte b, ((s.bag b).map fun x => x.state.code).getD (.enum 0)]) ++
    optional (t.variance.map fun v => [.wide v]) ++ [.mark t.reduced] ++
    (if t.state = .opened then .amount (t.projection s.minute) :: optional (place.map fun k => [.count k]) else []) ++
    (if t.state = .draining then [.count (s.bagsOutstanding t)] else [])

/-- READ TILL (R64). -/
def execReadTill (n : Nat) (s : State) : Host.Outcome State Fault Refusal :=
  takeRequest (.readTill n) (fun s => if tillOk n then .accept s (s.tillFields n) else .refuse .range []) s

/-- What READ TILLS gives for one till (R64). -/
def State.tillEntry (s : State) (n : Nat) : List Datum :=
  [.byte n, .mark (s.till n).enabled, .byte (s.till n).cls, (s.till n).state.code, .mark (s.till n).onList]

/-- READ TILLS (R64): the number given ends the reply, and no total, since the rule names none (DESIGN CHOICE, log entry 23). -/
def execReadTills (n : Nat) (s : State) : Host.Outcome State Fault Refusal :=
  takeRequest (.readTills n) (fun s =>
    if tillOk n then .accept s (listing 0 (((upTo 96).drop (n - 1)).map s.tillEntry) []) else .refuse .range []) s

/-- READ PICKUP LIST (R65). -/
def execReadPickupList (index : Nat) (s : State) : Host.Outcome State Fault Refusal :=
  takeRequest (.readPickupList index) (fun s =>
    if 95 < index then .refuse .range []
    else
      .accept s (listing 1 ((s.tps.due.drop index).map fun e =>
        [.byte e.till, .word e.minute, .amount e.projection, .amount ((s.till e.till).projection s.minute)]) [.count s.tps.due.length])) s

end Sys2Proof.Machine
end

