-- ==== Sys2Proof/Machine/Bags.lean ====
section
/-! DEFINITION. The requests of BR, the slot reader and the read wait (chapter 5). -/

namespace Sys2Proof.Machine

/-! ### DECLARE OFFICE BAG (R91) -/

/-- DECLARE OFFICE BAG at its owner (R91). -/
def askDeclareOfficeBag (sealNo value : Nat) (s : State) : Answer :=
  if sealOk sealNo = false ∨ amountOk value = false then .refuse .range []
  else if s.oc.state = .unconfigured then .refuse .state []
  else
    match s.declarationSlot sealNo with
    | .error c => .refuse c []
    | .ok b => .accept (s.setBag b (some (declaredBag .office none sealNo value s.oc.clock))) [.byte b]

/-- DECLARE OFFICE BAG (R91). -/
def execDeclareOfficeBag (sealNo value : Nat) (s : State) : Host.Outcome State Fault Refusal :=
  takeRequest (.declareOfficeBag sealNo value) (unlessHeld (settled (askDeclareOfficeBag sealNo value))) s

/-! ### ADOPT BAG (R96, R58) -/

/-- The kind and till that an adoption names; `none` where they are out of range (R96 test 2). The kind is coded as in
Table 5.1: 0 PICKUP, 2 OFFICE (log entry 17). -/
def adoptedKind (kind : Nat) (till : Option Nat) : Option (BagKind × Option Nat) :=
  match kind, till with
  | 0, some n => if tillOk n then some (.pickup, some n) else none
  | 2, _ => some (.office, none)
  | _, _ => none

/-- The seal of an adopted bag, settled from the orphan's and the request's (R96 test 4). -/
def settledSeal (orphan : Option Nat) (request : Nat) : Option Nat :=
  match orphan with
  | none => if request = 0 then none else some request
  | some n => if request = 0 ∨ request = n then some n else none

/-- TPS's test of the till of an adopted pickup (R58). -/
def State.adoptionRefusal (s : State) (till : Option Nat) : Option Code :=
  match till with
  | none => none
  | some n =>
    let t := s.till n
    if t.state = .opened then (if t.bags.length < 23 then none else some .full)
    else if t.state = .draining then (if t.bags.length < 24 then none else some .full)
    else some .state

/-- An orphan slot is freed; SLC decides the shutter when none was FREE (R95). -/
def State.freeOrphanSlot (s : State) (b : Nat) : State :=
  let s1 := s.setBag b none
  if s.freeOrphans.isEmpty then s1.decideShutter else s1

/-- The adoption: a new record QUEUED in general slot `g`, the orphan slot freed, the bag joined to its till (R96, R58). The
evaluation of the till stands before the decision of the shutter, so that its notice does (DESIGN CHOICE, log entry 34). -/
def State.adopt (s : State) (b g : Nat) (kind : BagKind) (till : Option Nat) (value sealNo : Nat) : State :=
  let s1 := s.setBag g (some (declaredBag kind till sealNo value s.oc.clock))
  let s2 := s1.enqueueTail g (s1.entryClass till)
  let s3 :=
    match till with
    | none => s2
    | some n => (s2.joinSession n g value).evaluate n s.minute
  s3.freeOrphanSlot b

/-- The reply to ADOPT BAG: the new slot and the position, given before the arbiter's pass of the same operation (log entry
33); for a pickup of an OPEN till, whose adoption evaluated it, the on-list mark after the evaluation (R55, log entry
12). -/
def State.adoptDetail (s : State) (g : Nat) (till : Option Nat) : List Datum :=
  [.byte g, .count (s.position g)] ++
    match till with
    | none => []
    | some n => if (s.till n).state = .opened then [.mark (s.till n).onList] else []

/-- ADOPT BAG at its owner (R96). -/
def askAdoptBag (b kind : Nat) (till : Option Nat) (value sealNo : Nat) (s : State) : Answer :=
  match adoptedKind kind till with
  | none => .refuse .range []
  | some (k, n) =>
    if b < 240 ∨ 255 < b ∨ amountOk value = false ∨ sealLimit < sealNo then .refuse .range []
    else
      match s.bag b with
      | none => .refuse .absent []
      | some x =>
        if x.state ≠ .orphan then .refuse .absent []
        else
          match settledSeal x.sealNo sealNo with
          | none => .refuse .range []
          | some q =>
            if s.sealLive q then .refuse .duplicate []
            else
              match s.adoptionRefusal n with
              | some c => .refuse c []
              | none =>
                match s.freeGeneral with
                | none => .refuse .full []
                | some g =>
                  let s1 := s.adopt b g k n value q
                  .accept s1 (s1.adoptDetail g n)

/-- ADOPT BAG (R96). -/
def execAdoptBag (b kind : Nat) (till : Option Nat) (value sealNo : Nat) (s : State) : Host.Outcome State Fault Refusal :=
  takeRequest (.adoptBag b kind till value sealNo) (unlessHeld (settled (askAdoptBag b kind till value sealNo))) s

/-! ### WRITE OFF BAG, RECOUNT BAG (R97, R98) -/

/-- An orphan written off: a LOST record in general slot `g`, if there is one, with the orphan's seal where it is not
live (R97). -/
def State.writeOffOrphan (s : State) (b : Nat) (x : Bag) (g : Option Nat) : State :=
  let kept := x.sealNo.filter fun n => !s.sealLive n
  let s1 :=
    match g with
    | none => s
    | some k => s.setBag k (some { newBag .unknown .lost s.oc.clock with sealNo := kept })
  (s1.tellOc fun q => { q with lostBags := q.lostBags + 1 }).freeOrphanSlot b

/-- The consignment of a bag is IN_HANDOVER. -/
def State.bagInHandover (s : State) (x : Bag) : Bool := x.consignment.any fun c => decide ((s.consignment c).state = .inHandover)

/-- WRITE OFF BAG at its owner (R97). -/
def askWriteOffBag (b op : Nat) (s : State) : Answer :=
  if bagSlotOk b = false then .refuse .range []
  else if s.isSupervisor op = false then .refuse .role []
  else
    match s.bag b with
    | none => .refuse .absent []
    | some x =>
      match x.state with
      | .declared => .accept (s.loseBag b) (optional (some [.byte b]) ++ [x.state.code])
      | .expected =>
        if s.bagInHandover x then .refuse .busy []
        else .accept (s.loseBag b) (optional (some [.byte b]) ++ [x.state.code])
      | .orphan =>
        .accept (s.writeOffOrphan b x s.freeGeneral) (optional (s.freeGeneral.map fun g => [.byte g]) ++ [x.state.code])
      | _ => .refuse .state []

/-- WRITE OFF BAG (R97). -/
def execWriteOffBag (b op : Nat) (s : State) : Host.Outcome State Fault Refusal :=
  takeRequest (.writeOffBag b op) (unlessHeld (settled (askWriteOffBag b op))) s

/-- RECOUNT BAG at its owner (R98). The reply gives the position before the arbiter's pass of the same operation (DESIGN
CHOICE, log entry 33). -/
def askRecountBag (b : Nat) (s : State) : Answer :=
  if bagSlotOk b = false then .refuse .range []
  else
    match s.bag b with
    | none => .refuse .absent []
    | some x =>
      if x.state ≠ .countHeld then .refuse .state []
      else
        let s1 := (s.changeBag b fun y => { y with attempts := some 0 }).enqueueHead b (s.entryClass x.till)
        .accept s1 [.count (s1.position b)]

/-- RECOUNT BAG (R98). -/
def execRecountBag (b : Nat) (s : State) : Host.Outcome State Fault Refusal :=
  takeRequest (.recountBag b) (unlessHeld (settled (askRecountBag b))) s

/-! ### The slot reader and the read wait (R92) -/

/-- SEAL READ on the slot-reader line (R92). -/
def execSlotSealRead (sealNo : Nat) (w : Wire) (s : State) : Host.Outcome State Fault Refusal :=
  takePartner .slotReader (w.onLine 64 (bytesOfNat 4 sealNo)) s

/-- READ WAIT EXPIRY of the oldest pending drop (R92). -/
def execReadWaitExpiry (s : State) : Host.Outcome State Fault Refusal := takeEvent (fun s => s.resolveOldest none) s

/-! ### Reads (R102, R103) -/

/-- The till of a bag and the rest that READ COUNT QUEUE gives for it (R102). -/
def State.queueEntry (s : State) (b : Nat) : List Datum :=
  let x := (s.bag b).getD default
  [.byte b, .sealNo (x.sealNo.getD 0), x.kind.code] ++ tillField x.till ++
    [.amount (x.declared.getD 0), (x.queueClass.getD .ordinary).code, .count (x.attempts.getD 0), .count (x.bypass.getD 0)]

/-- READ COUNT QUEUE (R102). -/
def execReadCountQueue (index : Nat) (s : State) : Host.Outcome State Fault Refusal :=
  takeRequest (.readCountQueue index) (fun s =>
    if 239 < index then .refuse .range []
    else .accept s (listing 2 ((s.queue.drop index).map s.queueEntry) [.count s.br.priority.length, .count s.br.ordinary.length])) s

/-- A counted tally as fields: good, unfit, suspect of each configured slot. -/
def State.tallyFields (s : State) (t : Vector Counts 12) : List Datum :=
  counted (s.slots.map fun d => [.pieces (nth default t d).good, .pieces (nth default t d).unfit, .pieces (nth default t d).suspect])

/-- Every present field of a bag record, in the order of Table 5.1 (R103). One presence byte stands before tally, counted value,
variance and flag together, absent content lines are the count 0, and none stands before the position of a QUEUED bag (DESIGN
CHOICE, log entry 38). -/
def State.bagFields (s : State) (b : Nat) (x : Bag) : List Datum :=
  [.byte b, .sealNo (x.sealNo.getD 0), x.kind.code, x.state.code] ++ tillField x.till ++
    optional (x.consignment.map fun c => [.byte c]) ++ optional (x.declared.map fun n => [.amount n]) ++
    counted (x.lines.map fun l => [.byte l.slot, .pieces l.pieces, l.source.code]) ++
    optional (x.result.map fun r => s.tallyFields r.tally ++ [.wide r.value, .wide r.variance, .mark r.flag]) ++
    optional (x.attempts.map fun n => [.count n]) ++ optional (x.queueClass.map fun c => [c.code]) ++
    optional (x.bypass.map fun n => [.count n]) ++ [.time x.changed] ++
    (if x.state = .queued then [.count (s.position b)] else [])

/-- READ BAG (R103); a FREE slot gives the state FREE alone. -/
def execReadBag (b : Nat) (s : State) : Host.Outcome State Fault Refusal :=
  takeRequest (.readBag b) (fun s =>
    if bagSlotOk b = false then .refuse .range []
    else .accept s (match s.bag b with | none => [.enum 0] | some x => s.bagFields b x)) s

/-- The ORPHAN records, in order of slot. -/
def State.orphans (s : State) : List (Nat × Bag) := s.bagList.filter fun p => decide (p.2.state = .orphan)

/-- READ SEAL (R103). -/
def execReadSeal (n : Nat) (s : State) : Host.Outcome State Fault Refusal :=
  takeRequest (.readSeal n) (fun s =>
    if sealOk n = false then .refuse .range []
    else
      .accept s (optional ((s.liveSeal n).map fun p => [.byte p.1, p.2.state.code]) ++
        counted ((s.orphans.filter fun p => decide (p.2.sealNo = some n)).map fun p => [.byte p.1]))) s

/-- READ ORPHANS (R103). -/
def execReadOrphans (s : State) : Host.Outcome State Fault Refusal :=
  takeRequest .readOrphans (fun s =>
    .accept s (counted (s.orphans.map fun p => [.byte p.1, .sealNo (p.2.sealNo.getD 0), .time p.2.changed]) ++
      [.count s.freeOrphans.length, s.slc.shutter.code])) s

end Sys2Proof.Machine
end

