-- ==== Sys2Proof/Machine/Couriers.lean ====
section
/-! DEFINITION. The requests of CHU, the records of the dock line, the latest of a consignment and the timers of a
handover (chapter 8). -/

namespace Sys2Proof.Machine

/-! ### NEW CONSIGNMENT (R149) -/

/-- The lowest FREE consignment record (R149). -/
def State.freeConsignment (s : State) : Option Nat := (upTo 8).find? fun c => decide ((s.consignment c).state = .free)

/-- NEW CONSIGNMENT at its owner (R149). -/
def askNewConsignment (s : State) : Answer :=
  if s.oc.state = .unconfigured then .refuse .state []
  else
    match s.freeConsignment with
    | none => .refuse .full []
    | some c => .accept (s.setConsignment c { state := .opened, outbound := [], inbound := [], schedule := none }) [.byte c]

/-- NEW CONSIGNMENT (R149). -/
def execNewConsignment (s : State) : Host.Outcome State Fault Refusal :=
  takeRequest .newConsignment (unlessHeld (settled askNewConsignment)) s

/-! ### Outbound bags (R150 to R154) -/

/-- A new outbound bag (R150). -/
def assemblingBag (c value : Nat) (ls : List ContentLine) (clock : OfficeTime) : Bag :=
  { newBag .outbound .assembling clock with consignment := some c, declared := some value, lines := ls }

/-- The lowest slot whose line passes its limit (R150 test 8). -/
def State.assemblyShort (s : State) (ls : List ContentLine) : Option ContentLine :=
  ls.find? fun l => decide (s.assemblyLimit l.source l.slot < l.pieces)

/-- The bag record, its reservation and its place in the outbound list (R150). -/
def State.assemble (s : State) (c b : Nat) (ls : List ContentLine) : State :=
  let s1 := s.setBag b (some (assemblingBag c (s.linesValue ls) ls s.oc.clock))
  let s2 := s1.placeReservation { owner := .bag b, lines := ls, created := s.oc.clock, expiry := none }
  s2.changeConsignment c fun x => { x with outbound := x.outbound ++ [b] }

/-- ASSEMBLE BAG at its owner (R150). The number of lines is tested with the lines (DESIGN CHOICE, log entry 41). -/
def askAssembleBag (c : Nat) (ls : List AssemblyLine) (s : State) : Answer :=
  let x := s.consignment c
  if consignmentOk c = false ∨ s.assemblyLinesOk ls = false then .refuse .range []
  else if x.state = .free then .refuse .absent []
  else if x.state = .inHandover then .refuse .busy []
  else if x.state ≠ .opened ∧ x.state ≠ .scheduled then .refuse .state []
  else if 24 ≤ x.outbound.length then .refuse .full []
  else if 16 ≤ s.st.reservations.length then .refuse .full []
  else
    match s.freeGeneral with
    | none => .refuse .full []
    | some b =>
      match s.assemblyShort (contentLines ls) with
      | some l => .refuse .short [.byte l.slot, .pieces (s.assemblyLimit l.source l.slot)]
      | none => .accept (s.assemble c b (contentLines ls)) [.byte b, .amount (s.linesValue (contentLines ls))]

/-- ASSEMBLE BAG (R150). -/
def execAssembleBag (c : Nat) (ls : List AssemblyLine) (s : State) : Host.Outcome State Fault Refusal :=
  takeRequest (.assembleBag c ls) (unlessHeld (settled (askAssembleBag c ls))) s

/-- The lines of a bag move into DISPATCH from their source areas (R11). -/
def State.enterDispatch (s : State) (ls : List ContentLine) : State :=
  ls.foldl (fun u l => u.changeSlot l.slot fun x =>
    { StockSlot.take l.source l.pieces x with dispatch := x.dispatch + l.pieces }) s

/-- The lines of a bag move from DISPATCH back to their source areas (R12). -/
def State.backFromDispatch (s : State) (ls : List ContentLine) : State :=
  ls.foldl (fun u l => u.changeSlot l.slot fun x =>
    { StockSlot.give l.source l.pieces x with dispatch := x.dispatch - l.pieces }) s

/-- The first line that would carry DISPATCH past the limit (R11; the first of several: DESIGN CHOICE, log entry 40). -/
def State.sealFull (s : State) (ls : List ContentLine) : Option ContentLine :=
  ls.find? fun l => decide (pieceLimit < (s.slot l.slot).dispatch + l.pieces)

/-- The seal move, with the bag SEALED under its seal (R11, R151). -/
def State.sealBag (s : State) (b sealNo : Nat) (ls : List ContentLine) : State :=
  ((s.enterDispatch ls).freeReservation (.bag b)).changeBag b fun x =>
    { x with sealNo := some sealNo, state := .sealed, changed := s.oc.clock }

/-- SEAL BAG at its owner (R151). The DISPATCH counts are sent as a counted list, each behind its slot (DESIGN CHOICE, log entry
12). -/
def askSealBag (b sealNo : Nat) (s : State) : Answer :=
  if bagSlotOk b = false ∨ sealOk sealNo = false then .refuse .range []
  else
    match s.bag b with
    | none => .refuse .absent []
    | some x =>
      if x.kind ≠ .outbound ∨ x.state ≠ .assembling then .refuse .state []
      else if s.sealLive sealNo then .refuse .duplicate []
      else
        match s.sealFull x.lines with
        | some l => .refuse .full [.byte l.slot]
        | none =>
          let s1 := s.sealBag b sealNo x.lines
          .accept (s1.retryPasses (loweredBy x.lines))
            ([.byte b, .sealNo sealNo] ++ counted (x.lines.map fun l => [.byte l.slot, .pieces (s1.slot l.slot).dispatch]))

/-- SEAL BAG (R151). -/
def execSealBag (b sealNo : Nat) (s : State) : Host.Outcome State Fault Refusal :=
  takeRequest (.sealBag b sealNo) (unlessHeld (settled (askSealBag b sealNo))) s

/-- A bag leaves the outbound list of its consignment, if it is attached, and its record is freed (R152, R153). -/
def State.freeOutbound (s : State) (b : Nat) (x : Bag) : State :=
  let s1 :=
    match x.consignment with
    | none => s
    | some c => s.changeConsignment c fun y => { y with outbound := y.outbound.filter fun q => decide (q ≠ b) }
  s1.setBag b none

/-- DISCARD BAG at its owner (R152). -/
def askDiscardBag (b : Nat) (s : State) : Answer :=
  if bagSlotOk b = false then .refuse .range []
  else
    match s.bag b with
    | none => .refuse .absent []
    | some x =>
      if x.kind ≠ .outbound ∨ x.state ≠ .assembling then .refuse .state []
      else .accept ((s.freeReservation (.bag b)).freeOutbound b x) [.byte b]

/-- DISCARD BAG (R152). -/
def execDiscardBag (b : Nat) (s : State) : Host.Outcome State Fault Refusal :=
  takeRequest (.discardBag b) (unlessHeld (settled (askDiscardBag b))) s

/-- The count of a source area of a slot. -/
def StockSlot.area (x : StockSlot) : Source → Nat
  | .working => x.working
  | .unfit => x.unfit

/-- The first line whose source area would pass the limit (R12; the first of several: DESIGN CHOICE, log entry 40). -/
def State.unsealFull (s : State) (ls : List ContentLine) : Option ContentLine :=
  ls.find? fun l => decide (pieceLimit < (s.slot l.slot).area l.source + l.pieces)

/-- UNSEAL BAG at its owner (R153). The new counts are sent as a counted list, each behind its slot and source code (DESIGN CHOICE,
log entry 12). -/
def askUnsealBag (b op : Nat) (s : State) : Answer :=
  if bagSlotOk b = false then .refuse .range []
  else if s.isSupervisor op = false then .refuse .role []
  else
    match s.bag b with
    | none => .refuse .absent []
    | some x =>
      if x.kind ≠ .outbound ∨ x.state ≠ .sealed then .refuse .state []
      else if s.bagInHandover x then .refuse .busy []
      else
        match s.unsealFull x.lines with
        | some l => .refuse .full [.byte l.slot]
        | none =>
          let s1 := (s.backFromDispatch x.lines).freeOutbound b x
          .accept s1 (counted (x.lines.map fun l => [.byte l.slot, l.source.code, .pieces ((s1.slot l.slot).area l.source)]))

/-- UNSEAL BAG (R153). -/
def execUnsealBag (b op : Nat) (s : State) : Host.Outcome State Fault Refusal :=
  takeRequest (.unsealBag b op) (unlessHeld (settled (askUnsealBag b op))) s

/-- An OUTBOUND bag in SEALED or an INBOUND bag in EXPECTED (R154). -/
def Bag.attachable (x : Bag) : Bool :=
  decide (x.consignment = none ∧ ((x.kind = .outbound ∧ x.state = .sealed) ∨ (x.kind = .inbound ∧ x.state = .expected)))

/-- The list of a consignment for bags of a kind: outbound, else inbound. -/
def Consignment.listFor (x : Consignment) (k : BagKind) : List Nat := if k = .outbound then x.outbound else x.inbound

/-- A slot joins the list for its kind (R148). -/
def Consignment.join (x : Consignment) (k : BagKind) (b : Nat) : Consignment :=
  if k = .outbound then { x with outbound := x.outbound ++ [b] } else { x with inbound := x.inbound ++ [b] }

/-- ATTACH BAG at its owner (R154). -/
def askAttachBag (b c : Nat) (s : State) : Answer :=
  if bagSlotOk b = false ∨ consignmentOk c = false then .refuse .range []
  else
    match s.bag b with
    | none => .refuse .absent []
    | some x =>
      let y := s.consignment c
      if y.state = .free then .refuse .absent []
      else if x.attachable = false then .refuse .state []
      else if y.state = .inHandover then .refuse .busy []
      else if y.state = .done ∨ y.state = .cancelled then .refuse .state []
      else if 24 ≤ (y.listFor x.kind).length then .refuse .full []
      else
        .accept ((s.changeBag b fun z => { z with consignment := some c }).changeConsignment c fun z => z.join x.kind b) []

/-- ATTACH BAG (R154). -/
def execAttachBag (b c : Nat) (s : State) : Host.Outcome State Fault Refusal :=
  takeRequest (.attachBag b c) (unlessHeld (settled (askAttachBag b c))) s

/-! ### EXPECT DELIVERY (R155) -/

/-- A new inbound bag (R155). -/
def expectedBag (c sealNo value : Nat) (clock : OfficeTime) : Bag :=
  { newBag .inbound .expected clock with sealNo := some sealNo, consignment := some c, declared := some value, attempts := some 0 }

/-- EXPECT DELIVERY at its owner (R155). -/
def askExpectDelivery (c sealNo value : Nat) (s : State) : Answer :=
  let y := s.consignment c
  if consignmentOk c = false ∨ sealOk sealNo = false ∨ amountOk value = false then .refuse .range []
  else if y.state = .free then .refuse .absent []
  else if y.state = .inHandover then .refuse .busy []
  else if y.state = .done ∨ y.state = .cancelled then .refuse .state []
  else if 24 ≤ y.inbound.length then .refuse .full []
  else
    match s.declarationSlot sealNo with
    | .error e => .refuse e []
    | .ok b =>
      .accept ((s.setBag b (some (expectedBag c sealNo value s.oc.clock))).changeConsignment c fun z => z.join .inbound b) [.byte b]

/-- EXPECT DELIVERY (R155). -/
def execExpectDelivery (c sealNo value : Nat) (s : State) : Host.Outcome State Fault Refusal :=
  takeRequest (.expectDelivery c sealNo value) (unlessHeld (settled (askExpectDelivery c sealNo value))) s

/-! ### Scheduling and cancelling (R157 to R159) -/

/-- Another consignment stands SCHEDULED or IN_HANDOVER on the route with an overlapping window (R157 test 5). -/
def State.overlaps (s : State) (c route : Nat) (earliest latest : OfficeTime) (q : Nat) : Bool :=
  let y := s.consignment q
  decide (q ≠ c) && decide (y.state = .scheduled ∨ y.state = .inHandover) &&
    y.schedule.any fun k => decide (k.route = route) && k.earliest.before latest && earliest.before k.latest

/-- The first ASSEMBLING bag of a consignment (R157 test 4), in the order of its outbound list (DESIGN CHOICE, log entry 40). -/
def State.firstAssembling (s : State) (c : Nat) : Option Nat := (s.bagsIn (s.consignment c).outbound .assembling).head?

/-- SCHEDULE COLLECTION at its owner (R157). Where several consignments overlap, DUPLICATE names the lowest-numbered (DESIGN
CHOICE, log entry 40). The consignment number is tested with test 2 (DESIGN CHOICE, log entry 41). -/
def askScheduleCollection (c courier route : Nat) (earliest latest : OfficeTime) (s : State) : Answer :=
  let y := s.consignment c
  if consignmentOk c = false ∨ courierOk courier = false ∨ courierOk route = false ∨ timeOk earliest = false ∨ timeOk latest = false then
    .refuse .range []
  else if earliest.before latest = false ∨ s.oc.clock.before latest = false then .refuse .range []
  else if y.state = .free then .refuse .absent []
  else if y.state ≠ .opened ∧ y.state ≠ .missed then .refuse .state []
  else if y.outbound = [] ∧ y.inbound = [] then .refuse .state []
  else
    match s.firstAssembling c with
    | some b => .refuse .state [.byte b]
    | none =>
      match (upTo 8).find? (s.overlaps c route earliest latest) with
      | some q => .refuse .duplicate [.byte q]
      | none =>
        .accept (s.changeConsignment c fun z =>
            { z with
              state := .scheduled
              schedule := some { courier := courier, route := route, earliest := earliest, latest := latest } })
          [.time earliest, .time latest]

/-- SCHEDULE COLLECTION (R157). -/
def execScheduleCollection (c courier route : Nat) (earliest latest : OfficeTime) (s : State) : Host.Outcome State Fault Refusal :=
  takeRequest (.scheduleCollection c courier route earliest latest)
    (unlessHeld (settled (askScheduleCollection c courier route earliest latest))) s

/-- LATEST REACHED of a consignment (R158). -/
def execLatestReached (c : Nat) (s : State) : Host.Outcome State Fault Refusal := takeEvent (fun s => s.missConsignment c) s

/-- A consignment cancelled: its outbound bags unattached, its EXPECTED inbound bags LOST (R159). -/
def State.cancelConsignment (s : State) (c : Nat) : State :=
  let y := s.consignment c
  let s1 := y.outbound.foldl (fun u b => u.changeBag b fun x => { x with consignment := none }) s
  let s2 := (s.bagsIn y.inbound .expected).foldl State.loseBag s1
  s2.changeConsignment c fun z => { z with state := .cancelled, outbound := [] }

/-- CANCEL CONSIGNMENT at its owner (R159). RANGE and ABSENT (R148) stand before BUSY and STATE (DESIGN CHOICE, log entry 41). -/
def askCancelConsignment (c : Nat) (s : State) : Answer :=
  let y := s.consignment c
  if consignmentOk c = false then .refuse .range []
  else if y.state = .free then .refuse .absent []
  else if y.state = .inHandover then .refuse .busy []
  else if y.state = .done ∨ y.state = .cancelled then .refuse .state []
  else
    .accept (s.cancelConsignment c)
      (counted (y.outbound.map fun b => [.byte b]) ++ counted ((s.bagsIn y.inbound .expected).map fun b => [.byte b]))

/-- CANCEL CONSIGNMENT (R159). -/
def execCancelConsignment (c : Nat) (s : State) : Host.Outcome State Fault Refusal :=
  takeRequest (.cancelConsignment c) (unlessHeld (settled (askCancelConsignment c))) s

/-! ### The dock line (R160, R162, R164 to R166) -/

/-- PRESENT (R162). -/
def execPresent (courier route : Nat) (w : Wire) (s : State) : Host.Outcome State Fault Refusal :=
  takePartner .dock (w.onLine 32 (bytesOfNat 2 courier ++ bytesOfNat 2 route)) s

/-- SCAN (R164). -/
def execScan (sealNo : Nat) (w : Wire) (s : State) : Host.Outcome State Fault Refusal :=
  takePartner .dock (w.onLine 33 (bytesOfNat 4 sealNo)) s

/-- CONFIRM (R165). -/
def execConfirm (w : Wire) (s : State) : Host.Outcome State Fault Refusal := takePartner .dock (w.onLine 34 []) s

/-- ABANDON (R166). -/
def execAbandon (w : Wire) (s : State) : Host.Outcome State Fault Refusal := takePartner .dock (w.onLine 35 []) s

/-- A dock frame of any type and body: REFUSE FRAME, REFUSE UNKNOWN, or the handset's record it spells (R160). -/
def execDockFrameCheckFailed (type : Nat) (body : List Byte) (w : Wire) (s : State) : Host.Outcome State Fault Refusal :=
  takePartner .dock (w.onLine type body) s

/-! ### The timers of a handover (R166, R167) -/

/-- STEP TIMER EXPIRY (R167). -/
def execStepTimerExpiry (s : State) : Host.Outcome State Fault Refusal :=
  takeEvent (fun s => if (s.chu.handover.bind Handover.step).isSome then s.abandonHandover .stepTimeout else s) s

/-- OVERALL TIMER EXPIRY (R167). -/
def execOverallTimerExpiry (s : State) : Host.Outcome State Fault Refusal :=
  takeEvent (fun s => s.abandonHandover .overallTimeout) s

/-! ### Reads (R168) -/

/-- What READ CONSIGNMENT gives for a bag of a list (R168). -/
def State.consignmentEntry (s : State) (b : Nat) : List Datum :=
  let x := (s.bag b).getD default
  [.byte b, .sealNo (x.sealNo.getD 0), x.state.code, .amount (x.declared.getD 0)]

/-- Courier, route, earliest and latest as fields. -/
def Schedule.fields (k : Schedule) : List Datum := [.ident k.courier, .ident k.route, .time k.earliest, .time k.latest]

/-- Total declared value of the SEALED and SCANNED outbound bags (R168). -/
def State.packedValue (s : State) (c : Nat) : Nat :=
  ((s.bagsIn (s.consignment c).outbound .sealed ++ s.bagsIn (s.consignment c).outbound .scanned).map fun b =>
    ((s.bag b).bind Bag.declared).getD 0).sum

/-- What stands behind the two lists of READ CONSIGNMENT: the schedule, its four fields behind one presence byte (DESIGN CHOICE,
log entry 38), and the total declared value (R168), a sum sent as a wide value of 8 bytes (DESIGN CHOICE, log entry 22). -/
def State.consignmentTail (s : State) (c : Nat) : List Datum :=
  optional ((s.consignment c).schedule.map Schedule.fields) ++ [.wide (s.packedValue c)]

/-- The reply to READ CONSIGNMENT for a live record: the two lists, as many whole entries as fit, each with the number
given and its length, then the rest (R168, R173). The outbound list is given first; the inbound list has the room that
it leaves of the 480 bytes, beside the status, the consignment and its state, the four counts and the rest. -/
def State.consignmentFields (s : State) (c : Nat) : List Datum :=
  let y := s.consignment c
  let tail := s.consignmentTail c
  let outs := y.outbound.map s.consignmentEntry
  let given := fitting (473 - entrySize tail) outs
  let room := (given.map entrySize).sum
  [.byte c, y.state.code] ++ given.flatten ++ [.count given.length, .count outs.length] ++
    listing (room + entrySize tail + 5) (y.inbound.map s.consignmentEntry) [.count y.inbound.length] ++ tail

/-- READ CONSIGNMENT (R168); a FREE record gives the state FREE alone. -/
def execReadConsignment (c : Nat) (s : State) : Host.Outcome State Fault Refusal :=
  takeRequest (.readConsignment c) (fun s =>
    if consignmentOk c = false then .refuse .range []
    else if (s.consignment c).state = .free then .accept s [ConsignmentState.free.code]
    else .accept s (s.consignmentFields c)) s

/-- The reply to READ HANDOVER (R168). The stage says which fields follow; the step timer alone has a presence byte (DESIGN CHOICE,
log entry 38). -/
def State.handoverFields (s : State) : List Datum :=
  handoverCode s.chu.handover ::
    (match s.chu.handover with
     | none => []
     | some h =>
       [.byte h.consignment, .ident h.courier, .time h.presented, .count h.foreign] ++
         (if h.stage = .scanning then counted (h.received.map fun b => [.byte b]) else []) ++ [.word h.overall] ++
         optional (h.step.map fun n => [.word n]) ++ (if h.stage = .scanning then [.count (s.toScan h.consignment)] else []))

/-- READ HANDOVER (R168). -/
def execReadHandover (s : State) : Host.Outcome State Fault Refusal := takeRequest .readHandover (fun s => .accept s s.handoverFields) s

/-- The unattached OUTBOUND and INBOUND bags, in order of slot (R168). -/
def State.unattached (s : State) : List (Nat × Bag) :=
  s.bagList.filter fun p => decide (p.2.consignment = none ∧ (p.2.kind = .outbound ∨ p.2.kind = .inbound))

/-- READ UNATTACHED (R168), sent as a part of a list: the number given and then the number of unattached bags end it, though the
rule names no total (DESIGN CHOICE, log entry 23). -/
def execReadUnattached (s : State) : Host.Outcome State Fault Refusal :=
  takeRequest .readUnattached (fun s =>
    .accept s (listing 1 (s.unattached.map fun p =>
      [.byte p.1, p.2.kind.code, p.2.state.code, .sealNo (p.2.sealNo.getD 0), .amount (p.2.declared.getD 0)])
      [.count s.unattached.length])) s

end Sys2Proof.Machine
end

