-- ==== Sys2Proof/Machine/HostLine.lean ====
section
/-! DEFINITION. SET NOTICES and the events of the host line (chapter 9). -/

namespace Sys2Proof.Machine

/-! ### SET NOTICES (R176) -/

/-- SET NOTICES at its owner (R176): bits 21, 22 and 23 name RESTART or no kind. -/
def askSetNotices (mask : Nat) (s : State) : Answer :=
  if 2097152 ≤ mask then .refuse .range []
  else
    .accept { s with hli := { s.hli with mask := BitVec.ofNat 24 mask } }
      [.noticeMask (BitVec.ofNat 24 mask), .count s.hli.notices.length]

/-- SET NOTICES (R176): taken in every office state. -/
def execSetNotices (mask : Nat) (s : State) : Host.Outcome State Fault Refusal :=
  takeRequest (.setNotices mask) (askSetNotices mask) s

/-! ### The host line (R169 to R174, R177) -/

/-- HOST FRAME: bytes arrive on the host line, one after another (R169 to R171). -/
def execHostFrame (bs : List Byte) (s : State) : Host.Outcome State Fault Refusal :=
  takeLineEvent (fun s => bs.foldl State.takeByte s) s

/-- HOST BYTE GAP TIMEOUT: 50 milliseconds pass inside a frame in progress, which is rejected (R169). -/
def execHostByteGapTimeout (s : State) : Host.Outcome State Fault Refusal :=
  takeLineEvent (fun s => if s.hli.rx = [] then s else s.rejectFrame) s

/-- BREAK (R177). -/
def execLineBreak (s : State) : Host.Outcome State Fault Refusal :=
  takeLineEvent (fun s => { s with hli := s.hli.broken }) s

/-- The line returns to mark after a break, and the HLI hunts for a start marker (R177). -/
def execLineReturnsToMark (s : State) : Host.Outcome State Fault Refusal :=
  takeLineEvent (fun s => if s.hli.spacing then { s with hli := { s.hli with spacing := false, rx := [] } } else s) s

/-- REPLY SENT: the last byte of the reply being sent is sent (R171, R174). -/
def execReplySent (s : State) : Host.Outcome State Fault Refusal := takeLineEvent State.replySent s

/-- NOTICE SENT: the last byte of the notice being sent is sent (R174). -/
def execNoticeSent (s : State) : Host.Outcome State Fault Refusal := takeLineEvent State.noticeSent s

end Sys2Proof.Machine
end

