-- ==== Sys2Proof/Machine/Lock.lean ====
section
/-! DEFINITION. The requests of SLC, its sense events and its timers (chapter 7). -/

namespace Sys2Proof.Machine

/-! ### REQUEST OPENING (R136) -/

/-- An opening record as fields (Table 7.2), the two operators behind one presence byte (DESIGN CHOICE, log entry 38). -/
def Opening.fields (o : Opening) : List Datum :=
  [o.source.code] ++ optional (o.operators.map fun p => [.ident p.1, .ident p.2]) ++
    [.byte o.windows, .word o.delayLen, .word o.windowLen, markCode o.mark]

/-- The opening that two operators ask for (R136). -/
def State.officeOpening (s : State) (op1 op2 windows : Nat) : Opening :=
  { source := .office, operators := some (op1, op2), windows := windows, delayLen := s.profile.lockDelay,
    windowLen := s.profile.lockWindow, mark := none }

/-- REQUEST OPENING at its owner (R136). -/
def askRequestOpening (op1 op2 windows : Nat) (s : State) : Answer :=
  if windows < 1 ∨ 8 < windows then .refuse .range []
  else if s.dualControl op1 op2 = false then .refuse .role []
  else if s.slc.state ≠ .locked then .refuse .busy (s.slc.state.code :: sourceField s.slc.opening)
  else
    let o := s.officeOpening op1 op2 windows
    .accept (s.enterLock .delay (some o) (some (o.delayLen * 60)) .request)
      (o.fields ++ [.time (s.oc.clock.later (o.delayLen * 60))])

/-- REQUEST OPENING (R136). -/
def execRequestOpening (op1 op2 windows : Nat) (s : State) : Host.Outcome State Fault Refusal :=
  takeRequest (.requestOpening op1 op2 windows) (unlessHeld (settled (askRequestOpening op1 op2 windows))) s

/-! ### CANCEL OPENING (R144) -/

/-- The opening of the lock changed. -/
def State.changeOpening (s : State) (f : Opening → Opening) : State :=
  s.changeSlc fun l => { l with opening := l.opening.map f }

/-- The lock state and the windows left, 0 where no opening remains, as CANCEL OPENING answers (R144). -/
def State.openingDetail (s : State) : List Datum := [s.slc.state.code, .byte ((s.slc.opening.map Opening.windows).getD 0)]

/-- What CANCEL OPENING does, or its refusal (R144). -/
def State.cancelOpening (s : State) : Except Code State :=
  match s.slc.state with
  | .delay =>
    if s.slc.opening.map Opening.source = some .collection then .error .busy
    else if s.slc.opening.bind Opening.mark = some .waiting then
      .ok (s.changeOpening fun o => { o with source := .collection, operators := none, windows := 1 })
    else .ok (s.enterLock .locked none none .cancelled)
  | .window => .ok ((s.changeOpening fun o => { o with windows := 1 }).enterSecuring .cancelled)
  | .opened => .ok (s.changeOpening fun o => { o with windows := 1 })
  | .locked => .error .state
  | .securing => .error .state
  | .alarm => .error .state

/-- CANCEL OPENING at its owner (R144). -/
def askCancelOpening (s : State) : Answer :=
  match s.cancelOpening with
  | .error c => .refuse c []
  | .ok s1 => .accept s1 s1.openingDetail

/-- CANCEL OPENING (R144). -/
def execCancelOpening (s : State) : Host.Outcome State Fault Refusal :=
  takeRequest .cancelOpening (unlessHeld (settled askCancelOpening)) s

/-! ### CLEAR ALARM (R143) -/

/-- The lock record once the alarm is cleared (R143). -/
def Slc.alarmCleared (l : Slc) : Slc :=
  { l.enter .locked none none with forced := false, boltFault := false, alarm := .released }

/-- The set of reasons in the alarm latch, sent as two marks, FORCED then BOLT (DESIGN CHOICE, log entry 32). -/
def Slc.latchFields (l : Slc) : List Datum := [.mark l.forced, .mark l.boltFault]

/-- CLEAR ALARM at its owner (R143). A refusal for the sensors gives the door and then the bolt (DESIGN CHOICE, log entry 12). -/
def askClearAlarm (op : Nat) (s : State) : Answer :=
  if s.isSupervisor op = false then .refuse .role []
  else if s.slc.state ≠ .alarm then .refuse .state []
  else if s.slc.door = .opened ∨ s.slc.bolt = .retracted then .refuse .state [doorCode s.slc.door, boltCode s.slc.bolt]
  else .accept ((s.changeSlc Slc.alarmCleared).lockNotice .alarmCleared) s.slc.latchFields

/-- CLEAR ALARM (R143). -/
def execClearAlarm (op : Nat) (s : State) : Host.Outcome State Fault Refusal :=
  takeRequest (.clearAlarm op) (unlessHeld (settled (askClearAlarm op))) s

/-! ### Sense lines (R135, R181) -/

/-- The filtered level of the door sense line becomes `x`; while the part runs a change is an event at SLC (R135,
R139 to R142). -/
def execDoorSenseChange (x : DoorSense) (s : State) : Host.Outcome State Fault Refusal :=
  takeEvent (fun u => if u.slc.door = x then u else u.doorEvent x) { s with pins := { s.pins with door := x } }

/-- The filtered level of the bolt sense line becomes `x` (R135, R139 to R142). -/
def execBoltSenseChange (x : BoltSense) (s : State) : Host.Outcome State Fault Refusal :=
  takeEvent (fun u => if u.slc.bolt = x then u else u.boltEvent x) { s with pins := { s.pins with bolt := x } }

/-- The filtered level of the slot sense line becomes `x` (R135, R92). -/
def execSlotSenseChange (x : SlotSense) (s : State) : Host.Outcome State Fault Refusal :=
  takeEvent (fun u => if u.slc.slot = x then u else u.slotEvent x) { s with pins := { s.pins with slot := x } }

/-! ### Timers (R138 to R141) -/

/-- DELAY EXPIRY (R138). -/
def execDelayExpiry (s : State) : Host.Outcome State Fault Refusal :=
  takeEvent (fun s => if s.slc.state = .delay then s.enterWindow (s.slc.opening.getD default) .delayExpired else s) s

/-- WINDOW EXPIRY (R139). -/
def execWindowExpiry (s : State) : Host.Outcome State Fault Refusal :=
  takeEvent (fun s => if s.slc.state = .window then s.enterSecuring .windowExpired else s) s

/-- BOLT CONFIRMATION EXPIRY (R141). -/
def execBoltConfirmationExpiry (s : State) : Host.Outcome State Fault Refusal :=
  takeEvent (fun s => if s.slc.state = .securing then s.raiseBoltFault else s) s

/-! ### READ LOCK (R146) -/

/-- The reply to READ LOCK (R146). The failing condition of a CLOSED shutter stands behind a presence byte; for an OPEN shutter
nothing is sent, no presence byte either (DESIGN CHOICE, log entry 38). -/
def State.lockFields (s : State) : List Datum :=
  [s.slc.state.code] ++ optional (s.slc.opening.map Opening.fields) ++ optional (s.slc.timer.map fun n => [.word n]) ++
    [.mark s.slc.pendingCollection, doorCode s.slc.door, boltCode s.slc.bolt, slotCode s.slc.slot, s.slc.boltDrive.code,
     s.slc.shutter.code, s.slc.alarm.code] ++ s.slc.latchFields ++
    (if s.slc.shutter = .closed then optional (s.shutterFault.map fun f => [.enum f]) else [])

/-- READ LOCK (R146). -/
def execReadLock (s : State) : Host.Outcome State Fault Refusal := takeRequest .readLock (fun s => .accept s s.lockFields) s

end Sys2Proof.Machine
end

