-- ==== Sys2Proof/Machine/Office.lean ====
section
/-! DEFINITION. The requests of OC and the minute event (chapter 2). -/

namespace Sys2Proof.Machine

/-! ### The day (R22 to R26) -/

/-- Watermarks at the WORKING count and SUSPECT held at zero, at OPEN DAY (R7, R17). -/
def StockSlot.atOpenDay (x : StockSlot) : StockSlot := { x with suspect := 0, low := x.working, high := x.working }

/-- OPEN DAY at its owner (R23). -/
def askOpenDay (s : State) : Answer :=
  if s.oc.state = .trading ∨ s.oc.state = .closing then .refuse .state []
  else if s.oc.state = .unconfigured ∧ s.st.denoms = [] then .refuse .state []
  else
    let s1 : State :=
      { s with
        oc := { s.oc with openMark := some s.oc.clock, minuteTold := 0, totals := Totals.zero, state := .trading }
        st := { s.st with slots := s.st.slots.map StockSlot.atOpenDay } }
    .accept s1.decideShutter (.time s.oc.clock :: s.oc.totals.fields)

/-- OPEN DAY (R23). -/
def execOpenDay (s : State) : Host.Outcome State Fault Refusal := takeRequest .openDay (unlessHeld (settled askOpenDay)) s

/-- The answer that says CLOSING, with the outstanding figures and count (R24). -/
def State.closingDetail (s : State) : List Datum :=
  OfficeState.closing.code :: (s.outstanding.fields ++ [.word s.outstanding.total])

/-- CLOSE DAY at its owner (R24). A day that closes at once places no DAY_CLOSED (R25). -/
def askCloseDay (s : State) : Answer :=
  match s.oc.state with
  | .trading =>
    if s.slc.state ≠ .locked then .refuse .state s.outstanding.fields
    else if s.outstanding.total = 0 then .accept s.closeDay s.summarize.fields
    else .accept (s.endPass { s with oc := { s.oc with state := .closing } }) s.closingDetail
  | .closing => .accept s s.closingDetail
  | _ => .refuse .state []

/-- CLOSE DAY (R24). -/
def execCloseDay (s : State) : Host.Outcome State Fault Refusal := takeRequest .closeDay (unlessHeld askCloseDay) s

/-- CANCEL CLOSE at its owner (R26). -/
def askCancelClose (s : State) : Answer :=
  if s.oc.state = .closing then .accept { s with oc := { s.oc with state := .trading } } s.outstanding.fields
  else .refuse .state []

/-- CANCEL CLOSE (R26). -/
def execCancelClose (s : State) : Host.Outcome State Fault Refusal :=
  takeRequest .cancelClose (unlessHeld (settled askCancelClose)) s

/-- The deferred-notice list is moved into the notice queue, and its overflow becomes the notices-lost flag (R22). -/
def State.releaseDeferred (s : State) : State :=
  let s1 := s.oc.deferred.foldl State.queueNotice s
  { s1 with
    oc := { s1.oc with deferred := [], deferredOver := false }
    hli := { s1.hli with lost := s1.hli.lost || s.oc.deferredOver } }

/-- RESUME at its owner (R22). The reply gives the remembered state as the office state entered, also where the day closes in
the same operation (DESIGN CHOICE, log entry 33). -/
def askResume (s : State) : Answer :=
  if s.oc.state = .held then
    let entered := s.oc.remembered.getD .unconfigured
    let s1 : State := { s with oc := { s.oc with state := entered, remembered := none } }
    .accept s1.releaseDeferred.decideShutter.tellMinute [entered.code]
  else .refuse .state []

/-- RESUME (R22). -/
def execResume (s : State) : Host.Outcome State Fault Refusal := takeRequest .resume (settled askResume) s

/-! ### Clock and operators (R31, R32) -/

/-- SET CLOCK at its owner (R31). -/
def askSetClock (t : OfficeTime) (s : State) : Answer :=
  if s.oc.state = .trading ∨ s.oc.state = .closing then .refuse .state []
  else if timeOk t = false then .refuse .range []
  else .accept ({ s with oc := { s.oc with clock := t } } : State).missReached [.time t]

/-- SET CLOCK (R31). -/
def execSetClock (t : OfficeTime) (s : State) : Host.Outcome State Fault Refusal :=
  takeRequest (.setClock t) (unlessHeld (askSetClock t)) s

/-- The operator table replaced. -/
def State.setOperators (s : State) (os : List Operator) : State := { s with oc := { s.oc with operators := os } }

/-- ENROL OPERATOR at its owner (R32). -/
def askEnrolOperator (op role : Nat) (s : State) : Answer :=
  match roleOf role with
  | none => .refuse .range []
  | some r =>
    if op = 0 ∨ idLimit < op then .refuse .range []
    else if (s.roleOfOperator op).isSome then .refuse .duplicate []
    else if 32 ≤ s.oc.operators.length then .refuse .full []
    else .accept (s.setOperators (s.oc.operators ++ [{ ident := op, role := r }])) [.count (s.oc.operators.length + 1)]

/-- ENROL OPERATOR (R32). -/
def execEnrolOperator (op role : Nat) (s : State) : Host.Outcome State Fault Refusal :=
  takeRequest (.enrolOperator op role) (unlessHeld (askEnrolOperator op role)) s

/-- WITHDRAW OPERATOR at its owner (R32). -/
def askWithdrawOperator (op : Nat) (s : State) : Answer :=
  if (s.roleOfOperator op).isNone then .refuse .absent []
  else .accept (s.setOperators (s.oc.operators.filter fun o => decide (o.ident ≠ op))) []

/-- WITHDRAW OPERATOR (R32). -/
def execWithdrawOperator (op : Nat) (s : State) : Host.Outcome State Fault Refusal :=
  takeRequest (.withdrawOperator op) (unlessHeld (askWithdrawOperator op)) s

/-! ### Profiles (R35 to R37) -/

/-- An item of a write names a field, class, slot and policy that exist (R35 test 2). -/
def State.itemOk (s : State) (i : ProfileItem) : Bool :=
  decide (i.field ≤ 16) && (!fieldPerClass i.field || decide (i.cls ≤ 3)) && (!fieldPerSlot i.field || s.slotOk i.slot) &&
    (decide (i.field ≠ 16) || (haltPolicyOf i.value).isSome)

/-- The first item at fault, counted from 1 (R35 test 2). -/
def State.faultyItem (s : State) (items : List ProfileItem) : Option Nat := (items.findIdx? fun i => !s.itemOk i).map (· + 1)

/-- A profile replaced (R34). -/
def State.setProfile (s : State) (n : ProfileName) (p : Profile) : State :=
  match n with
  | .a => { s with oc := { s.oc with profileA := p } }
  | .b => { s with oc := { s.oc with profileB := p } }

/-- A clamped field in the reply to WRITE PROFILE: field, class, slot, value as stored (R36); the bytes of a class or slot that the
field does not have are 0 (DESIGN CHOICE, log entry 12). -/
def Profile.clampedEntry (p : Profile) (k : Nat × Nat × Nat) : List Datum :=
  [.byte k.1, .byte k.2.1, .byte k.2.2, .word (p.get k.1 k.2.1 k.2.2)]

/-- WRITE PROFILE at its owner (R35, R36). A RANGE refusal for the set or for the item count names no item, also where an item
is at fault as well (DESIGN CHOICE, log entry 12). -/
def askWriteProfile (set : Nat) (items : List ProfileItem) (s : State) : Answer :=
  match profileOf set with
  | none => .refuse .range []
  | some n =>
    if items = [] ∨ 48 < items.length then .refuse .range []
    else
      match s.faultyItem items with
      | some k => .refuse .range [.count k]
      | none =>
        if n = s.oc.active then .refuse .active []
        else
          let p := s.profileOf n
          let q := p.afterWrite items
          let clamped := fitting 478 ((clampedKeys p q items).map q.clampedEntry)
          .accept (s.setProfile n q) (counted clamped)

/-- WRITE PROFILE (R35). -/
def execWriteProfile (set : Nat) (items : List ProfileItem) (s : State) : Host.Outcome State Fault Refusal :=
  takeRequest (.writeProfile set items) (unlessHeld (askWriteProfile set items)) s

/-- SELECT PROFILE at its owner (R37). -/
def askSelectProfile (set op : Nat) (s : State) : Answer :=
  match profileOf set with
  | none => .refuse .range []
  | some n =>
    if s.isSupervisor op = false then .refuse .role []
    else .accept { s with oc := { s.oc with active := n } } []

/-- SELECT PROFILE (R37). -/
def execSelectProfile (set op : Nat) (s : State) : Host.Outcome State Fault Refusal :=
  takeRequest (.selectProfile set op) (unlessHeld (settled (askSelectProfile set op))) s

/-! ### ERASE RECORDS (R42) -/

/-- The refusal of ERASE RECORDS, if a test fails (R42). -/
def State.eraseRefusal (s : State) (op1 op2 : Nat) : Option Code :=
  if s.oc.state = .held then some .held
  else if s.oc.state = .trading ∨ s.oc.state = .closing then some .state
  else if s.twoSupervisors op1 op2 = false then some .role
  else none

/-- ERASE RECORDS (R42): the reply is sent, and then the part performs a cold start, which may be interrupted (R40). -/
def execEraseRecords (op1 op2 : Nat) (s : State) : Host.Outcome State Fault Refusal :=
  if s.phase = .running then
    match s.eraseRefusal op1 op2 with
    | some c => .next (s.formReply (.eraseRecords op1 op2) (some c) []).startTx
    | none => .next (s.formReply (.eraseRecords op1 op2) none []).flush.performColdStart
  else .next s

/-! ### The minute event (R56) -/

/-- MINUTE EVENT (R30, R56). -/
def execMinuteEvent (s : State) : Host.Outcome State Fault Refusal := takeEvent State.tellMinute s

/-! ### Reads (R28, R29, R32, R34) -/

/-- The reply to READ OFFICE (R29); the open mark and the trading minute share one presence byte (DESIGN CHOICE, log entry 38). -/
def State.officeFields (s : State) : List Datum :=
  [s.oc.state.code] ++ optional (s.oc.remembered.map fun r => [r.code]) ++ [.time s.oc.clock] ++
    optional (s.oc.openMark.map fun m => [.time m, .word s.minute]) ++
    [s.oc.active.code, .count s.oc.operators.length, s.oc.lastStart.code, .count s.oc.deferred.length] ++
    s.outstanding.fields ++ [.word s.outstanding.total] ++ s.oc.totals.fields ++ [.mark s.hli.lost]

/-- READ OFFICE (R29): the one read that changes something, the notices-lost flag it reports. -/
def execReadOffice (s : State) : Host.Outcome State Fault Refusal :=
  takeRequest .readOffice (fun s => .accept { s with hli := { s.hli with lost := false } } s.officeFields) s

/-- READ DAY SUMMARY (R28). -/
def execReadDaySummary (s : State) : Host.Outcome State Fault Refusal :=
  takeRequest .readDaySummary (fun s => .accept s (optional (s.oc.summary.map DaySummary.fields))) s

/-- READ OPERATORS (R32). -/
def execReadOperators (s : State) : Host.Outcome State Fault Refusal :=
  takeRequest .readOperators (fun s => .accept s (counted (s.oc.operators.map fun o => [.ident o.ident, o.role.code]))) s

/-- READ PROFILE (R34): the fields in the order of Table 2.4, the slots configured, then whether the set is active. -/
def execReadProfile (set : Nat) (s : State) : Host.Outcome State Fault Refusal :=
  takeRequest (.readProfile set) (fun s =>
    match profileOf set with
    | none => .refuse .range []
    | some n =>
      .accept s (listing 1 ((profileKeys s.slots).map fun k => [.word ((s.profileOf n).get k.1 k.2.1 k.2.2)])
        [.mark (decide (n = s.oc.active))])) s

end Sys2Proof.Machine
end

