-- ==== Sys2Proof/Machine/Power.lean ====
section
/-! DEFINITION. The controlled stop, the reset input, power and the two starts (R38 to R41, R181). -/

namespace Sys2Proof.Machine

/-- The power-fail input replaced. -/
def State.setPowerFail (s : State) (x : Bool) : State := { s with pins := { s.pins with powerFail := x } }

/-- The reset input replaced. -/
def State.setReset (s : State) (x : Bool) : State := { s with pins := { s.pins with reset := x } }

/-- The phase replaced. -/
def State.setPhase (s : State) (p : Phase) : State := { s with phase := p }

/-- CONTROLLED STOP: the power-fail input asserts; a part that runs performs the stop (R38). -/
def execControlledStop (s : State) : Host.Outcome State Fault Refusal :=
  let s1 := s.setPowerFail true
  if s.phase = .running then .next s1.controlledStop else .next s1

/-- POWER FAIL DEASSERT: a part that has stopped and still has power comes up (R38). -/
def execPowerFailDeassert (s : State) : Host.Outcome State Fault Refusal :=
  let s1 := s.setPowerFail false
  if s.phase = .stopped then .next (s1.setPhase .starting) else .next s1

/-- RESET ASSERT: a part with power stops at once, with no clean-stop mark written (R39). -/
def execResetAssert (s : State) : Host.Outcome State Fault Refusal :=
  let s1 := s.setReset true
  if s.phase = .off then .next s1 else .next (s1.setPhase .inReset)

/-- RESET RELEASE: the part comes up (R39). -/
def execResetRelease (s : State) : Host.Outcome State Fault Refusal :=
  let s1 := s.setReset false
  if s.phase = .inReset then .next (s1.setPhase .starting) else .next s1

/-- POWER UP: the supply comes; the part comes up, or waits in reset (R39). -/
def execPowerUp (s : State) : Host.Outcome State Fault Refusal :=
  if s.phase = .off then .next (s.setPhase (if s.pins.reset then .inReset else .starting)) else .next s

/-- POWER LOSS: the supply goes; the records stay in the battery-backed store (R38, R39). -/
def execPowerLoss (s : State) : Host.Outcome State Fault Refusal := .next (s.setPhase .off)

/-- The part comes up and the power-fail input is deasserted: it examines the store header (R39). -/
def State.examines (s : State) : Bool := decide (s.phase = .starting) && !s.pins.powerFail

/-- COLD START, when the part examines the store header and the validity mark is absent (R39, R40); it may be interrupted. -/
def execColdStart (s : State) : Host.Outcome State Fault Refusal :=
  if s.examines && !s.valid then .next s.performColdStart else .next s

/-- WARM RESTART, when the part examines the store header and the validity mark is present (R39, R41). -/
def execWarmRestart (s : State) : Host.Outcome State Fault Refusal :=
  if s.examines && s.valid then .next s.warmRestart else .next s

end Sys2Proof.Machine
end

