-- ==== Sys2Proof/Machine/Stations.lean ====
section
/-! DEFINITION. The requests of CSC and the records, the link silence and the byte gap of the station lines
(chapter 6). -/

namespace Sys2Proof.Machine

/-! ### CLEAR STATION (R124) -/

/-- A hold of the station's own, which keeps its job: JAM, SUSPECT or DOUBT (R122). -/
def HoldReason.own : HoldReason → Bool
  | .jam => true
  | .suspect => true
  | .doubt => true
  | _ => false

/-- The partner of a pooled job is held for its own reason (R124). -/
def State.partnerHeld (s : State) (k : StationJob) : Bool :=
  k.partner.any fun p => match (s.station p).state with | .held r => r.own | _ => false

/-- A station becomes IDLE without a job, with its notice (R124). -/
def State.makeIdle (s : State) (n : Nat) : State := (s.changeStation n fun x => x.clearJob .idle).stationNotice n none

/-- What CLEAR STATION does, `none` where the station's state refuses it (R124). -/
def State.clearStation (s : State) (n : Nat) : Option State :=
  let x := s.station n
  match x.state with
  | .held r =>
    if r = .pool then none
    else
      match x.job with
      | none => some (s.makeIdle n)
      | some k =>
        if r.own then
          if s.partnerHeld k then some (s.setStation n { x with state := .held .pool }) else some (s.endHolds k.bag)
        else some (s.makeIdle n)
  | _ => none

/-- CLEAR STATION at its owner (R124). The reply gives the state after the arbiter's pass (DESIGN CHOICE, log entry 13), without its
reason (DESIGN CHOICE, log entry 12). -/
def askClearStation (n : Nat) (s : State) : Answer :=
  if stationOk n = false then .refuse .range []
  else
    match s.clearStation n with
    | none => .refuse .state []
    | some s1 =>
      let s2 := s.settle s1
      .accept s2 [(s2.station n).state.code]

/-- CLEAR STATION (R124). -/
def execClearStation (n : Nat) (s : State) : Host.Outcome State Fault Refusal :=
  takeRequest (.clearStation n) (unlessHeld (askClearStation n)) s

/-! ### ENABLE STATION, DISABLE STATION (R125, R126) -/

/-- ENABLE STATION at its owner (R125). The reply gives the state without its reason (DESIGN CHOICE, log entry 12). -/
def askEnableStation (n : Nat) (s : State) : Answer :=
  if stationOk n = false then .refuse .range []
  else
    let x := s.station n
    let s1 := if x.enabled then s else s.setStation n { x with enabled := true, state := .offline .start }
    .accept s1 [.mark (s1.station n).enabled, (s1.station n).state.code]

/-- ENABLE STATION (R125). -/
def execEnableStation (n : Nat) (s : State) : Host.Outcome State Fault Refusal :=
  takeRequest (.enableStation n) (unlessHeld (askEnableStation n)) s

/-- What DISABLE STATION does after the enabled mark is cleared (R126). -/
def State.disableStation (s : State) (n : Nat) : State :=
  let s1 := s.changeStation n fun x => { x with enabled := false }
  match (s.station n).state, (s.station n).job with
  | .offline _, _ => s1.changeStation n fun x => { x with state := .offline .disabled }
  | _, some _ => s1.abortJob n .disabled
  | _, none => (s1.changeStation n fun x => x.clearJob (.offline .disabled)).stationNotice n none

/-- DISABLE STATION at its owner (R126). The reply gives the state after the arbiter's pass (DESIGN CHOICE, log entry 13), without
its reason (DESIGN CHOICE, log entry 12). -/
def askDisableStation (n : Nat) (s : State) : Answer :=
  if stationOk n = false then .refuse .range []
  else
    let s2 := s.settle (s.disableStation n)
    .accept s2 [(s2.station n).state.code]

/-- DISABLE STATION (R126). -/
def execDisableStation (n : Nat) (s : State) : Host.Outcome State Fault Refusal :=
  takeRequest (.disableStation n) (unlessHeld (askDisableStation n)) s

/-! ### The records of the station lines (Table 6.2, Table 10.4) -/

/-- READY (R109). -/
def execStationReady (l : StationLine) (w : Wire) (s : State) : Host.Outcome State Fault Refusal :=
  takePartner (.station l) (w.onLine 16 []) s

/-- SEAL READ (R115). -/
def execStationSealRead (l : StationLine) (sealNo : Nat) (w : Wire) (s : State) : Host.Outcome State Fault Refusal :=
  takePartner (.station l) (w.onLine 17 (bytesOfNat 4 sealNo)) s

/-- STRAP (R119); a class byte other than 0 GOOD and 1 UNFIT fails the frame check (R180). -/
def execStrap (l : StationLine) (slot pieces cls : Nat) (w : Wire) (s : State) : Host.Outcome State Fault Refusal :=
  takePartner (.station l) (w.onLine 18 (bytesOfNat 1 slot ++ bytesOfNat 1 pieces ++ bytesOfNat 1 cls)) s

/-- SUSPECT (R119, R122). -/
def execSuspect (l : StationLine) (slot : Nat) (w : Wire) (s : State) : Host.Outcome State Fault Refusal :=
  takePartner (.station l) (w.onLine 19 (bytesOfNat 1 slot)) s

/-- DOUBT (R120). -/
def execDoubt (l : StationLine) (slot : Nat) (w : Wire) (s : State) : Host.Outcome State Fault Refusal :=
  takePartner (.station l) (w.onLine 20 (bytesOfNat 1 slot)) s

/-- DOUBT CLEARED (R120); a verdict byte other than 0 accepted and 1 rejected fails the frame check (R180). -/
def execDoubtCleared (l : StationLine) (verdict : Nat) (w : Wire) (s : State) : Host.Outcome State Fault Refusal :=
  takePartner (.station l) (w.onLine 21 (bytesOfNat 1 verdict)) s

/-- JAM (R122). -/
def execJam (l : StationLine) (w : Wire) (s : State) : Host.Outcome State Fault Refusal :=
  takePartner (.station l) (w.onLine 22 []) s

/-- END (R129). -/
def execEndTotals (l : StationLine) (t : Vector Counts 12) (w : Wire) (s : State) : Host.Outcome State Fault Refusal :=
  takePartner (.station l) (w.onLine 23 (countsBytes t)) s

/-- The link-silence timer of a station expires: its job is aborted with reason LINK (R110). -/
def State.linkSilence (s : State) (n : Nat) : State :=
  match (s.station n).silence, (s.station n).job with
  | some _, some _ => s.abortJob n .link
  | some _, none => s.changeStation n fun x => { x with silence := none }
  | none, _ => s

/-- LINK SILENCE EXPIRY (R110). -/
def execLinkSilenceExpiry (l : StationLine) (s : State) : Host.Outcome State Fault Refusal :=
  takeEvent (fun s => s.linkSilence l.num) s

/-- PARTNER BYTE GAP TIMEOUT: 50 milliseconds pass after a byte of a partner's frame, which fails its check (R180). -/
def execPartnerByteGapTimeout (l : PartnerLine) (s : State) : Host.Outcome State Fault Refusal :=
  takeLineEvent (fun s => s.partnerGap l) s

/-! ### READ STATIONS (R132) -/

/-- The job of a station as fields (R132), all behind one presence byte, partner and doubt mark with their own (DESIGN CHOICE, log
entry 38). -/
def State.stationJobFields (s : State) (n : Nat) (k : StationJob) : List Datum :=
  let j := (s.jobOf k.bag).getD default
  let p := j.part n
  [.byte k.bag, k.portion.code] ++ optional (k.partner.map fun m => [.byte m]) ++
    [.mark k.complete, .word j.tolerance, .enum j.policy.num, .time j.assigned] ++ optional (p.doubt.map fun d => [.byte d]) ++
    s.tallyFields p.tally

/-- What READ STATIONS gives for one station (R132). -/
def State.stationEntry (s : State) (n : Nat) : List Datum :=
  let x := s.station n
  [.mark x.enabled, x.state.code] ++ x.state.reason ++ [x.flow.code, .count x.intake.length] ++
    optional (x.job.map (s.stationJobFields n))

/-- READ STATIONS (R132). The number of stations given stands before the two figures of the end (DESIGN CHOICE, log entry 23). -/
def execReadStations (s : State) : Host.Outcome State Fault Refusal :=
  takeRequest .readStations (fun s =>
    .accept s (listing 5 ((upTo 4).map s.stationEntry) [.count s.online, .word s.profile.poolThreshold])) s

end Sys2Proof.Machine
end

