-- ==== Sys2Proof/Machine/Stock.lean ====
section
/-! DEFINITION. The requests of ST: DEFINE DENOMINATIONS, TRANSFER STOCK, READ STOCK, READ RESERVATIONS (chapter 1). -/

namespace Sys2Proof.Machine

/-! ### DEFINE DENOMINATIONS (R2) -/

/-- Slot `d` of a definition is at fault: above 12, a value outside 1 to 1,000,000 or not below the one before it, or a
kind that is none (R1, R2 test 4). -/
def faultyDenom (es : List DenomEntry) (d : Nat) : Bool :=
  let e := (es[d - 1]?).getD default
  let before := (es[d - 2]?).getD default
  decide (12 < d ∨ e.value < 1 ∨ 1000000 < e.value) || decide (1 < d ∧ before.value ≤ e.value) || (denomKindOf e.kind).isNone

/-- The first slot at fault (R2 test 4). -/
def firstFaultyDenom (es : List DenomEntry) : Option Nat := (upTo es.length).find? (faultyDenom es)

/-- Some area of some slot holds pieces (R2 test 3). -/
def State.holdsStock (s : State) : Bool :=
  s.st.slots.toList.any fun x => decide (x.working ≠ 0 ∨ x.reserve ≠ 0 ∨ x.unfit ≠ 0 ∨ x.dispatch ≠ 0)

/-- Some bag record is not FREE (R2 test 3). -/
def State.holdsBag (s : State) : Bool := s.br.bags.toList.any Option.isSome

/-- The definition that the entries write. -/
def denomsOf (es : List DenomEntry) : List Denom := es.map fun e => { value := e.value, kind := (denomKindOf e.kind).getD .note }

/-- The counts that a new definition clears: SUSPECT held and both watermarks (R2). -/
def StockSlot.cleared (x : StockSlot) : StockSlot := { x with suspect := 0, low := 0, high := 0 }

/-- DEFINE DENOMINATIONS at its owner (R2). A kind that is none is tested with the values (DESIGN CHOICE, log entry 41). -/
def askDefineDenominations (es : List DenomEntry) (s : State) : Answer :=
  if s.oc.state = .trading ∨ s.oc.state = .closing then .refuse .state []
  else if s.holdsStock || s.holdsBag then .refuse .state []
  else if es = [] then .refuse .range []
  else
    match firstFaultyDenom es with
    | some d => .refuse .range [.byte d]
    | none =>
      .accept { s with st := { s.st with denoms := denomsOf es, slots := s.st.slots.map StockSlot.cleared } }
        (counted ((denomsOf es).map fun e => [.pieceValue e.value, e.kind.code]))

/-- DEFINE DENOMINATIONS (R2). -/
def execDefineDenominations (es : List DenomEntry) (s : State) : Host.Outcome State Fault Refusal :=
  takeRequest (.defineDenominations es) (unlessHeld (askDefineDenominations es)) s

/-! ### TRANSFER STOCK (R10) -/

/-- One slot after a transfer of its pieces; `down` is WORKING to RESERVE. -/
def StockSlot.transfer (down : Bool) (n : Nat) (x : StockSlot) : StockSlot :=
  if down then { StockSlot.withWorking x (x.working - n) with reserve := x.reserve + n }
  else { StockSlot.withWorking x (x.working + n) with reserve := x.reserve - n }

/-- All lines of a transfer, in one operation (R10). -/
def State.transferLines (s : State) (down : Bool) (ls : List StockLine) : State :=
  ls.foldl (fun u l => u.changeSlot l.slot (StockSlot.transfer down l.pieces)) s

/-- The lowest slot whose line is short (R10 test 5). -/
def State.transferShort (s : State) (down : Bool) (ls : List StockLine) : Option Nat :=
  leastFailing (fun d => decide ((if down then s.assemblyLimit .working d else (s.slot d).reserve) < lineFor ls d)) (s.namedSlots ls)

/-- The lowest slot whose receiving area would pass the limit (R10 test 6). -/
def State.transferFull (s : State) (down : Bool) (ls : List StockLine) : Option Nat :=
  leastFailing (fun d => decide (pieceLimit < (if down then (s.slot d).reserve else (s.slot d).working) + lineFor ls d)) (s.namedSlots ls)

/-- TRANSFER STOCK at its owner (R10); direction 0 is WORKING to RESERVE. The direction is tested with the lines (DESIGN CHOICE,
log entry 41); the reply's layout is log entry 12 (DESIGN CHOICE). -/
def askTransferStock (op1 op2 direction : Nat) (ls : List StockLine) (s : State) : Answer :=
  let down := decide (direction = 0)
  if s.oc.state = .unconfigured then .refuse .state []
  else if 1 < direction ∨ s.stockLinesOk ls = false then .refuse .range []
  else if s.dualControl op1 op2 = false then .refuse .role []
  else
    match s.transferShort down ls with
    | some d => .refuse .short [.byte d]
    | none =>
      match s.transferFull down ls with
      | some d => .refuse .full [.byte d]
      | none =>
        let s1 := s.transferLines down ls
        let lowered := if down then (s.namedSlots ls).map fun d => (d, Source.working) else []
        .accept (s1.retryPasses lowered)
          (counted ((s.namedSlots ls).map fun d => [.byte d, .pieces (s1.slot d).working, .pieces (s1.slot d).reserve]))

/-- TRANSFER STOCK (R10). -/
def execTransferStock (op1 op2 direction : Nat) (ls : List StockLine) (s : State) : Host.Outcome State Fault Refusal :=
  takeRequest (.transferStock op1 op2 direction ls) (unlessHeld (settled (askTransferStock op1 op2 direction ls))) s

/-! ### READ STOCK, READ RESERVATIONS (R18) -/

/-- What READ STOCK gives for one slot (R18). -/
def State.stockEntry (s : State) (d : Nat) : List Datum :=
  let x := s.slot d
  [.pieceValue (s.pieceValue d), (if s.isRoll d then DenomKind.roll else DenomKind.note).code, .pieces x.working, .pieces x.reserve,
   .pieces x.unfit, .pieces x.dispatch, .pieces (s.reserved .working d), .pieces (s.reserved .unfit d),
   .pieces (s.availability d), .pieces x.suspect, .pieces x.low, .pieces x.high]

/-- READ STOCK (R18). -/
def execReadStock (s : State) : Host.Outcome State Fault Refusal :=
  takeRequest .readStock (fun s => .accept s
    (counted (s.slots.map s.stockEntry) ++
      [.wide (s.areaValue StockSlot.working), .wide (s.areaValue StockSlot.reserve), .wide (s.areaValue StockSlot.unfit),
       .wide (s.areaValue StockSlot.dispatch), .wide s.stockValue, .count s.st.held.length])) s

/-- The owner of a reservation: a till, or a bag slot (Table 1.3), sent as an enumeration byte, 0 a till and 1 a bag, and
then the number (DESIGN CHOICE, log entry 32). -/
def Owner.fields : Owner → List Datum
  | .till n => [.enum 0, .byte n]
  | .bag b => [.enum 1, .byte b]

/-- A content line as fields. -/
def ContentLine.fields (l : ContentLine) : List Datum := [.byte l.slot, .pieces l.pieces, l.source.code]

/-- A reservation record as fields (Table 1.3). -/
def Reservation.fields (r : Reservation) : List Datum :=
  r.owner.fields ++ counted (r.lines.map ContentLine.fields) ++ [.time r.created] ++ optional (r.expiry.map fun t => [.time t])

/-- READ RESERVATIONS (R18). -/
def execReadReservations (index : Nat) (s : State) : Host.Outcome State Fault Refusal :=
  takeRequest (.readReservations index) (fun s =>
    if 15 < index then .refuse .range []
    else .accept s (listing 1 ((s.st.reservations.drop index).map Reservation.fields) [.count s.st.reservations.length])) s

end Sys2Proof.Machine
end

