-- ==== Sys2Proof/Machine/Dispatch.lean ====
section
/-! DEFINITION. One arm per command: each is one direct call of the command's meaning. -/

namespace Sys2Proof.Machine

/-- The effect of a command on everything but the queue. -/
def exec (i : Instr) (s : State) : Host.Outcome State Fault Refusal :=
  match i with
  | .defineDenominations entries => Sys2Proof.Machine.execDefineDenominations entries s
  | .transferStock op1 op2 direction lines => Sys2Proof.Machine.execTransferStock op1 op2 direction lines s
  | .openDay => Sys2Proof.Machine.execOpenDay s
  | .closeDay => Sys2Proof.Machine.execCloseDay s
  | .cancelClose => Sys2Proof.Machine.execCancelClose s
  | .resume => Sys2Proof.Machine.execResume s
  | .setClock time => Sys2Proof.Machine.execSetClock time s
  | .enrolOperator op role => Sys2Proof.Machine.execEnrolOperator op role s
  | .withdrawOperator op => Sys2Proof.Machine.execWithdrawOperator op s
  | .writeProfile set items => Sys2Proof.Machine.execWriteProfile set items s
  | .selectProfile set op => Sys2Proof.Machine.execSelectProfile set op s
  | .eraseRecords op1 op2 => Sys2Proof.Machine.execEraseRecords op1 op2 s
  | .setTill till cls enabled => Sys2Proof.Machine.execSetTill till cls enabled s
  | .openTill till amount reduce => Sys2Proof.Machine.execOpenTill till amount reduce s
  | .confirmFloat till => Sys2Proof.Machine.execConfirmFloat till s
  | .cancelFloat till => Sys2Proof.Machine.execCancelFloat till s
  | .topUp till lines => Sys2Proof.Machine.execTopUp till lines s
  | .reportTakings till takings => Sys2Proof.Machine.execReportTakings till takings s
  | .declarePickup till sealNo amount => Sys2Proof.Machine.execDeclarePickup till sealNo amount s
  | .closeTill till sealNo amount takings => Sys2Proof.Machine.execCloseTill till sealNo amount takings s
  | .declareOfficeBag sealNo value => Sys2Proof.Machine.execDeclareOfficeBag sealNo value s
  | .adoptBag slot kind till value sealNo => Sys2Proof.Machine.execAdoptBag slot kind till value sealNo s
  | .writeOffBag slot op => Sys2Proof.Machine.execWriteOffBag slot op s
  | .recountBag slot => Sys2Proof.Machine.execRecountBag slot s
  | .clearStation station => Sys2Proof.Machine.execClearStation station s
  | .enableStation station => Sys2Proof.Machine.execEnableStation station s
  | .disableStation station => Sys2Proof.Machine.execDisableStation station s
  | .requestOpening op1 op2 windows => Sys2Proof.Machine.execRequestOpening op1 op2 windows s
  | .cancelOpening => Sys2Proof.Machine.execCancelOpening s
  | .clearAlarm op => Sys2Proof.Machine.execClearAlarm op s
  | .newConsignment => Sys2Proof.Machine.execNewConsignment s
  | .assembleBag consignment lines => Sys2Proof.Machine.execAssembleBag consignment lines s
  | .sealBag slot sealNo => Sys2Proof.Machine.execSealBag slot sealNo s
  | .discardBag slot => Sys2Proof.Machine.execDiscardBag slot s
  | .unsealBag slot op => Sys2Proof.Machine.execUnsealBag slot op s
  | .attachBag slot consignment => Sys2Proof.Machine.execAttachBag slot consignment s
  | .expectDelivery consignment sealNo value => Sys2Proof.Machine.execExpectDelivery consignment sealNo value s
  | .scheduleCollection consignment courier route earliest latest => Sys2Proof.Machine.execScheduleCollection consignment courier route earliest latest s
  | .cancelConsignment consignment => Sys2Proof.Machine.execCancelConsignment consignment s
  | .setNotices mask => Sys2Proof.Machine.execSetNotices mask s
  | .readStock => Sys2Proof.Machine.execReadStock s
  | .readReservations index => Sys2Proof.Machine.execReadReservations index s
  | .readOffice => Sys2Proof.Machine.execReadOffice s
  | .readDaySummary => Sys2Proof.Machine.execReadDaySummary s
  | .readOperators => Sys2Proof.Machine.execReadOperators s
  | .readProfile set => Sys2Proof.Machine.execReadProfile set s
  | .readTill till => Sys2Proof.Machine.execReadTill till s
  | .readTills till => Sys2Proof.Machine.execReadTills till s
  | .readPickupList index => Sys2Proof.Machine.execReadPickupList index s
  | .readCountQueue index => Sys2Proof.Machine.execReadCountQueue index s
  | .readBag slot => Sys2Proof.Machine.execReadBag slot s
  | .readSeal sealNo => Sys2Proof.Machine.execReadSeal sealNo s
  | .readOrphans => Sys2Proof.Machine.execReadOrphans s
  | .readStations => Sys2Proof.Machine.execReadStations s
  | .readLock => Sys2Proof.Machine.execReadLock s
  | .readConsignment consignment => Sys2Proof.Machine.execReadConsignment consignment s
  | .readHandover => Sys2Proof.Machine.execReadHandover s
  | .readUnattached => Sys2Proof.Machine.execReadUnattached s
  | .hostFrame bytes => Sys2Proof.Machine.execHostFrame bytes s
  | .hostByteGapTimeout => Sys2Proof.Machine.execHostByteGapTimeout s
  | .lineBreak => Sys2Proof.Machine.execLineBreak s
  | .replySent => Sys2Proof.Machine.execReplySent s
  | .noticeSent => Sys2Proof.Machine.execNoticeSent s
  | .minuteEvent => Sys2Proof.Machine.execMinuteEvent s
  | .floatExpiry till => Sys2Proof.Machine.execFloatExpiry till s
  | .latestReached consignment => Sys2Proof.Machine.execLatestReached consignment s
  | .stationReady line wire => Sys2Proof.Machine.execStationReady line wire s
  | .stationSealRead line sealNo wire => Sys2Proof.Machine.execStationSealRead line sealNo wire s
  | .strap line slot pieces cls wire => Sys2Proof.Machine.execStrap line slot pieces cls wire s
  | .suspect line slot wire => Sys2Proof.Machine.execSuspect line slot wire s
  | .doubt line slot wire => Sys2Proof.Machine.execDoubt line slot wire s
  | .doubtCleared line verdict wire => Sys2Proof.Machine.execDoubtCleared line verdict wire s
  | .jam line wire => Sys2Proof.Machine.execJam line wire s
  | .endTotals line totals wire => Sys2Proof.Machine.execEndTotals line totals wire s
  | .linkSilenceExpiry line => Sys2Proof.Machine.execLinkSilenceExpiry line s
  | .partnerByteGapTimeout line => Sys2Proof.Machine.execPartnerByteGapTimeout line s
  | .slotSealRead sealNo wire => Sys2Proof.Machine.execSlotSealRead sealNo wire s
  | .readWaitExpiry => Sys2Proof.Machine.execReadWaitExpiry s
  | .doorSenseChange level => Sys2Proof.Machine.execDoorSenseChange level s
  | .boltSenseChange level => Sys2Proof.Machine.execBoltSenseChange level s
  | .slotSenseChange level => Sys2Proof.Machine.execSlotSenseChange level s
  | .delayExpiry => Sys2Proof.Machine.execDelayExpiry s
  | .windowExpiry => Sys2Proof.Machine.execWindowExpiry s
  | .boltConfirmationExpiry => Sys2Proof.Machine.execBoltConfirmationExpiry s
  | .present courier route wire => Sys2Proof.Machine.execPresent courier route wire s
  | .scan sealNo wire => Sys2Proof.Machine.execScan sealNo wire s
  | .confirm wire => Sys2Proof.Machine.execConfirm wire s
  | .abandon wire => Sys2Proof.Machine.execAbandon wire s
  | .stepTimerExpiry => Sys2Proof.Machine.execStepTimerExpiry s
  | .overallTimerExpiry => Sys2Proof.Machine.execOverallTimerExpiry s
  | .controlledStop => Sys2Proof.Machine.execControlledStop s
  | .powerFailDeassert => Sys2Proof.Machine.execPowerFailDeassert s
  | .resetAssert => Sys2Proof.Machine.execResetAssert s
  | .resetRelease => Sys2Proof.Machine.execResetRelease s
  | .powerUp => Sys2Proof.Machine.execPowerUp s
  | .coldStart => Sys2Proof.Machine.execColdStart s
  | .warmRestart => Sys2Proof.Machine.execWarmRestart s
  | .lineReturnsToMark => Sys2Proof.Machine.execLineReturnsToMark s
  | .powerLoss => Sys2Proof.Machine.execPowerLoss s
  | .dockFrameCheckFailed type body wire => Sys2Proof.Machine.execDockFrameCheckFailed type body wire s

end Sys2Proof.Machine
end

