-- ==== Sys2Proof/Machine/Idle.lean ====
section
/-! DEFINITION. What the part does when no command waits: the first of the things that have fallen due, or one second
of its time base (R15, R30, R39, R92, R110, R138 to R141, R158, R167, R172; log entries 3 and 5). -/

namespace Sys2Proof.Machine

/-- A float reservation whose expiry the clock has reached (R15). -/
def State.expired (s : State) (r : Reservation) : Bool :=
  match r.expiry with
  | none => false
  | some t => decide (r.created.secondsTo t ≤ r.created.secondsTo s.oc.clock)

/-- The floats whose expiry is reached, in order of placement (R15). -/
def State.dueFloats (s : State) : List Instr :=
  s.st.reservations.filterMap fun r =>
    match r.owner with
    | .till n => if s.expired r then some (.floatExpiry n) else none
    | .bag _ => none

/-- The SCHEDULED consignments whose latest is reached (R158). -/
def State.dueLatests (s : State) : List Instr :=
  ((upTo 8).filter fun c =>
    decide ((s.consignment c).state = .scheduled) && !s.oc.clock.before ((s.consignment c).schedule.getD default).latest).map Instr.latestReached

/-- The minute event, when the trading minute has reached a new value in TRADING or CLOSING (R30). -/
def State.dueMinute (s : State) : List Instr :=
  if (s.oc.state = .trading ∨ s.oc.state = .closing) ∧ s.oc.minuteTold ≠ s.minute then [.minuteEvent] else []

/-- The stations whose link-silence timer has run out (R110). -/
def State.dueSilences (s : State) : List Instr :=
  ([StationLine.one, .two, .three, .four].filter fun l => decide ((s.station l.num).silence = some 0)).map Instr.linkSilenceExpiry

/-- The oldest pending drop, when its read wait has run out (R92). -/
def State.dueDrop (s : State) : List Instr :=
  match s.br.drops with
  | d :: _ => if d.wait = 0 then [.readWaitExpiry] else []
  | [] => []

/-- The timer of the lock, when it has run out (Table 7.1). -/
def State.dueLock (s : State) : List Instr :=
  if s.slc.timer = some 0 then
    match s.slc.state with
    | .delay => [.delayExpiry]
    | .window => [.windowExpiry]
    | .securing => [.boltConfirmationExpiry]
    | _ => []
  else []

/-- The timers of the handover that have run out (R167). -/
def State.dueHandover (s : State) : List Instr :=
  match s.chu.handover with
  | none => []
  | some h => (if h.step = some 0 then [Instr.stepTimerExpiry] else []) ++ (if h.overall = 0 then [Instr.overallTimerExpiry] else [])

/-- The oldest request not yet taken, which the HLI hands to its owner at once (R172). -/
def State.dueRequest (s : State) : List Instr := (s.nextRequest.map BufferEntry.request).toList

/-- Everything that has fallen due in a part that runs, or the start of a part that examines its store header. -/
def State.due (s : State) : List Instr :=
  match s.phase with
  | .running =>
    s.dueRequest ++ s.dueFloats ++ s.dueLatests ++ s.dueMinute ++ s.dueSilences ++ s.dueDrop ++ s.dueLock ++ s.dueHandover
  | .starting => if s.pins.powerFail then [] else if s.valid then [.warmRestart] else [.coldStart]
  | _ => []

/-- The one of several due things that is taken first: nothing constrains which (log entry 3). -/
def State.chosen (s : State) (c : Instr) (cs : List Instr) : Instr × State :=
  match cs with
  | [] => (c, s)
  | _ => (((c :: cs)[Config.dueChoice s.choices % (cs.length + 1)]?).getD c, { s with choices := s.choices + 1 })

/-- What an idle part takes next of its own accord, if anything has fallen due. -/
def State.nextOwn (s : State) : Option (Instr × State) :=
  match s.due with
  | [] => none
  | c :: cs => some (s.chosen c cs)

/-- A second off a running timer. -/
def secondOff (t : Option Nat) : Option Nat := t.map (· - 1)

/-- A handover's timers a second later. -/
def Handover.tick (h : Handover) : Handover := { h with overall := h.overall - 1, step := secondOff h.step }

/-- One second of the time base: the office clock advances with or without power (R30); the seconds timers of a part
that runs count down with it. -/
def State.tick (s : State) : State :=
  let s1 : State := { s with oc := { s.oc with clock := s.oc.clock.later 1 } }
  if s.phase = .running then
    { s1 with
      br := { s1.br with drops := s1.br.drops.map fun d => { d with wait := d.wait - 1 } }
      csc := { s1.csc with stations := s1.csc.stations.map fun x => { x with silence := secondOff x.silence } }
      slc := { s1.slc with timer := secondOff s1.slc.timer }
      chu := { s1.chu with handover := s1.chu.handover.map Handover.tick } }
  else s1

end Sys2Proof.Machine
end

