-- ==== Sys2Proof/Machine/Step.lean ====
section
/-! DEFINITION. One step of the part: the command at the front of the queue, or what an idle part does. -/

namespace Sys2Proof.Machine

/-- An empty queue: what has fallen due, else one second of the time base (log entry 5). -/
def idle (s : State) : Host.Outcome State Fault Refusal :=
  match s.nextOwn with
  | some (c, s1) => exec c s1
  | none => .next s.tick

/-- One step: the command at the front of the queue is taken with the queue's rest; an empty queue idles. -/
def step (s : State) : Host.Outcome State Fault Refusal :=
  match s.pending with
  | c :: rest => exec c { s with pending := rest }
  | [] => idle s

/-- The state with the command that a word spells put at the front of the queue; no word spells one, since
spec/opcode_table.json gives its rows no bits. -/
def State.withFetchWord (s : State) (nbits w : Nat) : State :=
  match decodeTableWord nbits w with
  | none => s
  | some c => { s with pending := c :: s.pending }

end Sys2Proof.Machine
end

