-- ==== Sys2Proof/Safety.lean ====
section
/-! DEFINITION. What counts as a safe state: the laws of the device that a state alone can show, each with the rule that
states it and with what it rests on; and the words in which statements about commands are written. -/

namespace Sys2Proof.Machine

/-! ### Laws of the device -/

/-- The lock: the bolt drive is that of the lock state (R135); ALARM and the alarm output go with the latch; the opening
record is absent in LOCKED and ALARM alone (R134). -/
structure State.LockLaw (s : State) : Prop where
  bolt    : s.slc.boltDrive = s.slc.state.drive
  latch   : s.slc.state = .alarm ↔ s.slc.forced = true ∨ s.slc.boltFault = true
  output  : s.slc.alarm = .asserted ↔ s.slc.forced = true ∨ s.slc.boltFault = true
  opening : s.slc.opening = none ↔ s.slc.state = .locked ∨ s.slc.state = .alarm

/-- The remembered state is present exactly while the office is HELD, and is one of the other four (R20). -/
structure State.RememberedLaw (s : State) : Prop where
  present : s.oc.remembered.isSome = true ↔ s.oc.state = .held
  other   : s.oc.remembered ≠ some .held

/-- A till stands on the pickup-due list at most once, and only while its state is OPEN; its on-list mark says whether
it does (R54). -/
structure State.PickupLaw (s : State) : Prop where
  once   : (s.tps.due.map DueEntry.till).Nodup
  marked : ∀ n, n ∈ s.tps.due.map DueEntry.till ↔ (s.till n).onList = true
  opened : ∀ n, (s.till n).onList = true → (s.till n).state = .opened

/-- A consignment is IN_HANDOVER exactly while the handover record names it (R161). -/
def State.HandoverLaw (s : State) : Prop :=
  ∀ c, (s.consignment c).state = .inHandover ↔ s.chu.handover.map Handover.consignment = some c

/-- No area and no SUSPECT held count passes 16,777,215 pieces (R3); it rests on the content lines of a bag naming no
slot twice (R150). -/
structure State.AreaLaw (s : State) : Prop where
  limit : ∀ d, (s.slot d).working ≤ pieceLimit ∧ (s.slot d).reserve ≤ pieceLimit ∧ (s.slot d).unfit ≤ pieceLimit ∧
    (s.slot d).dispatch ≤ pieceLimit ∧ (s.slot d).suspect ≤ pieceLimit
  lines : ∀ b x, s.bag b = some x → (x.lines.map ContentLine.slot).Nodup

/-- A reply of the line itself, which holds no place of the receive buffer (R174). -/
def Reply.ofLine (r : Reply) : Bool := !r.holdsPlace

/-- The capacities: 16 reservations (R14), 32 operators (R32), 32 deferred notices (R41), 4 pending drops (R92), 4 places
of the receive buffer (R171), 32 queued notices (R175), 8 waiting replies of the line itself (R174). -/
structure State.Bounded (s : State) : Prop where
  reservations : s.st.reservations.length ≤ 16
  operators    : s.oc.operators.length ≤ 32
  deferred     : s.oc.deferred.length ≤ 32
  drops        : s.br.drops.length ≤ 4
  buffer       : s.hli.buffer.length ≤ 4
  notices      : s.hli.notices.length ≤ 32
  lineReplies  : (s.hli.replies.filter Reply.ofLine).length ≤ 8

/-- A profile satisfies the ranges of Table 2.4, the limits between fields included (R34, R36). -/
structure Profile.InRange (p : Profile) : Prop where
  threshold  : ∀ c, c < 4 → 1000 ≤ classOf p.threshold c ∧ classOf p.threshold c ≤ 10000000
  hysteresis : ∀ c, c < 4 → classOf p.hysteresis c ≤ classOf p.threshold c
  floatMin   : ∀ c, c < 4 → classOf p.floatMin c ≤ 10000000
  template   : ∀ c d, c < 4 → 1 ≤ d → d ≤ 12 →
    classSlotOf p.target c d ≤ classSlotOf p.cap c d ∧ classSlotOf p.cap c d ≤ 999
  rates      : p.rateMin ≤ p.rateInit ∧ p.rateInit ≤ p.rateMax ∧ p.rateMax ≤ 1000000
  smoothing  : 1 ≤ p.smoothing ∧ p.smoothing ≤ 16
  floor      : ∀ d, 1 ≤ d → d ≤ 12 → nth 0 p.floor d ≤ 99999
  tolerance  : p.tolerance ≤ 100000
  pool       : p.poolThreshold ≤ 10000000
  hold       : 1 ≤ p.hold ∧ p.hold ≤ 60
  lockDelay  : 1 ≤ p.lockDelay ∧ p.lockDelay ≤ 60
  lockWindow : 1 ≤ p.lockWindow ∧ p.lockWindow ≤ 15
  collection : p.collectionDelay ≤ 60

/-- Profiles A and B satisfy their ranges (R34). -/
def State.ProfileLaw (s : State) : Prop := s.oc.profileA.InRange ∧ s.oc.profileB.InRange

/-- The closed office (R25): while the office is CLOSED_DAY, or HELD with CLOSED_DAY remembered, no till is COMPOSED, OPEN
or DRAINING, no bag is COUNTING, and the reservation table holds no float reservation. -/
structure State.ClosedLaw (s : State) : Prop where
  tills  : s.oc.state = .closedDay ∨ s.oc.remembered = some .closedDay → ∀ n, (s.till n).outstanding = false
  bags   : s.oc.state = .closedDay ∨ s.oc.remembered = some .closedDay → ∀ b, (s.bag b).map Bag.state ≠ some .counting
  floats : s.oc.state = .closedDay ∨ s.oc.remembered = some .closedDay → ∀ r ∈ s.st.reservations, ∀ n, r.owner ≠ .till n

/-- Where a bag stands. The count queue holds every QUEUED bag exactly once and no other (R99); a bag is COUNTING exactly
while one count job is its own, and a station's job is a job that stands (R114); a bag is CREDIT_HELD exactly while it has
its one entry in the held-credit list (R6); the bags of the received order are RECEIVED, each once (R164); and a seal stands
in at most one record that is neither FREE nor ORPHAN (R89). -/
structure State.CustodyLaw (s : State) : Prop where
  queueOnce  : s.queue.Nodup
  queued     : ∀ b, b ∈ s.queue ↔ (s.bag b).map Bag.state = some .queued
  jobOnce    : (s.csc.jobs.map CountJob.bag).Nodup
  counting   : ∀ b, b ∈ s.csc.jobs.map CountJob.bag ↔ (s.bag b).map Bag.state = some .counting
  stations   : ∀ n k, (s.station n).job = some k → k.bag ∈ s.csc.jobs.map CountJob.bag
  heldOnce   : (s.st.held.map HeldCredit.bag).Nodup
  creditHeld : ∀ b, b ∈ s.st.held.map HeldCredit.bag ↔ (s.bag b).map Bag.state = some .creditHeld
  received   : ∀ h, s.chu.handover = some h →
    h.received.Nodup ∧ ∀ b ∈ h.received, (s.bag b).map Bag.state = some .received
  seals      : ∀ b c x y, s.bag b = some x → s.bag c = some y → x.state ≠ .orphan → y.state ≠ .orphan →
    x.sealNo ≠ none → x.sealNo = y.sealNo → b = c

/-- The bags of the tills. A bag of a till that is neither COUNTED nor LOST stands in that till's session list, and the till is
OPEN or DRAINING: a session ends with its bags (R43, R57 to R62); and every bag of the PRIORITY class belongs to a till in
DRAINING (R99). -/
structure State.DrainLaw (s : State) : Prop where
  session  : ∀ b x n, s.bag b = some x → x.till = some n → x.state ≠ .counted → x.state ≠ .lost →
    b ∈ (s.till n).bags ∧ ((s.till n).state = .opened ∨ (s.till n).state = .draining)
  priority : ∀ b ∈ s.br.priority, ∃ x n, s.bag b = some x ∧ x.till = some n ∧ (s.till n).state = .draining

/-- The stations and the bags they count. Every COUNTING bag is the assigned bag of one or two stations, and every station that
has an assigned bag has it in COUNTING (R114). A station with a bag is ASSIGNED, COUNTING, or HELD with a reason that keeps the
job; a station that is not enabled is OFFLINE (R106, R125, R126). -/
structure State.JobLaw (s : State) : Prop where
  assigned : ∀ b x, s.bag b = some x → x.state = .counting →
    1 ≤ ((upTo 4).filter fun n => decide ((s.station n).job.map StationJob.bag = some b)).length ∧
      ((upTo 4).filter fun n => decide ((s.station n).job.map StationJob.bag = some b)).length ≤ 2
  counting : ∀ n k, (s.station n).job = some k → (s.bag k.bag).map Bag.state = some .counting
  working  : ∀ n k, (s.station n).job = some k → (s.station n).state = .assigned ∨ (s.station n).state = .counting ∨
    ∃ r ∈ [HoldReason.jam, .suspect, .doubt, .pool], (s.station n).state = .held r
  disabled : ∀ n, (s.station n).enabled = false → ∃ r, (s.station n).state = .offline r

/-- The floats composed and not confirmed (R43, R73, R74, R76): a till has a pending composition exactly while it is COMPOSED,
from CLOSED or RECONCILED; the amount composed lies in 1 to the amount requested, and below it only under the reduced mark;
the till has one float reservation, whose lines are from WORKING and are worth exactly the amount composed; and a float
reservation is a COMPOSED till's. -/
structure State.FloatLaw (s : State) : Prop where
  composed : ∀ n, (s.till n).state = .composed ↔ (s.till n).pending.isSome = true
  prior    : ∀ n c, (s.till n).pending = some c → c.prior = .closed ∨ c.prior = .reconciled
  amounts  : ∀ n c, (s.till n).pending = some c →
    1 ≤ c.composed ∧ c.composed ≤ c.requested ∧ c.requested ≤ 10000000 ∧ (c.reduced = true ↔ c.composed < c.requested)
  reserved : ∀ n c, (s.till n).pending = some c →
    ∃ r, s.st.reservations.filter (fun q => decide (q.owner = .till n)) = [r] ∧ (∀ l ∈ r.lines, l.source = .working) ∧
      (r.lines.map fun l => l.pieces * s.pieceValue l.slot).sum = c.composed
  owned    : ∀ r ∈ s.st.reservations, ∀ n, r.owner = .till n → (s.till n).state = .composed

/-- The operator table: no identifier is enrolled twice, and each lies in 1 to 65,535 (R32). -/
structure State.OperatorLaw (s : State) : Prop where
  once  : (s.oc.operators.map Operator.ident).Nodup
  range : ∀ o ∈ s.oc.operators, 1 ≤ o.ident ∧ o.ident ≤ 65535

/-- The denomination definition has at most 12 slots (R1); the pieces held from an area under reservation records never
exceed that area's count (R3); and a bag that is being assembled has the reservation of its content lines (R14). -/
structure State.ReservedLaw (s : State) : Prop where
  slots   : s.st.denoms.length ≤ 12
  within  : ∀ d a, 1 ≤ d → d ≤ 12 → s.reserved a d ≤ (s.slot d).area a
  covered : ∀ b x, s.bag b = some x → x.kind = .outbound → x.state = .assembling →
    ∃ r ∈ s.st.reservations, r.owner = .bag b ∧ r.lines = x.lines

/-- The lists of a consignment hold the slots of OUTBOUND and of INBOUND bags whose consignment field names it, the outbound
list each slot once (R148); and an orphan is of kind UNKNOWN (R94). -/
structure State.ListLaw (s : State) : Prop where
  outbound : ∀ c b, b ∈ (s.consignment c).outbound → ∃ x, s.bag b = some x ∧ x.kind = .outbound ∧ x.consignment = some c
  once     : ∀ c, (s.consignment c).outbound.Nodup
  inbound  : ∀ c b, b ∈ (s.consignment c).inbound → ∃ x, s.bag b = some x ∧ x.kind = .inbound ∧ x.consignment = some c
  orphan   : ∀ b x, s.bag b = some x → x.state = .orphan → x.kind = .unknown

/-- The pieces of a slot in a bag that stands in DISPATCH: an OUTBOUND bag in SEALED or SCANNED (R13). -/
def Bag.dispatched (x : Bag) (d : Nat) : Nat :=
  if x.kind = .outbound ∧ (x.state = .sealed ∨ x.state = .scanned) then
    heldBy x.lines .working d + heldBy x.lines .unfit d
  else 0

/-- DISPATCH of every slot is the sum of its pieces over the OUTBOUND bags in SEALED and SCANNED (R13). -/
def State.DispatchLaw (s : State) : Prop :=
  ∀ d, 1 ≤ d → d ≤ 12 → (s.slot d).dispatch = (s.bagList.map fun p => p.2.dispatched d).sum

/-- What the day's totals say has left the stock less what has come into it: floats issued, top-ups and handovers, less the
value counted (R4, Table 2.2). -/
def Totals.moved (q : Totals) : Int := (q.floatsIssued : Int) + q.topUps + q.handedOver - q.counted

/-! ### Words for statements about commands -/

/-- The request is accepted: it leaves `s1`, its reply carries this detail, and the transmit line goes on. -/
def Accepts (i : Instr) (s s1 : State) (detail : List Datum) : Prop :=
  exec i s = .next (s1.formReply i none detail).startTx

/-- The request is refused with this code and detail: every record stands as it stood, but for the reply. -/
def Refuses (i : Instr) (s : State) (c : Code) (detail : List Datum) : Prop :=
  exec i s = .next (s.formReply i (some c) detail).startTx

/-- A part of a list as it stands in a reply body: the first `k` entries whole, the number given, then the total that the rule
names; as many entries as the 480 bytes hold beside the other bytes of the body, `beside`, its status byte among them (R173,
Table 10.3). -/
def GivesPart (beside : Nat) (es : List (List Datum)) (total d : List Datum) : Prop :=
  ∃ k, k ≤ es.length ∧ d = (es.take k).flatten ++ .count k :: total ∧ beside + (d.map Datum.size).sum ≤ 480 ∧
    (k < es.length →
      480 < beside + (((es.take (k + 1)).flatten ++ .count (k + 1) :: total).map Datum.size).sum)

/-- The event is taken: it leaves `s1`, to which the end of the operation is added (R111, R25). -/
def Leaves (i : Instr) (s s1 : State) : Prop := exec i s = .next (s.settle s1).startTx

/-- The part runs and the office is not HELD: where the request kinds of Table 9.1 are not refused with HELD (R21). -/
abbrev State.Open (s : State) : Prop := s.phase = .running ∧ s.oc.state ≠ .held

/-- The part runs and the office is TRADING. -/
abbrev State.Trades (s : State) : Prop := s.phase = .running ∧ s.oc.state = .trading

/-- The part runs and no day is open. -/
abbrev State.Shut (s : State) : Prop := s.phase = .running ∧ (s.oc.state = .unconfigured ∨ s.oc.state = .closedDay)

/-- The commands of the sense lines, of the power-fail and reset inputs, of the supply and of the two starts: those that
act while the part does not run. -/
def boardEvent : Instr → Bool
  | .doorSenseChange _ => true
  | .boltSenseChange _ => true
  | .slotSenseChange _ => true
  | .controlledStop => true
  | .powerFailDeassert => true
  | .resetAssert => true
  | .resetRelease => true
  | .powerUp => true
  | .powerLoss => true
  | .coldStart => true
  | .warmRestart => true
  | _ => false

/-- Slot `d` of a definition is at fault: it lies above 12, its value lies outside 1 to 1,000,000 or does not lie below the
value of the slot before it, or its kind is neither NOTE nor ROLL (R1, R2). -/
abbrev SlotAtFault (es : List DenomEntry) (d : Nat) : Prop :=
  12 < d ∨ (es.getD (d - 1) default).value < 1 ∨ 1000000 < (es.getD (d - 1) default).value ∨
    (2 ≤ d ∧ (es.getD (d - 2) default).value ≤ (es.getD (d - 1) default).value) ∨ 1 < (es.getD (d - 1) default).kind

/-- The value of pieces of the slots that a composition reads, in their order. -/
def valueOf (is : List FloatInput) (ns : List Nat) : Nat := ((is.zip ns).map fun p => p.2 * p.1.value).sum

/-- The part runs and the receiver of a partner line stands at rest: no frame is in progress, and it does not hunt (R180). -/
abbrev State.Hears (s : State) (l : PartnerLine) : Prop := s.phase = .running ∧ s.receiver l = Receiver.rest

/-- Bytes that fail the frame check of a line at their last byte: a frame whose CRC does not agree, or that the line does not
accept by its type, its length for the type or a class or verdict byte; or the first three bytes of one that is too long (R180). -/
def FailsCheck (l : PartnerLine) (bs : List Byte) : Prop :=
  (∃ (type : Nat) (body crc : List Byte), type < 256 ∧ body.length ≤ l.maxLength ∧ crc.length = 2 ∧
    bs = startMarker :: (bytesOfNat 1 body.length ++ bytesOfNat 1 type ++ body ++ crc) ∧
    (crc ≠ crcBytes (bytesOfNat 1 body.length ++ bytesOfNat 1 type ++ body) ∨ acceptsFrame l type body = false)) ∨
  ∃ n type, l.maxLength < n ∧ n < 256 ∧ bs = [startMarker, BitVec.ofNat 8 n, type]

/-- The command that is a station's record, formed by its sender and come over whole (Table 10.4). -/
def stationCommand (l : StationLine) : StationRecord → Instr
  | .ready => .stationReady l .sound
  | .sealRead q => .stationSealRead l q .sound
  | .strap d n good => .strap l d n (if good then 0 else 1) .sound
  | .suspect d => .suspect l d .sound
  | .doubt d => .doubt l d .sound
  | .doubtCleared accepted => .doubtCleared l (if accepted then 0 else 1) .sound
  | .jam => .jam l .sound
  | .totals t => .endTotals l t .sound

/-- A station COUNTING for a job that stands, its portion not complete, its intake queue empty and its line's receiver at
rest: where a record is applied on arrival (R116, R180). -/
structure State.CountsRecords (s : State) (l : StationLine) (k : StationJob) (j : CountJob) : Prop where
  runs     : s.phase = .running
  state    : (s.station l.num).state = .counting
  job      : (s.station l.num).job = some k
  standing : s.stationJob l.num = some j
  going    : k.complete = false
  intake   : (s.station l.num).intake = []
  rest     : s.receiver (.station l) = Receiver.rest

/-- The station as a record has passed through its intake queue: its link-silence timer, if it runs, starts again (R110). -/
def State.heard (s : State) (l : StationLine) : State :=
  s.setStation l.num { s.station l.num with silence := (s.station l.num).silence.map fun _ => 30 }

/-! ### Words for the resolution of a stop and of a restart (R38, R41) -/

/-- The lock record at a start or a stop (R147, Tables 7.3 and 7.4): ALARM with a latch that is not empty, else by the door and
the bolt; the opening of source START in SECURING and OPEN; the drives; the confirmation of 10 seconds in SECURING. -/
def Slc.resolved (l : Slc) (p : Profile) (st : LockState) : Slc :=
  { l with
    state := st
    opening := if st = .securing ∨ st = .opened then
      some { source := .start, operators := none, windows := 1, delayLen := p.lockDelay, windowLen := p.lockWindow, mark := none }
      else none
    boltDrive := if st = .opened then .retract else .throw
    shutter := .closed
    alarm := if st = .alarm then .asserted else .released
    pendingCollection := false
    timer := if st = .securing then some 10 else none }

/-- The lock state of Table 7.3, with a latch that is not empty before it (R147). -/
def Slc.resolvedState (l : Slc) : LockState :=
  if l.forced || l.boltFault then .alarm
  else if l.door = .opened then .opened
  else if l.bolt = .thrown then .locked
  else .securing

/-- COLLECTION_MISSED of a consignment (R158). -/
def State.missedFields (s : State) (c : Nat) : List Datum :=
  [.byte c, .ident ((s.consignment c).schedule.getD default).courier, .ident ((s.consignment c).schedule.getD default).route,
   .time ((s.consignment c).schedule.getD default).latest, .count (s.consignment c).outbound.length,
   .count (s.consignment c).inbound.length]

/-- The consignment's latest has not been reached (R158). -/
def State.early (s : State) (c : Nat) : Bool := s.oc.clock.before ((s.consignment c).schedule.getD default).latest

/-- The notices that the resolution places, in the order of the blocks (log entry 16): FLOAT_EXPIRED for each COMPOSED till in
order of number (R66); ORPHAN_BAG for each pending drop, oldest first, with the orphan slots that are FREE in turn (R105);
COUNT_HELD for each of the COUNTING bags `cs`, in their order, that has an attempt behind it (R105, R127); LOCK_STATE, cause
OPENING_LOST, with the source and windows of the opening lost, where the lock stood in DELAY, `l` being the lock record afterwards
(R147, log entry 15); HANDOVER_ABANDONED, reason RESTART, and
COLLECTION_MISSED where the latest has passed (R166). -/
def State.resolutionNotices (s : State) (cs : List Nat) (l : Slc) : List Notice :=
  (((List.range' 1 96).filter fun n => decide ((s.till n).state = .composed)).map fun n =>
    ({ kind := .floatExpired, time := s.oc.clock
       fields := [.byte n, .amount ((s.till n).pending.getD default).requested,
         .amount ((s.till n).pending.getD default).composed] } : Notice)) ++
  ((List.range s.br.drops.length).map fun i =>
    ({ kind := .orphanBag, time := s.oc.clock
       fields := if i < s.freeOrphans.length then
         [.present true, .byte (s.freeOrphans.getD i 0), .sealNo 0, .enum 2, .present false,
          .count (s.freeOrphans.length - i - 1)]
         else [.present false, .sealNo 0, .enum 2, .present false, .count 0] } : Notice)) ++
  ((cs.filter fun b => decide (1 ≤ ((s.bag b).bind Bag.attempts).getD 0)).map fun b =>
    ({ kind := .countHeld, time := s.oc.clock
       fields := [.byte b, .sealNo (((s.bag b).bind Bag.sealNo).getD 0), ((s.bag b).getD default).kind.code] ++
         tillField ((s.bag b).bind Bag.till) ++ [.enum 5] } : Notice)) ++
  (if s.slc.state = .delay then
    [({ kind := .lockState, time := s.oc.clock
        fields := [l.state.code] ++
          (match s.slc.opening with
            | none => [.present false]
            | some o => [.present true, o.source.code, .byte o.windows]) ++
          (if l.state = .securing then [.present true, .time (s.oc.clock.later 10)] else [.present false]) ++
          [.enum 10] } : Notice)]
  else []) ++
  (match s.chu.handover with
    | none => []
    | some h =>
      ({ kind := .handoverAbandoned, time := s.oc.clock
         fields := [.byte h.consignment, .enum 5, .enum (if s.early h.consignment then 2 else 5),
           .count ((s.consignment h.consignment).outbound.filter fun b =>
             decide ((s.bag b).map Bag.state = some .scanned)).length,
           .count ((s.consignment h.consignment).inbound.filter fun b =>
             decide ((s.bag b).map Bag.state = some .received)).length] } : Notice) ::
      if s.early h.consignment then []
      else [({ kind := .collectionMissed, time := s.oc.clock, fields := s.missedFields h.consignment } : Notice)])

/-- What the resolution leaves of the records that a stop and a restart resolve alike (R19, R66, R105, R133, R168): `cs` is the
list of the COUNTING bags in the order of R105, the latest changed first and the higher slot first where two changed at once. -/
structure State.Resolved (s u : State) (cs : List Nat) : Prop where
  counting : ∀ b, b ∈ cs ↔ (s.bag b).map Bag.state = some .counting
  once     : cs.Nodup
  order    : cs.Pairwise fun b c =>
    (((s.bag c).getD default).changed.before ((s.bag b).getD default).changed = true) ∨
      (((s.bag b).getD default).changed = ((s.bag c).getD default).changed ∧ c < b)
  stock    : u.st = { s.st with
    reservations := s.st.reservations.filter fun r => match r.owner with | .till _ => false | .bag _ => true }
  tills    : ∀ n, u.till n = if (s.till n).state = .composed then
      { s.till n with state := ((s.till n).pending.map Composition.prior).getD .closed, pending := none }
    else s.till n
  due      : u.tps.due = s.tps.due
  bags     : ∀ b, u.bag b =
    match s.bag b with
    | none => if b ∈ s.freeOrphans.take s.br.drops.length then some (newBag .unknown .orphan s.oc.clock) else none
    | some x =>
      if x.state = .counting then
        if x.attempts.getD 0 = 0 then
          some { x with
            attempts := some 1, state := .queued, changed := s.oc.clock, queueClass := some (u.entryClass x.till), bypass := some 0 }
        else some { x with attempts := some (x.attempts.getD 0 + 1), state := .countHeld, changed := s.oc.clock }
      else if x.state = .scanned ∧ s.chu.handover.any (fun h => decide (b ∈ (s.consignment h.consignment).outbound)) = true then
        some { x with state := .sealed, changed := s.oc.clock }
      else if x.state = .received ∧ s.chu.handover.any (fun h => decide (b ∈ (s.consignment h.consignment).inbound)) = true then
        some { x with state := .expected, changed := s.oc.clock }
      else some x
  priority : u.br.priority = (cs.filter fun b => decide (((s.bag b).bind Bag.attempts).getD 0 = 0 ∧
    u.entryClass ((s.bag b).bind Bag.till) = .priority)).reverse ++ s.br.priority
  ordinary : u.br.ordinary = (cs.filter fun b => decide (((s.bag b).bind Bag.attempts).getD 0 = 0 ∧
    u.entryClass ((s.bag b).bind Bag.till) = .ordinary)).reverse ++ s.br.ordinary
  drops    : u.br.drops = []
  stations : ∀ n, 1 ≤ n → n ≤ 4 → u.station n =
    { s.station n with state := .offline .start, job := none, flow := .go, intake := [], silence := none }
  jobs     : u.csc.jobs = []
  sent     : u.sent = s.sent ++
    ((List.range' 1 4).filter fun n => (s.station n).job.isSome).map fun n => SentRecord.toStation n .abort
  handover : u.chu.handover = none
  profiles : u.oc.profileA = s.oc.profileA ∧ u.oc.profileB = s.oc.profileB ∧ u.oc.active = s.oc.active
  office   : u.oc.totals = s.oc.totals ∧ u.oc.summary = s.oc.summary ∧ u.oc.operators = s.oc.operators ∧
    u.oc.clock = s.oc.clock ∧ u.oc.openMark = s.oc.openMark

/-- The deferred-notice list takes notices in their order while it has room for 32, and marks that it had none (R41). -/
def State.Defers (s u : State) (ns : List Notice) : Prop :=
  u.oc.deferred = s.oc.deferred ++ ns.take (32 - s.oc.deferred.length) ∧
  u.oc.deferredOver = (s.oc.deferredOver || decide (32 - s.oc.deferred.length < ns.length))

end Sys2Proof.Machine
end

