-- ==== Sys2Proof/Certificates/Slice0/Obligations.lean ====
section
/-! DEFINITION. Statements about the CO-612, each a proposition for the provers. `Accepts`, `Refuses` and `Leaves`
(Safety.lean) are equations `exec … = .next …`; `State.settle` is the end of an operation, said once in
`SettleEndsAnOperation`. -/

section

open Sys2Proof Sys2Proof.Machine

/-! ### The machine -/

/-- One step takes the command at the front of the queue and runs it with the queue's rest. -/
def Obligations.StepTakesTheFront : Prop :=
  ∀ (c : Instr) (rest : List Instr) (s : State), s.pending = c :: rest → step s = exec c { s with pending := rest }

/-- An empty queue: nothing due, one second of the time base passes; one thing due, it is taken; several due, one of them is
taken, whatever the free choice is. The model's choice (log entries 3 and 5). The office clock advances with every second; a
part that runs counts its seconds timers down with it: the read waits, the link silences, the timer of the lock, the step and
overall timers of the handover (R30, R92, R110, R138, R167). What is due in a part that runs: the oldest request not yet taken
(R172), a float's expiry reached (R15), a SCHEDULED consignment's latest reached (R158), a new trading minute (R30), and each
timer that has run out in the state that it serves (R92, R110, R138 to R141, R167); in a part that starts, its start (R39).
That a float's expiry is compared by the seconds since the reservation's creation, taken forward through the day wrap, and a
latest by day number and second, is log entry 29 (DESIGN CHOICE); minuteTold, the minute of the last minute event, is a field
of the model's own (log entry 27, DESIGN CHOICE). -/
def Obligations.IdleStepTakesWhatIsDue : Prop :=
  (∀ s : State, s.pending = [] →
    (s.due = [] → step s = .next s.tick) ∧
    (∀ c, s.due = [c] → step s = exec c s) ∧
    (∀ c c' cs, s.due = c :: c' :: cs → ∃ d ∈ s.due, step s = exec d { s with choices := s.choices + 1 }) ∧
    s.tick.oc = { s.oc with clock := s.oc.clock.later 1 } ∧
    (s.phase ≠ .running → s.tick = { s with oc := { s.oc with clock := s.oc.clock.later 1 } }) ∧
    (s.phase = .running →
      s.tick = { s with
        oc := { s.oc with clock := s.oc.clock.later 1 }
        br := { s.br with drops := s.br.drops.map fun d => { d with wait := d.wait - 1 } }
        csc := { s.csc with stations := s.csc.stations.map fun x => { x with silence := x.silence.map fun n => n - 1 } }
        slc := { s.slc with timer := s.slc.timer.map fun n => n - 1 }
        chu := { s.chu with handover := s.chu.handover.map fun h =>
          { h with overall := h.overall - 1, step := h.step.map fun n => n - 1 } } })) ∧
  (∀ (i : Instr) (s : State), s.phase = .running →
    (i ∈ s.due ↔
      s.nextRequest.map BufferEntry.request = some i ∨
      (∃ r ∈ s.st.reservations, ∃ n t, r.owner = .till n ∧ r.expiry = some t ∧
        r.created.secondsTo t ≤ r.created.secondsTo s.oc.clock ∧ i = .floatExpiry n) ∨
      (∃ c, 1 ≤ c ∧ c ≤ 8 ∧ (s.consignment c).state = .scheduled ∧
        s.oc.clock.before ((s.consignment c).schedule.getD default).latest = false ∧ i = .latestReached c) ∨
      ((s.oc.state = .trading ∨ s.oc.state = .closing) ∧ s.oc.minuteTold ≠ s.minute ∧ i = .minuteEvent) ∨
      (∃ l : StationLine, (s.station l.num).silence = some 0 ∧ i = .linkSilenceExpiry l) ∨
      (∃ d ds, s.br.drops = d :: ds ∧ d.wait = 0 ∧ i = .readWaitExpiry) ∨
      (s.slc.timer = some 0 ∧
        (s.slc.state = .delay ∧ i = .delayExpiry ∨ s.slc.state = .window ∧ i = .windowExpiry ∨
          s.slc.state = .securing ∧ i = .boltConfirmationExpiry)) ∨
      (∃ h, s.chu.handover = some h ∧
        (h.step = some 0 ∧ i = .stepTimerExpiry ∨ h.overall = 0 ∧ i = .overallTimerExpiry)))) ∧
  (∀ (e : BufferEntry) (s : State), s.nextRequest = some e ↔
    e.taken = false ∧ ∃ before after, s.hli.buffer = before ++ e :: after ∧ ∀ f ∈ before, f.taken = true) ∧
  (∀ s : State, s.phase = .starting →
    (s.pins.powerFail = true → s.due = []) ∧ (s.pins.powerFail = false → s.valid = true → s.due = [.warmRestart]) ∧
    (s.pins.powerFail = false → s.valid = false → s.due = [.coldStart])) ∧
  (∀ s : State, s.phase ≠ .running → s.phase ≠ .starting → s.due = [])

/-- Replies and the transmit line: only HLI changes, and the model's own counter of choices (log entry 27); the reply to the request
handed over next carries its tag, kind, status and detail and waits behind the others; a free line takes the oldest reply, else the
notice at the head (R172 to R174). A request that its owner is taking when a break is found is completed, and its reply discarded when
it is formed, with all that the break discards (R177): whether a break that waits next is found so is a free value, and the clause
holds for both (log entry 46, DESIGN CHOICE). A request that the buffer does not hand over next has its reply kept as the last reply
alone (log entry 2, DESIGN CHOICE). -/
def Obligations.RepliesAreFormedAndSent : Prop :=
  (∀ (s : State) (i : Instr) (st : Option Code) (d : List Datum),
    s.formReply i st d = { s with hli := (s.formReply i st d).hli, choices := (s.formReply i st d).choices } ∧
    s.startTx = { s with hli := s.startTx.hli }) ∧
  (∀ (s : State) (e : BufferEntry) (st : Option Code) (d : List Datum) (r : Reply) (h : Hli), s.nextRequest = some e →
    r = { tag := e.tag, kind := requestKind e.request, status := st, detail := d, holdsPlace := true } →
    h = { s.hli with replies := s.hli.replies ++ [r], buffer := markTaken s.hli.buffer, lastReply := some r } →
    ((∀ cs, s.pending ≠ .lineBreak :: cs) → s.formReply e.request st d = { s with hli := h }) ∧
    (∀ cs, s.pending = .lineBreak :: cs →
      s.formReply e.request st d =
        { s with
          choices := s.choices + 1
          hli := if Config.breakFound s.choices = true then
              { s.hli with
                rx := [], spacing := true, replies := [], notices := [], lost := false, lastReply := some r
                buffer := (match s.hli.tx with | .reply q => if q.holdsPlace then s.hli.buffer.take 1 else [] | _ => [])
                tx := (match s.hli.tx with | .notice n _ => .notice n false | x => x) }
            else h })) ∧
  (∀ (s : State) (i : Instr) (st : Option Code) (d : List Datum), s.nextRequest.map BufferEntry.request ≠ some i →
    s.formReply i st d = { s with hli := { s.hli with
      lastReply := some { tag := 0, kind := requestKind i, status := st, detail := d, holdsPlace := false } } }) ∧
  (∀ s : State, s.hli.tx ≠ .idle → s.startTx = s) ∧
  (∀ (s : State) (r : Reply) (rs : List Reply), s.hli.tx = .idle → s.hli.replies = r :: rs →
    s.startTx.hli = { s.hli with tx := .reply r, replies := rs }) ∧
  (∀ (s : State) (n : Notice) (ns : List Notice), s.hli.tx = .idle → s.hli.replies = [] → s.hli.notices = n :: ns →
    s.startTx.hli = { s.hli with tx := .notice n true }) ∧
  (∀ s : State, s.hli.tx = .idle → s.hli.replies = [] → s.hli.notices = [] → s.startTx = s)

/-- While HELD, every request kind that changes records, but RESUME and SET NOTICES, is refused with HELD, and every record
stands as it stood (R21, Table 9.1). -/
def Obligations.HeldRefusesEveryChange : Prop :=
  ∀ (i : Instr) (s : State), s.phase = .running → s.oc.state = .held → 1 ≤ requestKind i → requestKind i ≤ 39 →
    requestKind i ≠ 6 → Refuses i s .held []

/-- A part that does not run takes no frame, sends nothing and changes no record: every command but those of the board leaves
it as it stands, and a sense line only shows its level (R38, R39). That requests, expiries and line events in the phases off,
starting, in reset and stopped leave the state as it stands is log entry 9 (DEDUCED). -/
def Obligations.StoppedPartChangesNothing : Prop :=
  (∀ (i : Instr) (s : State), s.phase ≠ .running → boardEvent i = false → exec i s = .next s) ∧
  (∀ (x : DoorSense) (s : State), s.phase ≠ .running →
    exec (.doorSenseChange x) s = .next { s with pins := { s.pins with door := x } }) ∧
  (∀ (x : BoltSense) (s : State), s.phase ≠ .running →
    exec (.boltSenseChange x) s = .next { s with pins := { s.pins with bolt := x } }) ∧
  (∀ (x : SlotSense) (s : State), s.phase ≠ .running →
    exec (.slotSenseChange x) s = .next { s with pins := { s.pins with slot := x } })

/-- Decode and encode agree on every request that a frame can carry: its kind and body spell the request again, and the
body fits a frame (R170, R179). -/
def Obligations.RequestBodyRoundTrip : Prop :=
  ∀ i : Instr, WellFormed i = true → requestKind i ≠ 0 →
    decodeRequest (requestKind i) (requestBody i) = some i ∧ (requestBody i).length ≤ 480

/-- The bytes of a request frame, sent to a receiver that hunts, put the request and its tag at the tail of the receive
buffer; with four requests held they are answered BUSY. A frame of no request kind is answered UNKNOWN, one whose body does
not spell its request FRAME, both with its tag and kind; one whose CRC does not agree is rejected, with FRAME under tag 0 and
kind 0, and so is one whose length exceeds 480, at once with its tag, the receiver hunting again with the byte behind it
(R169); and a byte that is no start marker is passed over (R169 to R171, Table 10.1). -/
def Obligations.HostFrameReachesTheBuffer : Prop :=
  (∀ (i : Instr) (tag : Nat) (s : State), WellFormed i = true → requestKind i ≠ 0 → tag < 65536 → s.phase = .running →
    s.hli.spacing = false → s.hli.rx = [] →
    (s.hli.buffer.length < 4 →
      exec (.hostFrame (requestFrame tag i)) s =
        .next ({ s with hli := { s.hli with
          buffer := s.hli.buffer ++ [({ tag := tag, request := i, taken := false } : BufferEntry)] } } : State).startTx) ∧
    (4 ≤ s.hli.buffer.length →
      exec (.hostFrame (requestFrame tag i)) s = .next (s.lineReply tag (requestKind i) .busy).startTx)) ∧
  (∀ (kind tag : Nat) (body : List Byte) (s : State), kind < 256 → tag < 65536 → body.length ≤ 480 → s.phase = .running →
    s.hli.spacing = false → s.hli.rx = [] →
    (kind = 0 ∨ 58 < kind →
      exec (.hostFrame (hostFrameBytes kind tag body)) s = .next (s.lineReply tag kind .unknown).startTx) ∧
    (1 ≤ kind → kind ≤ 58 → decodeRequest kind body = none →
      exec (.hostFrame (hostFrameBytes kind tag body)) s = .next (s.lineReply tag kind .frame).startTx) ∧
    (∀ crc covered, covered = bytesOfNat 2 body.length ++ bytesOfNat 1 kind ++ bytesOfNat 2 tag ++ body → crc.length = 2 →
      crc ≠ crcBytes covered →
      exec (.hostFrame (startMarker :: (covered ++ crc))) s = .next (s.lineReply 0 0 .frame).startTx)) ∧
  (∀ (len kind tag : Nat) (behind : List Byte) (s : State), 480 < len → len < 65536 → kind < 256 → tag < 65536 →
    s.phase = .running → s.hli.spacing = false → s.hli.rx = [] → (∀ b ∈ behind, b ≠ startMarker) →
    exec (.hostFrame (startMarker :: (bytesOfNat 2 len ++ bytesOfNat 1 kind ++ bytesOfNat 2 tag ++ behind))) s =
      .next (s.lineReply 0 0 .frame).startTx) ∧
  (∀ (b : Byte) (s : State), s.phase = .running → s.hli.rx = [] → b ≠ startMarker → exec (.hostFrame [b]) s = .next s.startTx)

/-- The 18 read requests are taken in every office state and change no record; READ OFFICE alone clears the notices-lost flag; a
field out of range is refused; and what each reply gives: its fields in their order, a list from its starting index, as many whole
entries as the reply holds, with the total that its rule names (R18, R28, R29, R32, R34, R64, R65, R102, R103, R132, R146, R168).
The widths of the fields are log entry 22, the layout of the lists, with the number given also where no rule names a total, log
entry 23, codes that no table gives log entry 32, the presence bytes log entry 38 (DESIGN CHOICE); that a till COMPOSED from
RECONCILED shows its variance is log entry 39 (DEDUCED). -/
def Obligations.ReadsChangeNoRecord : Prop :=
  (∀ (s : State) (o : Outstanding) (q : Totals), s.phase = .running → o = s.outstanding → q = s.oc.totals →
    Accepts .readOffice s { s with hli := { s.hli with lost := false } }
      ([s.oc.state.code] ++ Machine.optional (s.oc.remembered.map fun r => [r.code]) ++ ([.time s.oc.clock] : List Datum) ++
        Machine.optional (s.oc.openMark.map fun m => [.time m, .word s.minute]) ++
        [s.oc.active.code, .count s.oc.operators.length, s.oc.lastStart.code, .count s.oc.deferred.length,
         .count o.tills, .count o.bags, .count o.reservations, .count o.handover, .count o.lock, .word o.total,
         .wide q.floatsIssued, .wide q.topUps, .wide q.counted, .wide q.unfit, .wide q.suspectPieces, .wide q.suspectValue,
         .wide q.varianceSum, .wide q.varianceCount, .wide q.handedOver, .wide q.received, .wide q.lostBags, .wide q.lostValue,
         .mark s.hli.lost])) ∧
  (∀ s : State, s.phase = .running →
    Accepts .readDaySummary s s
      (Machine.optional (s.oc.summary.map fun d =>
        Machine.optional (d.openMark.map fun m => [.time m]) ++
          ([.time d.closed, .word d.minute, .wide d.totals.floatsIssued, .wide d.totals.topUps, .wide d.totals.counted,
           .wide d.totals.unfit, .wide d.totals.suspectPieces, .wide d.totals.suspectValue, .wide d.totals.varianceSum,
           .wide d.totals.varianceCount, .wide d.totals.handedOver, .wide d.totals.received, .wide d.totals.lostBags,
           .wide d.totals.lostValue] : List Datum) ++
          counted (d.slots.map fun x => [.pieces x.suspect, .pieces x.low, .pieces x.high]) ++ ([.wide d.stockValue] : List Datum))) ∧
    Accepts .readOperators s s (counted (s.oc.operators.map fun o => [.ident o.ident, o.role.code]))) ∧
  (∀ s : State, s.phase = .running →
    Accepts .readStock s s
      (counted (((List.range s.st.denoms.length).map (· + 1)).map fun d =>
        [.pieceValue (s.pieceValue d), .enum (if s.isRoll d then 1 else 0), .pieces (s.slot d).working, .pieces (s.slot d).reserve,
         .pieces (s.slot d).unfit, .pieces (s.slot d).dispatch, .pieces (s.reserved .working d), .pieces (s.reserved .unfit d),
         .pieces (s.availability d), .pieces (s.slot d).suspect, .pieces (s.slot d).low, .pieces (s.slot d).high]) ++
        ([.wide (s.areaValue StockSlot.working), .wide (s.areaValue StockSlot.reserve), .wide (s.areaValue StockSlot.unfit),
         .wide (s.areaValue StockSlot.dispatch), .wide s.stockValue, .count s.st.held.length] : List Datum))) ∧
  (∀ (n : Nat) (s : State), s.phase = .running →
    (15 < n → Refuses (.readReservations n) s .range []) ∧
    (n ≤ 15 → ∃ d, Accepts (.readReservations n) s s d ∧
      GivesPart 1
        ((s.st.reservations.drop n).map fun r : Reservation =>
          (match r.owner with
            | .till m => [.enum 0, .byte m]
            | .bag b => [.enum 1, .byte b]) ++
          counted (r.lines.map fun l => [.byte l.slot, .pieces l.pieces, .enum (if l.source = .working then 0 else 1)]) ++
          ([.time r.created] : List Datum) ++ Machine.optional (r.expiry.map fun t => [.time t]))
        [.count s.st.reservations.length] d)) ∧
  (∀ (n : Nat) (p : Profile) (slots : List Nat) (s : State), s.phase = .running →
    p = (if n = 0 then s.oc.profileA else s.oc.profileB) → slots = (List.range s.st.denoms.length).map (· + 1) →
    (1 < n → Refuses (.readProfile n) s .range []) ∧
    (n ≤ 1 → ∃ d, Accepts (.readProfile n) s s d ∧
      GivesPart 1
        (((List.range 4).map (classOf p.threshold) ++ (List.range 4).map (classOf p.hysteresis) ++
          (List.range 4).map (classOf p.floatMin) ++ ((List.range 4).flatMap fun c => slots.map (classSlotOf p.target c)) ++
          ((List.range 4).flatMap fun c => slots.map (classSlotOf p.cap c)) ++
          [p.rateInit, p.rateMin, p.rateMax, p.smoothing] ++ slots.map (nth 0 p.floor) ++
          [p.tolerance, p.poolThreshold, p.hold, p.lockDelay, p.lockWindow, p.collectionDelay,
           match p.haltPolicy with | .none => 0 | .suspect => 1 | .suspectAndDoubt => 2]).map fun x => [.word x])
        [.mark (decide ((if n = 0 then ProfileName.a else ProfileName.b) = s.oc.active))] d)) ∧
  (∀ (n : Nat) (t : Till) (s : State), s.phase = .running → t = s.till n →
    (n = 0 ∨ 96 < n → Refuses (.readTill n) s .range []) ∧
    (1 ≤ n → n ≤ 96 →
      Accepts (.readTill n) s s
        (([.byte n, .mark t.enabled, .byte t.cls, t.state.code] : List Datum) ++
          Machine.optional (t.pending.map fun c =>
            ([.enum (if c.prior = .reconciled then 1 else 0), .amount c.requested, .amount c.composed, .mark c.reduced] : List Datum) ++
              Machine.optional (((s.reservationOf (.till n)).bind Reservation.expiry).map fun e => [.time e])) ++
          ([.wide t.floatTotal, .amount t.takings, .amount t.kPrev, .wide t.pickups, .wide t.collected, .amount t.exposure,
           .word t.rate, .word t.tLast, .mark t.onList] : List Datum) ++
          counted (t.bags.map fun b => [.byte b, ((s.bag b).map fun x => x.state.code).getD (.enum 0)]) ++
          Machine.optional (t.variance.map fun v => [.wide v]) ++ ([.mark t.reduced] : List Datum) ++
          (if t.state = .opened then
            .amount (t.projection s.minute) ::
              Machine.optional ((s.tps.due.findIdx? fun e => decide (e.till = n)).map fun k => [.count (k + 1)])
          else []) ++
          (if t.state = .draining then [.count (s.bagsOutstanding t)] else [])))) ∧
  (∀ (n : Nat) (s : State), s.phase = .running →
    (n = 0 ∨ 96 < n → Refuses (.readTills n) s .range []) ∧
    (1 ≤ n → n ≤ 96 → ∃ d, Accepts (.readTills n) s s d ∧
      GivesPart 1
        ((List.range' n (97 - n)).map fun m =>
          [.byte m, .mark (s.till m).enabled, .byte (s.till m).cls, (s.till m).state.code, .mark (s.till m).onList]) [] d) ∧
    (95 < n → Refuses (.readPickupList n) s .range []) ∧
    (n ≤ 95 → ∃ d, Accepts (.readPickupList n) s s d ∧
      GivesPart 1
        ((s.tps.due.drop n).map fun e =>
          [.byte e.till, .word e.minute, .amount e.projection, .amount ((s.till e.till).projection s.minute)])
        [.count s.tps.due.length] d)) ∧
  (∀ (n : Nat) (s : State), s.phase = .running →
    (239 < n → Refuses (.readCountQueue n) s .range []) ∧
    (n ≤ 239 → ∃ d, Accepts (.readCountQueue n) s s d ∧
      GivesPart 1
        (((s.br.priority ++ s.br.ordinary).drop n).map fun b =>
          ([.byte b, .sealNo (((s.bag b).bind Bag.sealNo).getD 0), ((s.bag b).getD default).kind.code] : List Datum) ++
            Machine.optional (((s.bag b).bind Bag.till).map fun m => [.byte m]) ++
            ([.amount (((s.bag b).bind Bag.declared).getD 0), (((s.bag b).bind Bag.queueClass).getD .ordinary).code,
             .count (((s.bag b).bind Bag.attempts).getD 0), .count (((s.bag b).bind Bag.bypass).getD 0)] : List Datum))
        [.count s.br.priority.length, .count s.br.ordinary.length] d)) ∧
  (∀ (b : Nat) (s : State), s.phase = .running →
    (255 < b → Refuses (.readBag b) s .range []) ∧
    (b ≤ 255 → s.bag b = none → Accepts (.readBag b) s s [.enum 0]) ∧
    (∀ x, b ≤ 255 → s.bag b = some x →
      Accepts (.readBag b) s s
        (([.byte b, .sealNo (x.sealNo.getD 0), x.kind.code, x.state.code] : List Datum) ++ Machine.optional (x.till.map fun n => [.byte n]) ++
          Machine.optional (x.consignment.map fun c => [.byte c]) ++ Machine.optional (x.declared.map fun n => [.amount n]) ++
          counted (x.lines.map fun l => [.byte l.slot, .pieces l.pieces, .enum (if l.source = .working then 0 else 1)]) ++
          Machine.optional (x.result.map fun r =>
            counted (((List.range s.st.denoms.length).map (· + 1)).map fun d =>
              [.pieces (nth default r.tally d).good, .pieces (nth default r.tally d).unfit,
               .pieces (nth default r.tally d).suspect]) ++ ([.wide r.value, .wide r.variance, .mark r.flag] : List Datum)) ++
          Machine.optional (x.attempts.map fun n => [.count n]) ++ Machine.optional (x.queueClass.map fun c => [c.code]) ++
          Machine.optional (x.bypass.map fun n => [.count n]) ++ ([.time x.changed] : List Datum) ++
          (if x.state = .queued then [.count (s.position b)] else [])))) ∧
  (∀ (n : Nat) (orphans : List Nat) (s : State), s.phase = .running →
    orphans = (List.range 256).filter (fun b => (s.bag b).any fun x => decide (x.state = .orphan ∧ x.sealNo = some n)) →
    (n = 0 ∨ sealLimit < n → Refuses (.readSeal n) s .range []) ∧
    (1 ≤ n → n ≤ sealLimit →
      ((∀ b x, s.bag b = some x → x.sealNo = some n → x.state = .orphan) →
        Accepts (.readSeal n) s s (.present false :: counted (orphans.map fun c => [.byte c]))) ∧
      (∀ b x, s.bag b = some x → x.sealNo = some n → x.state ≠ .orphan →
        (∀ c y, c < b → s.bag c = some y → y.sealNo = some n → y.state = .orphan) →
        Accepts (.readSeal n) s s
          (([.present true, .byte b, x.state.code] : List Datum) ++ counted (orphans.map fun c => [.byte c]))))) ∧
  (∀ (orphans : List Nat) (s : State), s.phase = .running →
    orphans = (List.range 256).filter (fun b => decide ((s.bag b).map Bag.state = some .orphan)) →
    Accepts .readOrphans s s
      (counted (orphans.map fun b =>
        [.byte b, .sealNo (((s.bag b).bind Bag.sealNo).getD 0), .time ((s.bag b).getD default).changed]) ++
        ([.count ((List.range' 240 16).filter fun b => (s.bag b).isNone).length, s.slc.shutter.code] : List Datum))) ∧
  (∀ s : State, s.phase = .running → ∃ d, Accepts .readStations s s d ∧
    GivesPart 1
      ([1, 2, 3, 4].map fun n =>
        ([.mark (s.station n).enabled, (s.station n).state.code] : List Datum) ++
          (match (s.station n).state with
            | .offline r => [.present true, r.code]
            | .held r => [.present true, r.code]
            | _ => [.present false]) ++
          [(s.station n).flow.code, .count (s.station n).intake.length] ++
          Machine.optional ((s.station n).job.map fun k =>
            let j := (s.csc.jobs.find? fun j => decide (j.bag = k.bag)).getD default
            let p := (j.parts.find? fun p => decide (p.station = n)).getD default
            ([.byte k.bag, k.portion.code] : List Datum) ++ Machine.optional (k.partner.map fun m => [.byte m]) ++
              ([.mark k.complete, .word j.tolerance,
               .enum (match j.policy with | .none => 0 | .suspect => 1 | .suspectAndDoubt => 2), .time j.assigned] : List Datum) ++
              Machine.optional (p.doubt.map fun d => [.byte d]) ++
              counted (((List.range s.st.denoms.length).map (· + 1)).map fun d =>
                [.pieces (nth default p.tally d).good, .pieces (nth default p.tally d).unfit,
                 .pieces (nth default p.tally d).suspect])))
      [.count ((upTo 4).filter fun n =>
          (s.station n).enabled && decide (∀ r ∈ [OfflineReason.link, .disabled, .start], (s.station n).state ≠ .offline r)).length,
       .word s.profile.poolThreshold] d) ∧
  (∀ s : State, s.phase = .running →
    Accepts .readLock s s
      ([s.slc.state.code] ++
        Machine.optional (s.slc.opening.map fun o =>
          ([o.source.code] : List Datum) ++ Machine.optional (o.operators.map fun p => [.ident p.1, .ident p.2]) ++
            ([.byte o.windows, .word o.delayLen, .word o.windowLen,
             .enum (match o.mark with | none => 0 | some .waiting => 1 | some .told => 2)] : List Datum)) ++
        Machine.optional (s.slc.timer.map fun n => [.word n]) ++
        ([.mark s.slc.pendingCollection, doorCode s.slc.door, boltCode s.slc.bolt, slotCode s.slc.slot, s.slc.boltDrive.code,
         s.slc.shutter.code, s.slc.alarm.code, .mark s.slc.forced, .mark s.slc.boltFault] : List Datum) ++
        (if s.slc.shutter = .closed then
          (if s.oc.state ≠ .trading ∧ s.oc.state ≠ .closing then [.present true, .enum 0]
          else if s.freeOrphans = [] then [.present true, .enum 1] else [.present false])
        else []))) ∧
  (∀ (c : Nat) (y : Consignment) (tail : List Datum) (entry : Nat → List Datum) (s : State), s.phase = .running →
    y = s.consignment c →
    tail = Machine.optional (y.schedule.map fun k => [.ident k.courier, .ident k.route, .time k.earliest, .time k.latest]) ++
      ([.wide (((y.outbound.filter fun b => decide ((s.bag b).map Bag.state = some .sealed ∨
        (s.bag b).map Bag.state = some .scanned)).map fun b => ((s.bag b).bind Bag.declared).getD 0).sum : Nat)] : List Datum) →
    (∀ b, entry b = [.byte b, .sealNo (((s.bag b).bind Bag.sealNo).getD 0), ((s.bag b).getD default).state.code,
      .amount (((s.bag b).bind Bag.declared).getD 0)]) →
    (c = 0 ∨ 8 < c → Refuses (.readConsignment c) s .range []) ∧
    (1 ≤ c → c ≤ 8 → y.state = .free → Accepts (.readConsignment c) s s [.enum 0]) ∧
    (1 ≤ c → c ≤ 8 → y.state ≠ .free → ∃ outs ins,
      Accepts (.readConsignment c) s s (([.byte c, y.state.code] : List Datum) ++ outs ++ ins ++ tail) ∧
      GivesPart (5 + (tail.map Datum.size).sum) (y.outbound.map entry) [.count y.outbound.length] outs ∧
      GivesPart (3 + (outs.map Datum.size).sum + (tail.map Datum.size).sum) (y.inbound.map entry)
        [.count y.inbound.length] ins)) ∧
  (∀ s : State, s.phase = .running →
    (s.chu.handover = none → Accepts .readHandover s s [.enum 0]) ∧
    (∀ h, s.chu.handover = some h →
      (h.stage = .verified → Accepts .readHandover s s
        (([.enum 1, .byte h.consignment, .ident h.courier, .time h.presented, .count h.foreign, .word h.overall] : List Datum) ++
          Machine.optional (h.step.map fun n => [.word n]))) ∧
      (h.stage = .scanning → Accepts .readHandover s s
        (([.enum 2, .byte h.consignment, .ident h.courier, .time h.presented, .count h.foreign] : List Datum) ++
          counted (h.received.map fun b => [.byte b]) ++ ([.word h.overall] : List Datum) ++ Machine.optional (h.step.map fun n => [.word n]) ++
          ([.count ((s.consignment h.consignment).outbound.filter fun b =>
            (s.bag b).any fun x => decide (x.state ≠ .scanned)).length] : List Datum))))) ∧
  (∀ (bags : List Nat) (s : State), s.phase = .running →
    bags = (List.range 256).filter (fun b => (s.bag b).any fun x =>
      decide (x.consignment = none ∧ (x.kind = .outbound ∨ x.kind = .inbound))) →
    ∃ d, Accepts .readUnattached s s d ∧
      GivesPart 1
        (bags.map fun b =>
          [.byte b, ((s.bag b).getD default).kind.code, ((s.bag b).getD default).state.code,
           .sealNo (((s.bag b).bind Bag.sealNo).getD 0), .amount (((s.bag b).bind Bag.declared).getD 0)])
        [.count bags.length] d)

/-- The end of an operation: a pass of the arbiter where one is due, the GOs, and then the test of the close (R25, R111, R117).
Nothing changes when no pass is due, no COUNTING station is PAUSED and the closing conditions do not hold in CLOSING; a pass
assigns nothing outside TRADING and CLOSING; in CLOSING the day closes once no item is outstanding, with DAY_CLOSED behind every
other notice of the operation (R182); and whatever happens, stock, clock, operators, profiles and the board stay as they stood
(R25). When a pass is due, the end of a job among the causes (R111, R127, R131); what one step of it assigns, by the need of a
pool, the IDLE stations and the head's bypass count (R112, R113), steps repeated until one assigns nothing; what an assignment
writes and sends (R101, R114); and the GOs to the stations that are COUNTING and PAUSED (R117). -/
def Obligations.SettleEndsAnOperation : Prop :=
  (∀ s0 s : State, s0.settle s = (s0.endPass s).closingTest) ∧
  (∀ s0 s : State, s0.passDue s = false →
    (∀ n, ¬ ((s.station n).state = .counting ∧ (s.station n).flow = .paused)) →
    ¬ (s.oc.state = .closing ∧ s.outstanding.total = 0) → s0.settle s = s) ∧
  (∀ s : State, s.oc.state ≠ .trading → s.oc.state ≠ .closing → s.arbiterPass = s) ∧
  (∀ s : State, s.oc.state = .closing → s.outstanding.total = 0 →
    s.closingTest = s.closeDay.place .dayClosed s.summarize.fields) ∧
  (∀ s : State, s.oc.state = .trading → s.closingTest = s) ∧
  (∀ s0 s : State,
    (s0.settle s).st = s.st ∧ (s0.settle s).pins = s.pins ∧ (s0.settle s).phase = s.phase ∧
    (s0.settle s).pending = s.pending ∧ (s0.settle s).oc.clock = s.oc.clock ∧
    (s0.settle s).oc.operators = s.oc.operators ∧ (s0.settle s).oc.active = s.oc.active ∧
    (s0.settle s).oc.profileA = s.oc.profileA ∧ (s0.settle s).oc.profileB = s.oc.profileB) ∧
  (∀ s0 s : State,
    (s0.passDue s = true → s0.endPass s = s.arbiterPass.sendGos) ∧ (s0.passDue s = false → s0.endPass s = s.sendGos) ∧
    (s0.passDue s = true ↔
      s.csc.jobs.length < s0.csc.jobs.length ∨
      (∃ n, 1 ≤ n ∧ n ≤ 4 ∧
        ((s.station n).state = .idle ∧ (s0.station n).state ≠ .idle ∨
          (∃ r, (s.station n).state = .offline r) ∧ ∀ r, (s0.station n).state ≠ .offline r)) ∨
      (∃ b, b ∈ s.queue ∧ b ∉ s0.queue) ∨
      s.oc.state ≠ s0.oc.state ∧ (s.oc.state = .trading ∨ s.oc.state = .closing) ∨ s.oc.active ≠ s0.oc.active)) ∧
  (∀ (b : Nat) (s : State),
    (s.needsPool b = true ↔
      s.profile.poolThreshold ≠ 0 ∧ s.profile.poolThreshold ≤ ((s.bag b).bind Bag.declared).getD 0 ∧
      2 ≤ ((upTo 4).filter fun n =>
        (s.station n).enabled && decide (∀ r ∈ [OfflineReason.link, .disabled, .start], (s.station n).state ≠ .offline r)).length) ∧
    (∀ n, n ∈ s.idleStations ↔ 1 ≤ n ∧ n ≤ 4 ∧ (s.station n).state = .idle) ∧ s.idleStations.Pairwise (· < ·)) ∧
  (∀ s : State, s.queue = [] ∨ s.idleStations = [] → s.arbiterStep = none) ∧
  (∀ (h i : Nat) (behind idle : List Nat) (s : State), s.queue = h :: behind → s.idleStations = i :: idle →
    (s.needsPool h = false → s.arbiterStep = some (s.assign h [(i, .whole, none)])) ∧
    (∀ k more, s.needsPool h = true → idle = k :: more →
      s.arbiterStep = some (s.assign h [(i, .first, some k), (k, .second, some i)])) ∧
    (∀ n, s.needsPool h = true → idle = [] → n = ((s.bag h).bind Bag.bypass).getD 0 →
      (∀ ahead b rest, n < 3 → behind = ahead ++ b :: rest → (∀ c ∈ ahead, s.needsPool c = true) → s.needsPool b = false →
        s.arbiterStep = some ((s.assign b [(i, .whole, none)]).changeBag h fun x => { x with bypass := some (n + 1) })) ∧
      (3 ≤ n ∨ (∀ c ∈ behind, s.needsPool c = true) → s.arbiterStep = none))) ∧
  (∀ s : State, s.oc.state = .trading ∨ s.oc.state = .closing →
    (s.arbiterStep = none → s.arbiterPass = s) ∧ ∀ u, s.arbiterStep = some u → s.arbiterPass = u.arbiterPass) ∧
  (∀ (b : Nat) (x : Bag) (js : List (Nat × Portion × Option Nat)) (u s : State), s.bag b = some x →
    (∀ a ∈ js, 1 ≤ a.1 ∧ a.1 ≤ 4) → (js.map Prod.fst).Nodup → u = s.assign b js →
    u = { s with br := u.br, csc := u.csc, sent := u.sent } ∧
    u.bag b = some { x with state := .counting, changed := s.oc.clock, queueClass := none, bypass := none } ∧
    (∀ c, c ≠ b → u.bag c = s.bag c) ∧
    u.br.priority = s.br.priority.filter (fun q => decide (q ≠ b)) ∧
    u.br.ordinary = s.br.ordinary.filter (fun q => decide (q ≠ b)) ∧ u.br.drops = s.br.drops ∧
    u.csc.jobs = s.csc.jobs ++
      [{ bag := b, assigned := s.oc.clock, tolerance := s.profile.tolerance, policy := s.profile.haltPolicy
         parts := js.map fun a =>
           { station := a.1, tally := Vector.replicate 12 { good := 0, unfit := 0, suspect := 0 }, doubt := none } }] ∧
    (∀ a ∈ js, u.station a.1 =
      { s.station a.1 with
        state := .assigned, flow := .go, intake := [], silence := some 30
        job := some { bag := b, portion := a.2.1, partner := a.2.2, complete := false, resumeAssigned := false } }) ∧
    (∀ m, m ∉ js.map Prod.fst → u.station m = s.station m) ∧
    u.sent = s.sent ++ js.map (fun a => SentRecord.toStation a.1 (.assign (x.sealNo.getD 0) a.2.1))) ∧
  (∀ s : State,
    s.sendGos = { s with csc := { s.csc with stations := s.sendGos.csc.stations }, sent := s.sendGos.sent } ∧
    (∀ n, s.sendGos.station n =
      if (s.station n).state = .counting ∧ (s.station n).flow = .paused then { s.station n with flow := .go }
      else s.station n) ∧
    s.sendGos.sent = s.sent ++
      ((upTo 4).filter fun n => decide ((s.station n).state = .counting ∧ (s.station n).flow = .paused)).map
        (fun n => SentRecord.toStation n .go))

/-! ### Laws that every step keeps -/

/-- The machine right after reset satisfies every law of Safety.lean. The sense lines there are the model's choice (log
entry 1). -/
def Obligations.LawsHoldAtReset : Prop :=
  State.reset.LockLaw ∧ State.reset.RememberedLaw ∧ State.reset.ClosedLaw ∧ State.reset.PickupLaw ∧
    State.reset.HandoverLaw ∧ State.reset.AreaLaw ∧ State.reset.CustodyLaw ∧ State.reset.Bounded ∧ State.reset.ProfileLaw ∧
    State.reset.ReservedLaw ∧ State.reset.ListLaw ∧ State.reset.DispatchLaw ∧ State.reset.DrainLaw ∧ State.reset.JobLaw ∧
    State.reset.FloatLaw ∧ State.reset.OperatorLaw

/-- The lock keeps its law: the bolt is drawn in WINDOW and OPEN alone, ALARM and the alarm output go with the latch, the
opening record with the state (R134, R135). -/
def Obligations.StepKeepsLockLaw : Prop :=
  ∀ s t : State, s.LockLaw → step s = .next t → t.LockLaw

/-- The office keeps its law: the remembered state with HELD, and the closed office without running tills, counts and floats
(R20, R25). -/
def Obligations.StepKeepsOfficeLaw : Prop :=
  ∀ s t : State, s.RememberedLaw → s.ClosedLaw → step s = .next t → t.RememberedLaw ∧ t.ClosedLaw

/-- The laws of the tills. The pickup-due list keeps its law (R54). A float composed and not confirmed keeps its law: its one
reservation is worth the amount composed, which never exceeds the amount requested, and lies below it only under the reduced mark
(R76); the premise on the reservations rules out a definition of denominations under a float (R2, R14). A till that becomes
COMPOSED below its request has at least the float minimum of its class, in the profile active then (R72, R76). And a till's
rate is changed by an update alone, and then lies within the bounds, times 16, of the profile active at that update (R51), or a
cold start sets it to 0; it never passes 16,000,000 (R43). -/
def Obligations.StepKeepsPickupLaw : Prop :=
  (∀ s t : State, s.PickupLaw → step s = .next t → t.PickupLaw) ∧
  (∀ s t : State, s.FloatLaw → s.ReservedLaw → step s = .next t → t.FloatLaw) ∧
  (∀ (s t : State) (n : Nat) (c : Composition), s.FloatLaw → step s = .next t → (s.till n).state ≠ .composed →
    (t.till n).pending = some c → c.composed < c.requested →
    classOf s.profile.floatMin (s.till n).cls ≤ c.composed) ∧
  (∀ (s t : State) (n : Nat), s.ProfileLaw → step s = .next t →
    (t.till n).rate = (s.till n).rate ∨
    (s.profile.rateMin * 16 ≤ (t.till n).rate ∧ (t.till n).rate ≤ s.profile.rateMax * 16) ∨
    t.tps = Tps.atColdStart) ∧
  (∀ s t : State, s.ProfileLaw → (∀ n, (s.till n).rate ≤ 16000000) → step s = .next t → ∀ n, (t.till n).rate ≤ 16000000)

/-- The handover record and IN_HANDOVER go together (R161); the lists of the consignments hold the bags that name them
(R148). -/
def Obligations.StepKeepsHandoverLaw : Prop :=
  (∀ s t : State, s.HandoverLaw → step s = .next t → t.HandoverLaw) ∧
  (∀ s t : State, s.ListLaw → step s = .next t → t.ListLaw)

/-- No count of pieces passes 16,777,215, and the pieces reserved from an area never exceed it (R3). The stock value changes
only with the floats issued, top-ups, handovers and counted value that the day's totals take up: over a step that closes the day
they stand in its summary; OPEN DAY, which sets them to zero, leaves the stock value; and a cold start empties the stock (R4,
R25). -/
def Obligations.StepKeepsAreaLaw : Prop :=
  (∀ s t : State, s.AreaLaw → step s = .next t → t.AreaLaw) ∧
  (∀ s t : State, s.ReservedLaw → step s = .next t → t.ReservedLaw) ∧
  (∀ s t : State, s.ReservedLaw → s.DispatchLaw → s.ListLaw → s.CustodyLaw → step s = .next t →
    (t.stockValue : Int) + t.oc.totals.moved = s.stockValue + s.oc.totals.moved ∨
    (∃ d, t.oc.state = .closedDay ∧ t.oc.summary = some d ∧
      (t.stockValue : Int) + d.totals.moved + t.oc.totals.moved = s.stockValue + s.oc.totals.moved) ∨
    (t.oc.state = .trading ∧ t.oc.totals = Totals.zero ∧ t.stockValue = s.stockValue) ∨
    t.st = St.atColdStart)

/-- Every bag stands where its state says, once, and no seal is live twice (R6, R89, R99, R114); DISPATCH holds the pieces of
the OUTBOUND bags in SEALED and SCANNED (R13). Every bag of the PRIORITY class belongs to a till in DRAINING, and a till's bag that
is not yet COUNTED or LOST keeps its session (R57 to R62, R99). Every COUNTING bag is the assigned bag of one or two stations, and
every station that has an assigned bag has it in COUNTING (R114). -/
def Obligations.StepKeepsCustodyLaw : Prop :=
  (∀ s t : State, s.CustodyLaw → step s = .next t → t.CustodyLaw) ∧
  (∀ s t : State, s.CustodyLaw → s.ListLaw → s.DispatchLaw → step s = .next t → t.DispatchLaw) ∧
  (∀ s t : State, s.CustodyLaw → s.DrainLaw → step s = .next t → t.DrainLaw) ∧
  (∀ s t : State, s.CustodyLaw → s.JobLaw → step s = .next t → t.JobLaw)

/-- The capacities hold, every profile satisfies its ranges, and the operator table holds each identifier once, none of them 0
(R14, R32, R34, R41, R92, R171, R174, R175). -/
def Obligations.StepKeepsCapacitiesAndRanges : Prop :=
  (∀ s t : State, s.Bounded → step s = .next t → t.Bounded) ∧
  (∀ s t : State, s.ProfileLaw → step s = .next t → t.ProfileLaw) ∧
  (∀ s t : State, s.OperatorLaw → step s = .next t → t.OperatorLaw)

/-! ### Stock -/

/-- DEFINE DENOMINATIONS (R2). That an empty list is refused RANGE with no slot named, and one of more than 12 entries with slot 13
where no slot before it is at fault, is log entry 12 (DESIGN CHOICE); that a kind that is none is tested with the values is log
entry 41 (DESIGN CHOICE). -/
def Obligations.DefineDenominations : Prop :=
  (∀ (es : List DenomEntry) (s : State), s.Shut →
    (∀ d, (s.slot d).working = 0 ∧ (s.slot d).reserve = 0 ∧ (s.slot d).unfit = 0 ∧ (s.slot d).dispatch = 0) →
    (∀ b, s.bag b = none) →
    (es ≠ [] → (∀ d, 1 ≤ d → d ≤ es.length → ¬ SlotAtFault es d) →
      Accepts (.defineDenominations es) s
        { s with st := { s.st with
          denoms := es.map fun e => { value := e.value, kind := if e.kind = 0 then .note else .roll }
          slots := s.st.slots.map fun x => { x with suspect := 0, low := 0, high := 0 } } }
        (counted (es.map fun e => [.pieceValue e.value, .enum e.kind]))) ∧
    (es = [] → Refuses (.defineDenominations es) s .range []) ∧
    (∀ d, 1 ≤ d → d ≤ es.length → SlotAtFault es d → (∀ c, 1 ≤ c → c < d → ¬ SlotAtFault es c) →
      Refuses (.defineDenominations es) s .range [.byte d])) ∧
  (∀ (es : List DenomEntry) (s : State), s.phase = .running →
    (s.oc.state = .held → Refuses (.defineDenominations es) s .held []) ∧
    (s.oc.state = .trading ∨ s.oc.state = .closing → Refuses (.defineDenominations es) s .state [])) ∧
  (∀ (es : List DenomEntry) (s : State) (d b : Nat), s.Shut →
    ((s.slot d).working ≠ 0 ∨ (s.slot d).reserve ≠ 0 ∨ (s.slot d).unfit ≠ 0 ∨ (s.slot d).dispatch ≠ 0 ∨ s.bag b ≠ none) →
    Refuses (.defineDenominations es) s .state [])

/-- TRANSFER STOCK, direction 0 WORKING to RESERVE and 1 RESERVE to WORKING: all lines move in one operation, the watermarks
of a changed WORKING follow, the stock value stays, and the passes of R6 follow for the WORKING counts lowered; and its
refusals in the order of their tests, SHORT and FULL naming the lowest such slot (R4, R6, R10, R17). Dual control passes for two
different identifiers, both enrolled, one or both as SUPERVISOR; 0 never passes (R33). The reply gives slot,
WORKING and RESERVE of each slot named, in slot order (log entry 12, DESIGN CHOICE); that these are the figures before the
passes of R6 is the model's reading (log entry 24, DEDUCED); that the direction is tested with the lines is log entry 41
(DESIGN CHOICE). -/
def Obligations.TransferMovesEveryLine : Prop :=
  (∀ (op1 op2 dir : Nat) (ls : List StockLine) (s : State), s.Open → s.oc.state ≠ .unconfigured → s.st.denoms.length ≤ 12 →
    dir ≤ 1 → s.stockLinesOk ls = true → s.dualControl op1 op2 = true →
    (dir = 0 → ∀ d ∈ s.namedSlots ls,
      lineFor ls d ≤ s.assemblyLimit .working d ∧ (s.slot d).reserve + lineFor ls d ≤ pieceLimit) →
    (dir = 1 → ∀ d ∈ s.namedSlots ls,
      lineFor ls d ≤ (s.slot d).reserve ∧ (s.slot d).working + lineFor ls d ≤ pieceLimit) →
    ∃ u : State,
      Accepts (.transferStock op1 op2 dir ls) s
        (s.settle (if dir = 0 then u.retryPasses ((s.namedSlots ls).map fun d => (d, .working)) else u))
        (counted ((s.namedSlots ls).map fun d => [.byte d, .pieces (u.slot d).working, .pieces (u.slot d).reserve])) ∧
      u = { s with st := { s.st with slots := u.st.slots } } ∧
      (∀ d, u.slot d =
        if lineFor ls d = 0 then s.slot d
        else if dir = 0 then
          { s.slot d with
            working := (s.slot d).working - lineFor ls d, reserve := (s.slot d).reserve + lineFor ls d
            low := min (s.slot d).low ((s.slot d).working - lineFor ls d)
            high := max (s.slot d).high ((s.slot d).working - lineFor ls d) }
        else
          { s.slot d with
            working := (s.slot d).working + lineFor ls d, reserve := (s.slot d).reserve - lineFor ls d
            low := min (s.slot d).low ((s.slot d).working + lineFor ls d)
            high := max (s.slot d).high ((s.slot d).working + lineFor ls d) }) ∧
      u.stockValue = s.stockValue) ∧
  (∀ (ls : List StockLine) (s : State), s.stockLinesOk ls = true ↔
    1 ≤ ls.length ∧ ls.length ≤ 12 ∧ (ls.map StockLine.slot).Nodup ∧
    ∀ l ∈ ls, 1 ≤ l.slot ∧ l.slot ≤ s.st.denoms.length ∧ 1 ≤ l.pieces ∧ l.pieces ≤ pieceLimit) ∧
  (∀ (a b : Nat) (s : State), s.OperatorLaw →
    (s.dualControl a b = true ↔
      a ≠ b ∧ ∃ o ∈ s.oc.operators, ∃ p ∈ s.oc.operators,
        o.ident = a ∧ p.ident = b ∧ (o.role = .supervisor ∨ p.role = .supervisor))) ∧
  (∀ (a : Nat) (s : State), s.dualControl 0 a = false ∧ s.dualControl a 0 = false) ∧
  (∀ (op1 op2 dir : Nat) (ls : List StockLine) (s : State), s.Open →
    (s.oc.state = .unconfigured → Refuses (.transferStock op1 op2 dir ls) s .state []) ∧
    (s.oc.state ≠ .unconfigured → 1 < dir ∨ s.stockLinesOk ls = false →
      Refuses (.transferStock op1 op2 dir ls) s .range []) ∧
    (s.oc.state ≠ .unconfigured → dir ≤ 1 → s.stockLinesOk ls = true → s.dualControl op1 op2 = false →
      Refuses (.transferStock op1 op2 dir ls) s .role [])) ∧
  (∀ (op1 op2 dir d : Nat) (ls : List StockLine) (limit room : Nat → Nat) (s : State), s.Open → s.oc.state ≠ .unconfigured →
    dir ≤ 1 → s.stockLinesOk ls = true → s.dualControl op1 op2 = true →
    (limit = fun d => if dir = 0 then s.assemblyLimit .working d else (s.slot d).reserve) →
    (room = fun d => if dir = 0 then (s.slot d).reserve else (s.slot d).working) → d ∈ s.namedSlots ls →
    (limit d < lineFor ls d → (∀ c ∈ s.namedSlots ls, c < d → lineFor ls c ≤ limit c) →
      Refuses (.transferStock op1 op2 dir ls) s .short [.byte d]) ∧
    ((∀ c ∈ s.namedSlots ls, lineFor ls c ≤ limit c) → pieceLimit < room d + lineFor ls d →
      (∀ c ∈ s.namedSlots ls, c < d → room c + lineFor ls c ≤ pieceLimit) →
      Refuses (.transferStock op1 op2 dir ls) s .full [.byte d]))

/-- A credit is taken whole or held whole; its suspect pieces are added once either way, to the held counts and to the day's
totals (R5), and a WORKING count that it changes meets the watermarks, once for the credit (R17). A held credit is retested
when an operation lowers a slot and area of its blocking set, from the oldest entry, one pass for each slot and area lowered:
one that now passes leaves the list and is applied as any credit, one that still fails keeps its place with the set of this
time (R6). A credit that is taken makes the bag COUNTED and tells TPS, whose till's collected figure grows by the counted
value and which is then tested (R60, R62; what the test does with a DRAINING till is said whole in
OrphansAdoptedAndBagsWrittenOff). A credit that is held places CREDIT_HELD, with the bag and the first failing slot and area,
slots in order and WORKING before UNFIT (R5); the area's code, 0 for WORKING and 2 for UNFIT, is log entry 32 (DESIGN
CHOICE). -/
def Obligations.CreditIsTakenWhole : Prop :=
  (∀ (s : State) (b : Nat) (t : Vector Counts 12), s.st.denoms.length ≤ 12 →
    (s.creditFailures t = [] →
      (∀ d ∈ s.slots,
        ((s.credit b t).slot d).working = (s.slot d).working + (nth default t d).good ∧
        ((s.credit b t).slot d).unfit = (s.slot d).unfit + (nth default t d).unfit ∧
        ((s.credit b t).slot d).suspect = min ((s.slot d).suspect + (nth default t d).suspect) pieceLimit ∧
        ((s.credit b t).slot d).reserve = (s.slot d).reserve ∧ ((s.credit b t).slot d).dispatch = (s.slot d).dispatch ∧
        ((s.credit b t).slot d).low = (if (nth default t d).good = 0 then (s.slot d).low
          else min (s.slot d).low ((s.slot d).working + (nth default t d).good)) ∧
        ((s.credit b t).slot d).high = (if (nth default t d).good = 0 then (s.slot d).high
          else max (s.slot d).high ((s.slot d).working + (nth default t d).good))) ∧
      (s.credit b t).oc.totals.counted = s.oc.totals.counted + s.tallyValue (fun c => c.good + c.unfit) t ∧
      (s.credit b t).oc.totals.unfit = s.oc.totals.unfit + s.tallyValue Counts.unfit t ∧
      (s.credit b t).oc.totals.suspectPieces =
        s.oc.totals.suspectPieces + (s.slots.map fun d => (nth default t d).suspect).sum ∧
      (s.credit b t).oc.totals.suspectValue = s.oc.totals.suspectValue + s.tallyValue Counts.suspect t ∧
      ((s.credit b t).bag b).map Bag.state = (s.bag b).map (fun _ => .counted) ∧
      (s.credit b t).st.held = s.st.held ∧
      (∃ w : State,
        s.credit b t = w.tellCounted b ∧ w.tps = s.tps ∧ w.hli = s.hli ∧
        w.bag b = (s.bag b).map (fun x => { x with state := .counted, changed := s.oc.clock }) ∧
        (∀ c, c ≠ b → w.bag c = s.bag c)) ∧
      (∀ x n, s.bag b = some x → x.till = some n → 1 ≤ n → n ≤ 96 →
        ((s.credit b t).till n).collected = (s.till n).collected + (x.result.map CountResult.value).getD 0)) ∧
    (∀ f fs, s.creditFailures t = f :: fs →
      (∀ d ∈ s.slots,
        ((s.credit b t).slot d) =
          { s.slot d with suspect := min ((s.slot d).suspect + (nth default t d).suspect) pieceLimit }) ∧
      (s.credit b t).oc.totals = { s.oc.totals with
        suspectPieces := s.oc.totals.suspectPieces + (s.slots.map fun d => (nth default t d).suspect).sum
        suspectValue := s.oc.totals.suspectValue + s.tallyValue Counts.suspect t } ∧
      ((s.credit b t).bag b).map Bag.state = (s.bag b).map (fun _ => .creditHeld) ∧
      (s.credit b t).st.held =
        s.st.held ++ [{ bag := b, counts := t.map fun c => { c with suspect := 0 }, blocking := f :: fs }] ∧
      (∀ g ∈ fs, f.1 < g.1 ∨ (f.1 = g.1 ∧ f.2 = .working ∧ g.2 = .unfit)) ∧
      (s.credit b t).tps = s.tps ∧
      (∀ u : State, u = s.place .creditHeld [.byte b, .byte f.1, .enum (if f.2 = .working then 0 else 2)] →
        (s.credit b t).hli = u.hli ∧ (s.credit b t).oc.deferred = u.oc.deferred ∧
        (s.credit b t).oc.deferredOver = u.oc.deferredOver))) ∧
  (∀ (s : State) (b : Nat),
    ((s.bag b).bind Bag.till = none → s.tellCounted b = s) ∧
    (∀ x n, s.bag b = some x → x.till = some n →
      s.tellCounted b =
        (s.setTill n { s.till n with
          collected := (s.till n).collected + (x.result.map CountResult.value).getD 0 }).reconcile n)) ∧
  (∀ (n : Nat) (s : State), 1 ≤ n → n ≤ 96 →
    (s.bagsOutstanding (s.till n) = 0 ↔
      ∀ c ∈ (s.till n).bags, ∀ y, s.bag c = some y → y.state = .counted ∨ y.state = .lost) ∧
    ((s.till n).state ≠ .draining ∨ s.bagsOutstanding (s.till n) ≠ 0 → s.reconcile n = s) ∧
    ((s.till n).state = .draining → s.bagsOutstanding (s.till n) = 0 →
      (s.reconcile n).till n = { s.till n with
        state := .reconciled
        variance := some (((s.till n).collected : Int) - ((s.till n).floatTotal + (s.till n).takings)) })) ∧
  (∀ (s : State) (t : Vector Counts 12) (d : Nat), s.st.denoms.length ≤ 12 →
    ((d, Source.working) ∈ s.creditFailures t ↔ d ∈ s.slots ∧ pieceLimit < (s.slot d).working + (nth default t d).good) ∧
    ((d, Source.unfit) ∈ s.creditFailures t ↔ d ∈ s.slots ∧ pieceLimit < (s.slot d).unfit + (nth default t d).unfit)) ∧
  (∀ (p : Nat × Source) (s u : State) (e : HeldCredit), u = State.retryOne p s e →
    (p ∉ e.blocking → u = s) ∧
    (∀ f fs, p ∈ e.blocking → s.creditFailures e.counts = f :: fs →
      u = { s with st := { s.st with
        held := s.st.held.map fun h => if h.bag = e.bag then { h with blocking := f :: fs } else h } } ∧
      u.st.held.map HeldCredit.bag = s.st.held.map HeldCredit.bag) ∧
    (p ∈ e.blocking → s.creditFailures e.counts = [] → s.st.denoms.length ≤ 12 →
      u.st.held = s.st.held.filter (fun h => decide (h.bag ≠ e.bag)) ∧
      (∀ d ∈ s.slots,
        (u.slot d).working = (s.slot d).working + (nth default e.counts d).good ∧
        (u.slot d).unfit = (s.slot d).unfit + (nth default e.counts d).unfit ∧
        (u.slot d).suspect = (s.slot d).suspect ∧ (u.slot d).reserve = (s.slot d).reserve ∧
        (u.slot d).dispatch = (s.slot d).dispatch ∧
        (u.slot d).low = (if (nth default e.counts d).good = 0 then (s.slot d).low
          else min (s.slot d).low ((s.slot d).working + (nth default e.counts d).good)) ∧
        (u.slot d).high = (if (nth default e.counts d).good = 0 then (s.slot d).high
          else max (s.slot d).high ((s.slot d).working + (nth default e.counts d).good))) ∧
      u.oc.totals.counted = s.oc.totals.counted + s.tallyValue (fun c => c.good + c.unfit) e.counts ∧
      u.oc.totals.suspectPieces = s.oc.totals.suspectPieces ∧
      (u.bag e.bag).map Bag.state = (s.bag e.bag).map (fun _ => .counted) ∧
      (∀ x n, s.bag e.bag = some x → x.till = some n → 1 ≤ n → n ≤ 96 →
        (u.till n).collected = (s.till n).collected + (x.result.map CountResult.value).getD 0))) ∧
  (∀ (s : State) (p : Nat × Source) (ps : List (Nat × Source)),
    s.retryPass p = s.st.held.foldl (State.retryOne p) s ∧ s.retryPasses [] = s ∧
    s.retryPasses (p :: ps) = (s.retryPass p).retryPasses ps)

/-! ### The office -/

/-- OPEN DAY (R23): its tests and what it writes; the office state entered is told to SLC, which decides the shutter (R95), and a
pass of the arbiter ends the operation (R111). That it writes minuteTold 0, a field of the model's own, is log entry 27 (DESIGN
CHOICE). -/
def Obligations.OpenDay : Prop :=
  (∀ s : State, s.phase = .running → s.oc.state = .closedDay ∨ (s.oc.state = .unconfigured ∧ s.st.denoms ≠ []) →
    Accepts .openDay s
      (s.settle
        ({ s with
          oc := { s.oc with openMark := some s.oc.clock, minuteTold := 0, totals := Totals.zero, state := .trading }
          st := { s.st with slots := s.st.slots.map fun x =>
            { x with suspect := 0, low := x.working, high := x.working } } } : State).decideShutter)
      (.time s.oc.clock :: s.oc.totals.fields)) ∧
  (∀ s : State, s.phase = .running → s.oc.state = .held → Refuses .openDay s .held []) ∧
  (∀ s : State, s.phase = .running → s.oc.state = .trading ∨ s.oc.state = .closing → Refuses .openDay s .state []) ∧
  (∀ s : State, s.phase = .running → s.oc.state = .unconfigured → s.st.denoms = [] → Refuses .openDay s .state [])

/-- CLOSE DAY: the five outstanding figures, the closing conditions as the outstanding count being 0, and what the request
does in each office state (R24); a day that does not close at once ends the operation with the pass of R111. The fields of the
two replies are log entry 12 (DESIGN CHOICE). -/
def Obligations.CloseDay : Prop :=
  (∀ s : State,
    s.outstanding =
      { tills := ((upTo 96).filter fun n => decide ((s.till n).state = .composed ∨ (s.till n).state = .opened ∨
          (s.till n).state = .draining)).length
        bags := ((List.range 256).filter fun b => (s.bag b).any fun x =>
          decide (x.state = .queued ∨ x.state = .counting ∨ x.state = .creditHeld ∨ x.state = .countHeld)).length
        reservations := s.st.reservations.length
        handover := if s.chu.handover = none then 0 else 1
        lock := if s.slc.state = .locked then 0 else 1 }) ∧
  (∀ s : State, s.outstanding.total = 0 ↔
    ((∀ n, 1 ≤ n → n ≤ 96 → (s.till n).state = .closed ∨ (s.till n).state = .reconciled) ∧
     (∀ b x, s.bag b = some x →
       x.state ≠ .queued ∧ x.state ≠ .counting ∧ x.state ≠ .creditHeld ∧ x.state ≠ .countHeld) ∧
     s.st.reservations = [] ∧ s.chu.handover = none ∧ s.slc.state = .locked)) ∧
  (∀ s : State, s.Trades →
    (s.slc.state ≠ .locked → Refuses .closeDay s .state s.outstanding.fields) ∧
    (s.outstanding.total = 0 → Accepts .closeDay s s.closeDay s.summarize.fields) ∧
    (s.slc.state = .locked → s.outstanding.total ≠ 0 →
      Accepts .closeDay s (s.endPass { s with oc := { s.oc with state := .closing } })
        (OfficeState.closing.code :: (s.outstanding.fields ++ [.word s.outstanding.total])))) ∧
  (∀ s : State, s.phase = .running → s.oc.state = .closing →
    Accepts .closeDay s s (OfficeState.closing.code :: (s.outstanding.fields ++ [.word s.outstanding.total]))) ∧
  (∀ s : State, s.phase = .running → s.oc.state = .held → Refuses .closeDay s .held []) ∧
  (∀ s : State, s.Shut → Refuses .closeDay s .state [])

/-- What the close of the day does (R25, R28, R63, R104, R156): the summary, with the open mark, the office time and the
trading minute of the close, every running total, the SUSPECT held count and the watermarks of each configured slot, and the
stock value; a trading minute is the whole minutes elapsed from the open mark, through day 65,535 to day 0 (R30), where the
clock does not stand before the mark on the mark's own day, for which the manual gives no figure (log entry 4); the freed
records, the lists of the consignments kept, the session lists, the totals, the office state, and the shutter, which the new
office state closes (R95). -/
def Obligations.TheDayCloses : Prop :=
  ∀ s : State,
    s.closeDay.oc.state = .closedDay ∧ s.closeDay.oc.summary = some s.summarize ∧ s.closeDay.oc.totals = Totals.zero ∧
    s.summarize =
      { openMark := s.oc.openMark, closed := s.oc.clock, minute := s.minute, totals := s.oc.totals
        slots := ((List.range s.st.denoms.length).map (· + 1)).map fun d =>
          { suspect := (s.slot d).suspect, low := (s.slot d).low, high := (s.slot d).high }
        stockValue := s.stockValue } ∧
    (∀ m : OfficeTime, s.oc.openMark = some m → m.day ≤ 65535 → s.oc.clock.day ≤ 65535 → m.sec ≤ 86399 →
      (m.day = s.oc.clock.day → m.sec ≤ s.oc.clock.sec) →
      s.minute =
        ((if m.day ≤ s.oc.clock.day then s.oc.clock.day - m.day else s.oc.clock.day + 65536 - m.day) * 86400 +
          s.oc.clock.sec - m.sec) / 60) ∧
    s.stockValue = (s.slots.map fun d =>
      ((s.slot d).working + (s.slot d).reserve + (s.slot d).unfit + (s.slot d).dispatch) * s.pieceValue d).sum ∧
    (∀ b x, s.bag b = some x →
      s.closeDay.bag b = if x.state = .counted ∨ x.state = .lost ∨ x.state = .handedOver then none else some x) ∧
    (∀ c, (s.consignment c).state = .done ∨ (s.consignment c).state = .cancelled →
      s.closeDay.consignment c = { state := .free, outbound := [], inbound := [], schedule := none }) ∧
    (∀ c, (s.consignment c).state ≠ .done → (s.consignment c).state ≠ .cancelled →
      s.closeDay.consignment c =
        { s.consignment c with
          outbound := (s.consignment c).outbound.filter fun b => !((s.bag b).any fun x =>
            decide (x.state = .counted ∨ x.state = .lost ∨ x.state = .handedOver))
          inbound := (s.consignment c).inbound.filter fun b => !((s.bag b).any fun x =>
            decide (x.state = .counted ∨ x.state = .lost ∨ x.state = .handedOver)) }) ∧
    (∀ n, s.closeDay.till n = if (s.till n).state = .reconciled then { s.till n with bags := [] } else s.till n) ∧
    s.closeDay.slc = { s.slc with shutter := .closed } ∧ s.closeDay.chu.handover = s.chu.handover ∧
    s.closeDay.st = s.st ∧ s.closeDay.csc = s.csc

/-- CANCEL CLOSE (R26). -/
def Obligations.CancelClose : Prop :=
  (∀ s : State, s.phase = .running → s.oc.state = .closing →
    Accepts .cancelClose s (s.settle { s with oc := { s.oc with state := .trading } }) s.outstanding.fields ∧
    (s.settle { s with oc := { s.oc with state := .trading } }).oc.state = .trading) ∧
  (∀ s : State, s.Open → s.oc.state ≠ .closing → Refuses .cancelClose s .state []) ∧
  (∀ s : State, s.phase = .running → s.oc.state = .held → Refuses .cancelClose s .held [])

/-- RESUME (R22): the remembered state is entered, the deferred notices join the queue behind those in it, their overflow sets
the notices-lost flag, the shutter is decided, and in TRADING and CLOSING one minute event passes with the trading minute of
the moment (State.minuteEvent, of which MinuteEventEvaluatesEveryTill speaks). Each notice moved meets the mask and the
capacity of 32 in its turn (R175); minuteTold is a field of the model's own (log entry 27, DESIGN CHOICE). That the reply
gives the remembered state, also where the day closes in the same operation, is log entry 33 (DESIGN CHOICE). -/
def Obligations.Resume : Prop :=
  (∀ (s : State) (r : OfficeState), s.phase = .running → s.oc.state = .held → s.oc.remembered = some r → r ≠ .held →
    ∃ (u v : State) (kept more : List Notice),
      Accepts .resume s (s.settle u) [r.code] ∧
      kept = s.oc.deferred.filter (fun n => !s.hli.mask.getLsbD (n.kind.num - 128)) ∧
      v = { s with
        oc := { s.oc with state := r, remembered := none, deferred := [], deferredOver := false }
        hli := { s.hli with
          notices := s.hli.notices ++ kept.take (32 - s.hli.notices.length)
          lost := s.hli.lost || s.oc.deferredOver || decide (32 - s.hli.notices.length < kept.length) } } ∧
      u = (if r = .trading ∨ r = .closing then v.decideShutter.minuteEvent s.minute else v.decideShutter) ∧
      u.oc =
        { s.oc with
          state := r, remembered := none, deferred := [], deferredOver := false
          minuteTold := if r = .trading ∨ r = .closing then s.minute else s.oc.minuteTold } ∧
      (s.hli.notices.length + s.oc.deferred.length ≤ 32 →
        u.hli.notices = s.hli.notices ++ s.oc.deferred.filter (fun n => !s.masked n.kind) ++ more) ∧
      (s.oc.deferredOver = true → u.hli.lost = true) ∧
      u.slc = { s.slc with shutter := if (r = .trading ∨ r = .closing) ∧ s.freeOrphans ≠ [] then .opened else .closed } ∧
      u.st = s.st ∧ u.br = s.br ∧ u.csc = s.csc ∧ u.chu = s.chu ∧ u.pins = s.pins) ∧
  (∀ s : State, s.Open → Refuses .resume s .state [])

/-- SET CLOCK (R31), and the latest of a consignment (R158): the clock is loaded, every SCHEDULED consignment whose latest
lies at or before it is MISSED, with COLLECTION_MISSED for each in order of number, which meets the mask and the capacity of the
notice queue in its turn (R175), and nothing else changes. That a LATEST REACHED command acts on any SCHEDULED
consignment, whatever the clock reads, is log entry 6 (DESIGN CHOICE). -/
def Obligations.ClockAndLatest : Prop :=
  (∀ (t : OfficeTime) (s : State), s.Shut → t.day ≤ 65535 → t.sec ≤ 86399 →
    ∃ (u : State) (missed : List Nat) (kept : List Notice),
      Accepts (.setClock t) s u [.time t] ∧
      missed = (List.range' 1 8).filter (fun c => decide ((s.consignment c).state = .scheduled ∧
        t.before ((s.consignment c).schedule.getD default).latest = false)) ∧
      kept = ((missed.map fun c =>
        ({ kind := .collectionMissed, time := t
           fields :=
             [.byte c, .ident ((s.consignment c).schedule.getD default).courier,
              .ident ((s.consignment c).schedule.getD default).route, .time ((s.consignment c).schedule.getD default).latest,
              .count (s.consignment c).outbound.length, .count (s.consignment c).inbound.length] } : Notice)).filter
                fun n => !s.hli.mask.getLsbD (n.kind.num - 128)) ∧
      (∀ c, u.consignment c = if c ∈ missed then { s.consignment c with state := .missed } else s.consignment c) ∧
      u = { s with
        oc := { s.oc with clock := t }
        chu := { s.chu with consignments := u.chu.consignments }
        hli := { s.hli with
          notices := s.hli.notices ++ kept.take (32 - s.hli.notices.length)
          lost := s.hli.lost || decide (32 - s.hli.notices.length < kept.length) } }) ∧
  (∀ (t : OfficeTime) (s : State), s.Shut → 65535 < t.day ∨ 86399 < t.sec → Refuses (.setClock t) s .range []) ∧
  (∀ (t : OfficeTime) (s : State), s.phase = .running →
    (s.oc.state = .held → Refuses (.setClock t) s .held []) ∧
    (s.oc.state = .trading ∨ s.oc.state = .closing → Refuses (.setClock t) s .state [])) ∧
  (∀ (c : Nat) (k : Schedule) (s : State), s.phase = .running → 1 ≤ c → c ≤ 8 → (s.consignment c).state = .scheduled →
    (s.consignment c).schedule = some k →
    Leaves (.latestReached c) s
      ((s.setConsignment c { s.consignment c with state := .missed }).place .collectionMissed
        [.byte c, .ident k.courier, .ident k.route, .time k.latest, .count (s.consignment c).outbound.length,
         .count (s.consignment c).inbound.length])) ∧
  (∀ (c : Nat) (s : State), s.phase = .running → (s.consignment c).state ≠ .scheduled → Leaves (.latestReached c) s s)

/-- ENROL OPERATOR and WITHDRAW OPERATOR (R32). -/
def Obligations.OperatorTable : Prop :=
  (∀ (op role : Nat) (s : State), s.Open →
    (1 ≤ op → op ≤ 65535 → role ≤ 1 → (∀ o ∈ s.oc.operators, o.ident ≠ op) → s.oc.operators.length < 32 →
      Accepts (.enrolOperator op role) s
        { s with oc := { s.oc with operators :=
          s.oc.operators ++ [{ ident := op, role := if role = 0 then .office else .supervisor }] } }
        [.count (s.oc.operators.length + 1)]) ∧
    (op = 0 ∨ 1 < role → Refuses (.enrolOperator op role) s .range []) ∧
    (1 ≤ op → op ≤ 65535 → role ≤ 1 → (∃ o ∈ s.oc.operators, o.ident = op) →
      Refuses (.enrolOperator op role) s .duplicate []) ∧
    (1 ≤ op → op ≤ 65535 → role ≤ 1 → (∀ o ∈ s.oc.operators, o.ident ≠ op) → 32 ≤ s.oc.operators.length →
      Refuses (.enrolOperator op role) s .full [])) ∧
  (∀ (op : Nat) (s : State), s.Open →
    ((∃ o ∈ s.oc.operators, o.ident = op) →
      Accepts (.withdrawOperator op) s
        { s with oc := { s.oc with operators := s.oc.operators.filter fun o => decide (o.ident ≠ op) } } []) ∧
    ((∀ o ∈ s.oc.operators, o.ident ≠ op) → Refuses (.withdrawOperator op) s .absent []))

/-- WRITE PROFILE and SELECT PROFILE (R33, R35 to R37): an item names a field, by its number in the order of Table 2.4, a class
where the field is kept per class, a configured slot where it is kept per slot, and for the halt policy one of the three; a
supervisor is enrolled as SUPERVISOR, and 0 never is; only the inactive set is written; each field takes the last value written
to it, brought into its fixed range, then H, c, r_max and r_init are held in the limits between fields; the reply lists the
fields left clamped, as many as fit; the selector alone is switched. That an item at fault is named by its number from 1, and
the fields of a clamped entry, with 0 for a class or a slot that its field is not kept by, are log entry 12 (DESIGN CHOICE), and
so is that a refusal for the set or for the item count names no item, also where an item is at fault; that the list is cut to
the entries that fit a reply, where R36 lists every field clamped, and its order are log entry 23 (DESIGN CHOICE). -/
def Obligations.ProfilesAreWrittenAndSelected : Prop :=
  (∀ (set : Nat) (n : ProfileName) (items : List ProfileItem) (s : State), s.Open →
    (set = 0 ∧ n = .a) ∨ (set = 1 ∧ n = .b) → 1 ≤ items.length → items.length ≤ 48 → (∀ i ∈ items, s.itemOk i = true) →
    (n ≠ s.oc.active → ∀ p q, p = s.profileOf n → q = p.afterWrite items →
      Accepts (.writeProfile set items) s (s.setProfile n q)
        (counted (fitting 478 ((clampedKeys p q items).map fun k =>
          [.byte k.1, .byte k.2.1, .byte k.2.2, .word (q.get k.1 k.2.1 k.2.2)])))) ∧
    (n = s.oc.active → Refuses (.writeProfile set items) s .active [])) ∧
  (∀ (set : Nat) (items : List ProfileItem) (s : State), s.Open →
    1 < set ∨ items = [] ∨ 48 < items.length → Refuses (.writeProfile set items) s .range []) ∧
  (∀ (set k : Nat) (items : List ProfileItem) (s : State), s.Open → set ≤ 1 → 1 ≤ items.length → items.length ≤ 48 →
    k < items.length → s.itemOk (items.getD k default) = false → (∀ m < k, s.itemOk (items.getD m default) = true) →
    Refuses (.writeProfile set items) s .range [.count (k + 1)]) ∧
  (∀ (set op : Nat) (n : ProfileName) (s : State), s.Open → (set = 0 ∧ n = .a) ∨ (set = 1 ∧ n = .b) →
    (s.isSupervisor op = true →
      Accepts (.selectProfile set op) s (s.settle { s with oc := { s.oc with active := n } }) []) ∧
    (s.isSupervisor op = false → Refuses (.selectProfile set op) s .role [])) ∧
  (∀ (set op : Nat) (s : State), s.Open → 1 < set → Refuses (.selectProfile set op) s .range []) ∧
  (∀ (i : ProfileItem) (s : State), s.itemOk i = true ↔
    i.field ≤ 16 ∧ (i.field ≤ 4 → i.cls ≤ 3) ∧
    (i.field = 3 ∨ i.field = 4 ∨ i.field = 9 → 1 ≤ i.slot ∧ i.slot ≤ s.st.denoms.length) ∧ (i.field = 16 → i.value ≤ 2)) ∧
  (∀ (i : ProfileItem) (k : Nat × Nat × Nat), i.names k = true ↔
    i.field = k.1 ∧ (k.1 ≤ 4 → i.cls = k.2.1) ∧ (k.1 = 3 ∨ k.1 = 4 ∨ k.1 = 9 → i.slot = k.2.2)) ∧
  (∀ (op : Nat) (s : State), s.OperatorLaw →
    (s.isSupervisor op = true ↔ ∃ o ∈ s.oc.operators, o.ident = op ∧ o.role = .supervisor)) ∧
  (∀ s : State, s.isSupervisor 0 = false) ∧
  (∀ row ∈ [(0, 1000, 10000000), (1, 0, 10000000), (2, 0, 10000000), (3, 0, 999), (4, 0, 999), (5, 0, 1000000), (6, 0, 1000000),
      (7, 0, 1000000), (8, 1, 16), (9, 0, 99999), (10, 0, 100000), (11, 0, 10000000), (12, 1, 60), (13, 1, 60), (14, 1, 15),
      (15, 0, 60)],
    ∀ x, fixedRange row.1 x = max row.2.1 (min row.2.2 x)) ∧
  (∀ (p : Profile) (items : List ProfileItem) (s : State), (∀ i ∈ items, s.itemOk i = true) →
    p.afterWrite items = (p.write items).enforce ∧
    ∀ k ∈ profileKeys (upTo 12),
      (∀ i, (items.filter fun j => j.names k).getLast? = some i →
        (p.write items).get k.1 k.2.1 k.2.2 = fixedRange k.1 i.value) ∧
      ((items.filter fun j => j.names k) = [] → (p.write items).get k.1 k.2.1 k.2.2 = p.get k.1 k.2.1 k.2.2)) ∧
  (∀ p : Profile,
    p.enforce = { p with
      hysteresis := p.enforce.hysteresis, cap := p.enforce.cap
      rateMax := max p.rateMax p.rateMin, rateInit := max p.rateMin (min (max p.rateMax p.rateMin) p.rateInit) } ∧
    (∀ c, c < 4 → classOf p.enforce.hysteresis c = min (classOf p.hysteresis c) (classOf p.threshold c)) ∧
    (∀ c d, c < 4 → 1 ≤ d → d ≤ 12 →
      classSlotOf p.enforce.cap c d = max (classSlotOf p.cap c d) (classSlotOf p.target c d))) ∧
  (∀ (p q : Profile) (items : List ProfileItem) (k : Nat × Nat × Nat), k ∈ clampedKeys p q items ↔
    k ∈ profileKeys (upTo 12) ∧
    ((∃ i, (items.filter fun j => j.names k).getLast? = some i ∧ q.get k.1 k.2.1 k.2.2 ≠ i.value) ∨
      (items.filter fun j => j.names k) = [] ∧ q.get k.1 k.2.1 k.2.2 ≠ p.get k.1 k.2.1 k.2.2))

/-- ERASE RECORDS and COLD START (R33, R40, R42, R147): two different supervisors; every record at its cold-start value, in
figures, both profiles at those of Table 2.4, the lock by Table 7.3, the command queue, the input lines and the frames sent as
they stood. The fields minuteTold, lastReply, sent and choices are the model's own (log entry 27, DESIGN CHOICE). A cold start
is made whole, unless the reset input or the loss of the supply comes next, which may interrupt it: the validity mark is then
absent, and the next start is cold again (R39, R40). Which of the two comes first is a free value, and what an interrupted start
leaves in the records, which nothing reads before the next start, is the model's (log entry 44, DESIGN CHOICE). The flush of the
frame in progress and of every waiting reply before the erasure is log entry 11 (DEDUCED), the receivers of the partner lines at
rest log entry 28 (DESIGN CHOICE). -/
def Obligations.EraseAndColdStart : Prop :=
  (∀ (op1 op2 : Nat) (s : State), s.Shut →
    (s.twoSupervisors op1 op2 = true →
      ∀ t : State, t = (s.formReply (.eraseRecords op1 op2) none []).flush →
        t = { s with
          sent := t.sent, choices := t.choices
          hli := { s.hli with
            rx := t.hli.rx, spacing := t.hli.spacing, buffer := t.hli.buffer, replies := [], tx := .idle
            notices := t.hli.notices, lost := t.hli.lost, lastReply := t.hli.lastReply } } ∧
        exec (.eraseRecords op1 op2) s = .next t.performColdStart) ∧
    (s.twoSupervisors op1 op2 = false → Refuses (.eraseRecords op1 op2) s .role [])) ∧
  (∀ (op1 op2 : Nat) (s : State), s.OperatorLaw →
    (s.twoSupervisors op1 op2 = true ↔
      op1 ≠ op2 ∧ (∃ o ∈ s.oc.operators, o.ident = op1 ∧ o.role = .supervisor) ∧
        ∃ o ∈ s.oc.operators, o.ident = op2 ∧ o.role = .supervisor)) ∧
  (∀ (op : Nat) (s : State), s.twoSupervisors 0 op = false ∧ s.twoSupervisors op 0 = false) ∧
  (∀ (op1 op2 : Nat) (s : State), s.phase = .running → s.oc.state = .trading ∨ s.oc.state = .closing →
    Refuses (.eraseRecords op1 op2) s .state []) ∧
  (∀ s : State, s.phase = .starting → s.pins.powerFail = false → s.valid = false →
    exec .coldStart s = .next s.performColdStart ∧ exec .warmRestart s = .next s) ∧
  (∀ s : State,
    ((∀ cs, s.pending ≠ .resetAssert :: cs ∧ s.pending ≠ .powerLoss :: cs) → s.performColdStart = s.coldStart) ∧
    (∀ i cs, s.pending = i :: cs → i = .resetAssert ∨ i = .powerLoss →
      s.performColdStart =
        if Config.coldStartCut s.choices = true then
          { s with choices := s.choices + 1, valid := false, phase := .starting }
        else { s.coldStart with choices := s.choices + 1 })) ∧
  (∀ (i : Instr) (s u t : State), s.valid = false →
    s.phase ≠ .running → i = .resetAssert ∨ i = .powerLoss → exec i s = .next u →
    u.valid = false ∧ u.phase ≠ .running ∧
    (i = .resetAssert → s.phase = .starting → exec .resetRelease u = .next t →
      t.valid = false ∧ t.phase = .starting ∧
      (t.pins.powerFail = false → t.pending = [] → t.due = [.coldStart] ∧ exec .coldStart t = .next t.coldStart)) ∧
    (i = .powerLoss → s.pins.reset = false → exec .powerUp u = .next t →
      t.valid = false ∧ t.phase = .starting ∧
      (t.pins.powerFail = false → t.pending = [] → t.due = [.coldStart] ∧ exec .coldStart t = .next t.coldStart))) ∧
  (∀ s : State, s.phase ≠ .starting ∨ s.pins.powerFail = true ∨ s.valid = true → exec .coldStart s = .next s) ∧
  (∀ (s : State) (p : Profile) (restart : Notice) (rest : Receiver),
    p = { threshold := Vector.replicate 4 200000, hysteresis := Vector.replicate 4 50000, floatMin := Vector.replicate 4 0
          target := Vector.replicate 4 (Vector.replicate 12 0), cap := Vector.replicate 4 (Vector.replicate 12 0)
          rateInit := 500, rateMin := 0, rateMax := 20000, smoothing := 4, floor := Vector.replicate 12 0, tolerance := 0
          poolThreshold := 0, hold := 15, lockDelay := 10, lockWindow := 5, collectionDelay := 5, haltPolicy := .none } →
    restart = { kind := .restart, time := { day := 0, sec := 0 }, fields := [.enum 0] } →
    rest = { bytes := [], hunting := false } →
    s.coldStart =
      { pending := s.pending, phase := .running, pins := s.pins, valid := true, clean := false
        hli :=
          { rx := [], spacing := false, buffer := [], replies := [], tx := .notice restart true, notices := [restart], mask := 0
            lost := false, lastReply := s.hli.lastReply }
        oc :=
          { state := .unconfigured, remembered := none, openMark := none, lastStart := .cold, summary := none
            totals :=
              { floatsIssued := 0, topUps := 0, counted := 0, unfit := 0, suspectPieces := 0, suspectValue := 0
                varianceSum := 0, varianceCount := 0, handedOver := 0, received := 0, lostBags := 0, lostValue := 0 }
            clock := { day := 0, sec := 0 }, minuteTold := 0, operators := [], profileA := p, profileB := p, active := .a
            deferred := [], deferredOver := false }
        st :=
          { denoms := []
            slots := Vector.replicate 12
              { working := 0, reserve := 0, unfit := 0, dispatch := 0, suspect := 0, low := 0, high := 0 }
            held := [], reservations := [] }
        tps :=
          { tills := Vector.replicate 96
              { enabled := false, cls := 0, state := .closed, pending := none, floatTotal := 0, takings := 0, kPrev := 0
                pickups := 0, collected := 0, exposure := 0, rate := 0, tLast := 0, onList := false, bags := []
                variance := none, reduced := false }
            due := [] }
        br := { bags := Vector.replicate 256 none, priority := [], ordinary := [], drops := [] }
        csc :=
          { stations := Vector.replicate 4
              { enabled := true, state := .offline .start, job := none, flow := .go, intake := [], silence := none }
            jobs := [] }
        slc := s.coldStart.slc
        chu :=
          { consignments := Vector.replicate 8 { state := .free, outbound := [], inbound := [], schedule := none }
            handover := none }
        receivers := { stations := Vector.replicate 4 rest, dock := rest, slotReader := rest }
        sent := s.sent, choices := s.choices } ∧
    s.coldStart.slc.door = s.pins.door ∧ s.coldStart.slc.bolt = s.pins.bolt ∧ s.coldStart.slc.slot = s.pins.slot ∧
    s.coldStart.slc.shutter = .closed ∧ s.coldStart.slc.alarm = .released ∧ s.coldStart.slc.forced = false ∧
    s.coldStart.slc.boltFault = false ∧ s.coldStart.slc.pendingCollection = false ∧
    (s.pins.door = .shut → s.pins.bolt = .thrown → s.coldStart.slc.state = .locked ∧ s.coldStart.slc.boltDrive = .throw ∧
      s.coldStart.slc.opening = none ∧ s.coldStart.slc.timer = none) ∧
    (s.pins.door = .shut → s.pins.bolt = .retracted → s.coldStart.slc.state = .securing ∧
      s.coldStart.slc.boltDrive = .throw ∧ s.coldStart.slc.timer = some 10 ∧
      s.coldStart.slc.opening.map Opening.source = some .start) ∧
    (s.pins.door = .opened → s.coldStart.slc.state = .opened ∧ s.coldStart.slc.boltDrive = .retract ∧
      s.coldStart.slc.timer = none ∧ s.coldStart.slc.opening.map Opening.source = some .start))

/-- The minute event and the evaluation of a till (R54, R56). The event acts in TRADING and CLOSING alone, and evaluates the
tills 1 to 96 in order. An evaluation of an OPEN till puts it on the list at or above T, with the minute and the projection
and PICKUP_DUE, takes it off at or below T − H with PICKUP_CLEAR, and otherwise, in the band between them too, leaves
everything as it stands; of any other till, nothing. So after the event the list holds the entries it held, less those of the
tills taken off, and behind them those of the tills that joined, in order of number. That a MINUTE EVENT command acts though
the trading minute has reached no new value is log entry 6 (DESIGN CHOICE). -/
def Obligations.MinuteEventEvaluatesEveryTill : Prop :=
  (∀ s : State, s.phase = .running → s.oc.state = .trading ∨ s.oc.state = .closing →
    Leaves .minuteEvent s (s.minuteEvent s.minute)) ∧
  (∀ s : State, s.phase = .running → s.oc.state ≠ .trading → s.oc.state ≠ .closing → Leaves .minuteEvent s s) ∧
  (∀ (s : State) (n m : Nat), 1 ≤ n → n ≤ 96 → (s.till n).state = .opened →
    ((s.minuteEvent m).till n = { s.till n with onList := ((s.minuteEvent m).till n).onList }) ∧
    (((s.minuteEvent m).till n).onList = false →
      (s.till n).projection m < classOf s.profile.threshold (s.till n).cls ∨
      ((s.till n).onList = true ∧ (s.till n).projection m ≤
        classOf s.profile.threshold (s.till n).cls - classOf s.profile.hysteresis (s.till n).cls)) ∧
    (((s.minuteEvent m).till n).onList = true →
      classOf s.profile.threshold (s.till n).cls ≤ (s.till n).projection m ∨
      classOf s.profile.threshold (s.till n).cls - classOf s.profile.hysteresis (s.till n).cls <
        (s.till n).projection m)) ∧
  (∀ (s : State) (n m : Nat), (s.till n).state ≠ .opened → (s.minuteEvent m).till n = s.till n) ∧
  (∀ (s : State) (m : Nat), s.minuteEvent m =
    (List.range' 1 96).foldl (fun u n => u.evaluate n m) { s with oc := { s.oc with minuteTold := m } }) ∧
  (∀ (s : State) (n m : Nat), (s.till n).state ≠ .opened → s.evaluate n m = s) ∧
  (∀ (s u : State) (n m T H ep : Nat), (s.till n).state = .opened → T = classOf s.profile.threshold (s.till n).cls →
    H = classOf s.profile.hysteresis (s.till n).cls → ep = (s.till n).projection m →
    ((s.till n).onList = false → T ≤ ep → u = s.setTill n { s.till n with onList := true } →
      s.evaluate n m =
        ({ u with tps := { u.tps with due := s.tps.due ++ [({ till := n, minute := m, projection := ep } : DueEntry)] } } :
          State).place .pickupDue [.byte n, .byte (s.till n).cls, .word m, .amount ep, .word T]) ∧
    ((s.till n).onList = true → ep ≤ T - H → u = s.setTill n { s.till n with onList := false } →
      s.evaluate n m =
        ({ u with tps := { u.tps with due := s.tps.due.filter fun e => decide (e.till ≠ n) } } : State).place .pickupClear
          [.byte n, .word m, .amount ep]) ∧
    ((s.till n).onList = false → ep < T → s.evaluate n m = s) ∧
    ((s.till n).onList = true → T - H < ep → s.evaluate n m = s)) ∧
  (∀ (s : State) (m : Nat) (joins leaves : Nat → Bool),
    (∀ n, joins n = true ↔ (s.till n).state = .opened ∧ (s.till n).onList = false ∧
      classOf s.profile.threshold (s.till n).cls ≤ (s.till n).projection m) →
    (∀ n, leaves n = true ↔ (s.till n).state = .opened ∧ (s.till n).onList = true ∧
      (s.till n).projection m ≤
        classOf s.profile.threshold (s.till n).cls - classOf s.profile.hysteresis (s.till n).cls) →
    (∀ n, 1 ≤ n → n ≤ 96 → ((s.minuteEvent m).till n).onList = (joins n || (s.till n).onList && !leaves n)) ∧
    (s.minuteEvent m).tps.due =
      s.tps.due.filter (fun e => !(decide (1 ≤ e.till ∧ e.till ≤ 96) && leaves e.till)) ++
        ((List.range' 1 96).filter joins).map fun n =>
          ({ till := n, minute := m, projection := (s.till n).projection m } : DueEntry))

/-! ### Tills and floats -/

/-- SET TILL (R44). That the till number and the enabled mark are tested with the class is log entry 41 (DESIGN CHOICE). -/
def Obligations.SetTill : Prop :=
  (∀ (n cls e : Nat) (s : State), s.Open → 1 ≤ n → n ≤ 96 → cls ≤ 3 → e ≤ 1 →
    ((s.till n).state = .closed ∨ (s.till n).state = .reconciled →
      Accepts (.setTill n cls e) s (s.setTill n { s.till n with cls := cls, enabled := decide (e = 1) })
        [.byte n, .byte cls, .mark (decide (e = 1)), (s.till n).state.code]) ∧
    ((s.till n).state = .composed ∨ (s.till n).state = .opened ∨ (s.till n).state = .draining →
      Refuses (.setTill n cls e) s .state [])) ∧
  (∀ (n cls e : Nat) (s : State), s.Open → n = 0 ∨ 96 < n ∨ 3 < cls ∨ 1 < e → Refuses (.setTill n cls e) s .range []) ∧
  (∀ (n cls e : Nat) (s : State), s.phase = .running → s.oc.state = .held → Refuses (.setTill n cls e) s .held [])

/-- A composition. Its inputs are the configured slots in order from slot 1, each with its piece value, the target and cap of
the class and its availability (R67, R68). The first phase takes of each slot the least of target, availability and the whole
pieces that the remainder holds (R69), the second the least of the room under the cap, the availability left and the whole
pieces of the remainder (R70), each lowering the remainder by their value; the second is entered with a remainder alone. The
arithmetic at the end of each slot of each phase (R71): the value composed is A − R, no slot passes its cap, its availability,
or, in the first phase, its target. The order of a template (t at most c) is R36's. -/
def Obligations.CompositionArithmetic : Prop :=
  (∀ (s : State) (cls : Nat), s.floatInputs cls = ((List.range s.st.denoms.length).map (· + 1)).map fun d =>
    { slot := d, value := (s.st.denoms[d - 1]?.map Denom.value).getD 0, target := classSlotOf s.profile.target cls d
      cap := classSlotOf s.profile.cap cls d, avail := s.availability d }) ∧
  (∀ (is : List FloatInput) (a k r n : Nat) (i : FloatInput), is[k]? = some i → r = (phase1 (is.take k) a).2 →
    n = min (min i.target i.avail) (r / i.value) →
    (phase1 is a).1[k]? = some n ∧ (phase1 (is.take (k + 1)) a).2 = r - n * i.value ∧ (phase1 [] a).2 = a) ∧
  (∀ (is : List FloatInput) (ns : List Nat) (r0 k r m e : Nat) (i : FloatInput), is[k]? = some i → ns[k]? = some m →
    r = (phase2 (is.take k) (ns.take k) r0).2 → e = min (min (i.cap - m) (i.avail - m)) (r / i.value) →
    (phase2 is ns r0).1[k]? = some (m + e) ∧ (phase2 (is.take (k + 1)) (ns.take (k + 1)) r0).2 = r - e * i.value ∧
    (phase2 [] [] r0).2 = r0) ∧
  (∀ (is : List FloatInput) (a : Nat),
    compose is a = if (phase1 is a).2 = 0 then phase1 is a else phase2 is (phase1 is a).1 (phase1 is a).2) ∧
  (∀ (is : List FloatInput) (a k : Nat),
    (phase1 is a).1.take k = (phase1 (is.take k) a).1 ∧ (phase1 is a).1.length = is.length ∧
    (phase1 (is.take k) a).2 ≤ a ∧ valueOf (is.take k) (phase1 (is.take k) a).1 = a - (phase1 (is.take k) a).2 ∧
    ∀ p ∈ is.zip (phase1 is a).1, p.2 ≤ p.1.target ∧ p.2 ≤ p.1.avail) ∧
  (∀ (is : List FloatInput) (ns : List Nat) (r k : Nat), ns.length = is.length →
    (∀ p ∈ is.zip ns, p.2 ≤ p.1.cap ∧ p.2 ≤ p.1.avail) →
    (phase2 is ns r).1.take k = (phase2 (is.take k) (ns.take k) r).1 ∧ (phase2 is ns r).1.length = is.length ∧
    (phase2 (is.take k) (ns.take k) r).2 ≤ r ∧
    valueOf (is.take k) (phase2 (is.take k) (ns.take k) r).1 + (phase2 (is.take k) (ns.take k) r).2 =
      valueOf (is.take k) (ns.take k) + r ∧
    ∀ p ∈ is.zip (phase2 is ns r).1, p.2 ≤ p.1.cap ∧ p.2 ≤ p.1.avail) ∧
  (∀ (is : List FloatInput) (a : Nat), (∀ i ∈ is, i.target ≤ i.cap) →
    (compose is a).2 ≤ a ∧ valueOf is (compose is a).1 = a - (compose is a).2 ∧
    (∀ p ∈ is.zip (compose is a).1, p.2 ≤ p.1.cap ∧ p.2 ≤ p.1.avail) ∧
    ((∀ i ∈ is, i.cap ≤ 999 ∧ i.value ≤ 1000000) →
      ∀ p ∈ is.zip (compose is a).1, p.2 ≤ 999 ∧ p.2 * p.1.value ≤ 999 * 1000000 ∧ p.2 * p.1.value ≤ a))

/-- OPEN TILL that reaches the composer (R45, R72 to R75, R77): the outcome by the remainder R, the mark and the float minimum
M; the reservation of an exact or REDUCED outcome, one line for each configured slot with pieces, from WORKING, in slot order,
and the pending composition; the refusal of a SHORT one, with its amounts and, for each configured slot, the pieces and the
availability; and the tests before the composer: a field out of range, an office that is not TRADING, a till that is not to be
opened. The widths of the amounts and of the line values are log entry 22, the codes of the reasons log entry 12, the SHORT list
without a count byte log entry 32, the remainder without a presence byte log entry 38 (DESIGN CHOICE); that the variance of a
till opened from RECONCILED stands is log entry 39 (DEDUCED); that the till number and the reduce-allowed mark are tested with
A, before the office state, is log entry 41 (DESIGN CHOICE). -/
def Obligations.OpenTillComposesAFloat : Prop :=
  (∀ (n a reduce m rest : Nat) (is : List FloatInput) (ns : List Nat) (ls : List ContentLine) (figures : List Datum) (s : State),
    s.Trades → 1 ≤ n → n ≤ 96 → 1 ≤ a →
    a ≤ 10000000 → reduce ≤ 1 → (s.till n).state = .closed ∨ (s.till n).state = .reconciled → (s.till n).enabled = true →
    s.floatInputs (s.till n).cls = is → compose is a = (ns, rest) → classOf s.profile.floatMin (s.till n).cls = m →
    ls = ((List.range s.st.denoms.length).filterMap fun k =>
      if 0 < ns.getD k 0 then some { slot := k + 1, pieces := ns.getD k 0, source := .working } else none) →
    figures = [.amount a, .amount rest, .amount (a - rest), .amount m] ++
      ((List.range s.st.denoms.length).flatMap fun k => [.pieces (ns.getD k 0), .pieces (s.availability (k + 1))]) →
    (16 ≤ s.st.reservations.length → Refuses (.openTill n a reduce) s .full []) ∧
    (s.st.reservations.length < 16 → rest = 0 ∨ (reduce = 1 ∧ m ≤ a - rest ∧ 1 ≤ a - rest) →
      Accepts (.openTill n a reduce) s
        (({ s with st := { s.st with reservations := s.st.reservations ++
            [{ owner := .till n, lines := ls, created := s.oc.clock
               expiry := some (s.oc.clock.later (s.profile.hold * 60)) }] } } : State).setTill n
          { s.till n with
            state := .composed
            pending := some { prior := (s.till n).state, requested := a, composed := a - rest,
                              reduced := decide (rest ≠ 0) } })
        ([.byte n, .enum 1, .amount a, .amount (a - rest), .mark (decide (rest ≠ 0))] ++
          counted (ls.map fun l => [.byte l.slot, .pieces l.pieces, .amount (l.pieces * s.pieceValue l.slot)]) ++
          [.time (s.oc.clock.later (s.profile.hold * 60))] ++ if rest = 0 then [] else [.amount rest])) ∧
    (s.st.reservations.length < 16 → rest ≠ 0 → reduce = 0 →
      Refuses (.openTill n a reduce) s .short (.enum 0 :: figures)) ∧
    (s.st.reservations.length < 16 → rest ≠ 0 → reduce = 1 → 1 ≤ a - rest → a - rest < m →
      Refuses (.openTill n a reduce) s .short (.enum 1 :: figures)) ∧
    (s.st.reservations.length < 16 → rest ≠ 0 → reduce = 1 → a - rest = 0 →
      Refuses (.openTill n a reduce) s .short (.enum 2 :: figures))) ∧
  (∀ (n a reduce : Nat) (s : State), s.Open → n = 0 ∨ 96 < n ∨ a = 0 ∨ 10000000 < a ∨ 1 < reduce →
    Refuses (.openTill n a reduce) s .range []) ∧
  (∀ (n a reduce : Nat) (s : State), s.Open → 1 ≤ n → n ≤ 96 → 1 ≤ a → a ≤ 10000000 → reduce ≤ 1 →
    s.oc.state ≠ .trading ∨ (s.till n).enabled = false ∨ (s.till n).state = .composed ∨ (s.till n).state = .opened ∨
      (s.till n).state = .draining →
    Refuses (.openTill n a reduce) s .state [])

/-- CONFIRM FLOAT (R8, R46): the float debit, the new session, the passes of R6 for the slots lowered. The lines debited are worth
the amount composed (R76). The 8 bytes of the float total in the reply, and the 4 of the rate and of t_last, are log entry 22, that
the till number is tested before the state log entry 41 (DESIGN CHOICE). -/
def Obligations.ConfirmFloatStartsASession : Prop :=
  (∀ (n : Nat) (c : Composition) (ls : List ContentLine) (s : State), s.Open → 1 ≤ n → n ≤ 96 →
    (s.till n).state = .composed → (s.till n).pending = some c →
    (s.reservationOf (.till n)).map Reservation.lines = some ls →
    Accepts (.confirmFloat n) s
      (s.settle (((s.floatDebit n).setTill n
        { s.till n with
          floatTotal := c.composed, takings := 0, kPrev := 0, pickups := 0, collected := 0, rate := s.profile.rateInit * 16
          tLast := s.minute, exposure := min c.composed amountLimit, reduced := c.reduced, bags := [], variance := none
          onList := false, pending := none, state := .opened }).retryPasses (loweredBy ls)))
      [.wide c.composed, .word (s.profile.rateInit * 16), .word s.minute] ∧
    (s.floatDebit n).st.reservations = s.st.reservations.filter (fun r => decide (r.owner ≠ .till n)) ∧
    (s.floatDebit n).oc.totals = { s.oc.totals with floatsIssued := s.oc.totals.floatsIssued + s.linesValue ls } ∧
    (s.floatDebit n).st.slots = (s.takeLines ls).st.slots ∧
    (s.FloatLaw → s.linesValue ls = c.composed) ∧
    ((∀ l ∈ ls, l.source = .working) → ∀ d, 1 ≤ d → d ≤ 12 →
      ((s.floatDebit n).slot d).working = (s.slot d).working - heldBy ls .working d ∧
      ((s.floatDebit n).slot d).reserve = (s.slot d).reserve ∧ ((s.floatDebit n).slot d).unfit = (s.slot d).unfit ∧
      ((s.floatDebit n).slot d).dispatch = (s.slot d).dispatch)) ∧
  (∀ (n : Nat) (s : State), s.Open → n = 0 ∨ 96 < n → Refuses (.confirmFloat n) s .range []) ∧
  (∀ (n : Nat) (s : State), s.Open → 1 ≤ n → n ≤ 96 → (s.till n).state ≠ .composed →
    Refuses (.confirmFloat n) s .state [])

/-- CANCEL FLOAT and the expiry of a float (R15, R47, R48): the reservation goes, the till returns to its prior state, no
count changes; an expiry that finds no reservation does nothing. That a FLOAT EXPIRY command acts on a float reservation whose
expiry is not reached is log entry 6, that CANCEL FLOAT tests the till number before the state log entry 41 (DESIGN CHOICE). -/
def Obligations.FloatIsWithdrawn : Prop :=
  (∀ (n : Nat) (c : Composition) (s : State), s.Open → 1 ≤ n → n ≤ 96 → (s.till n).state = .composed →
    (s.till n).pending = some c →
    Accepts (.cancelFloat n) s
      (s.settle ((s.freeReservation (.till n)).setTill n { s.till n with state := c.prior, pending := none }))
      [c.prior.code]) ∧
  (∀ (n : Nat) (s : State), s.Open → n = 0 ∨ 96 < n → Refuses (.cancelFloat n) s .range []) ∧
  (∀ (n : Nat) (s : State), s.Open → 1 ≤ n → n ≤ 96 → (s.till n).state ≠ .composed →
    Refuses (.cancelFloat n) s .state []) ∧
  (∀ (n : Nat) (c : Composition) (r : Reservation) (s : State), s.phase = .running → (s.till n).state = .composed →
    (s.till n).pending = some c → s.reservationOf (.till n) = some r →
    Leaves (.floatExpiry n) s
      (((s.freeReservation (.till n)).setTill n { s.till n with state := c.prior, pending := none }).place .floatExpired
        [.byte n, .amount c.requested, .amount c.composed])) ∧
  (∀ (n : Nat) (s : State), s.phase = .running → s.reservationOf (.till n) = none → Leaves (.floatExpiry n) s s)

/-- TOP UP (R9, R49): every line leaves WORKING, the float total and the exposure grow, the till is evaluated, the passes of
R6 follow; a short line refuses it, naming the lowest such slot. The availability of a slot is WORKING less the floor less the
pieces reserved from WORKING by every record, the limits of a transfer and of an assembly are the count less the pieces
reserved from it, each not below 0 (R16, Table 1.4); and lines taken leave their source areas slot by slot, a changed WORKING
meeting the watermarks (R17). That the till is evaluated before those passes is log entry 34 (DESIGN CHOICE), the reply's
figures before them log entry 24 (DEDUCED); the 8 bytes of the value of the lines and of the float total are log entry 22
(DESIGN CHOICE), and that the till number is tested with the lines, before the office state, log entry 41 (DESIGN CHOICE). -/
def Obligations.TopUp : Prop :=
  (∀ (n : Nat) (ls : List StockLine) (s : State), s.Open → 1 ≤ n → n ≤ 96 → s.stockLinesOk ls = true →
    (s.oc.state = .trading → (s.till n).state = .opened →
      ((∀ d ∈ s.namedSlots ls, lineFor ls d ≤ s.availability d) →
        ∃ v w : State,
          v = ((s.takeLines (workingLines ls)).tellOc fun q => { q with topUps := q.topUps + s.stockLinesValue ls }).setTill n
            { s.till n with
              floatTotal := (s.till n).floatTotal + s.stockLinesValue ls
              exposure := min ((s.till n).floatTotal + s.stockLinesValue ls + (s.till n).takings - (s.till n).pickups)
                amountLimit } ∧
          w = v.evaluate n s.minute ∧
          Accepts (.topUp n ls) s (s.settle (w.retryPasses (loweredBy (workingLines ls))))
            ([.wide (s.stockLinesValue ls), .wide ((s.till n).floatTotal + s.stockLinesValue ls)] ++ w.exposureFields n)) ∧
      (∀ d ∈ s.namedSlots ls, s.availability d < lineFor ls d →
        (∀ c ∈ s.namedSlots ls, c < d → lineFor ls c ≤ s.availability c) →
        Refuses (.topUp n ls) s .short [.byte d, .pieces (s.availability d)])) ∧
    (s.oc.state ≠ .trading ∨ (s.till n).state ≠ .opened → Refuses (.topUp n ls) s .state [])) ∧
  (∀ (n : Nat) (ls : List StockLine) (s : State), s.Open → n = 0 ∨ 96 < n ∨ s.stockLinesOk ls = false →
    Refuses (.topUp n ls) s .range []) ∧
  (∀ (ls : List ContentLine) (a : Source) (d : Nat),
    heldBy ls a d = ((ls.filter fun l => decide (l.slot = d ∧ l.source = a)).map ContentLine.pieces).sum) ∧
  (∀ (s : State) (d : Nat) (reserved : Source → Nat),
    (∀ a, reserved a = (s.st.reservations.map fun r => heldBy r.lines a d).sum) →
    s.availability d = (s.slot d).working - (nth 0 s.profile.floor d + reserved .working) ∧
    s.assemblyLimit .working d = (s.slot d).working - reserved .working ∧
    s.assemblyLimit .unfit d = (s.slot d).unfit - reserved .unfit) ∧
  (∀ (ls : List StockLine), workingLines ls = ls.map fun l => { slot := l.slot, pieces := l.pieces, source := .working }) ∧
  (∀ (ls : List ContentLine) (s u : State), (ls.map fun l => (l.slot, l.source)).Nodup → u = s.takeLines ls →
    u = { s with st := { s.st with slots := u.st.slots } } ∧
    ∀ (d w : Nat), 1 ≤ d → d ≤ 12 → w = (s.slot d).working - heldBy ls .working d →
      u.slot d = { s.slot d with
        working := w, unfit := (s.slot d).unfit - heldBy ls .unfit d
        low := if w = (s.slot d).working then (s.slot d).low else min (s.slot d).low w
        high := if w = (s.slot d).working then (s.slot d).high else max (s.slot d).high w })

/-- REPORT TAKINGS (R50 to R53): the rate update, K, the exposure, the evaluation. That the till number is tested with the figure
is log entry 41 (DESIGN CHOICE). -/
def Obligations.ReportTakings : Prop :=
  (∀ (n k : Nat) (s : State), s.Open → 1 ≤ n → n ≤ 96 → k ≤ 2147483647 →
    ((s.till n).state = .opened →
      ∃ v w : State,
        v = s.setTill n
          { (s.till n).rateUpdate s.profile k s.minute with
            takings := k, exposure := min ((s.till n).floatTotal + k - (s.till n).pickups) 2147483647 } ∧
        w = v.evaluate n s.minute ∧
        Accepts (.reportTakings n k) s w
          ([.amount k, .word (v.till n).rate, .word (v.till n).tLast] ++ w.exposureFields n)) ∧
    ((s.till n).state ≠ .opened → Refuses (.reportTakings n k) s .state [])) ∧
  (∀ (n k : Nat) (s : State), s.Open → n = 0 ∨ 96 < n ∨ 2147483647 < k → Refuses (.reportTakings n k) s .range []) ∧
  (∀ (p : Profile) (t : Till) (k m obs moved : Nat), t.tLast < m → t.kPrev ≤ k →
    obs = min ((k - t.kPrev) * 16 / (m - t.tLast)) (p.rateMax * 16) →
    moved = (if t.rate ≤ obs then t.rate + (obs - t.rate) * p.smoothing / 16
      else t.rate - (t.rate - obs) * p.smoothing / 16) →
    t.rateUpdate p k m =
      { t with
        rate := if moved < p.rateMin * 16 then p.rateMin * 16 else if p.rateMax * 16 < moved then p.rateMax * 16 else moved
        kPrev := k, tLast := m } ∧
    (p.rateMin ≤ p.rateMax →
      p.rateMin * 16 ≤ (t.rateUpdate p k m).rate ∧ (t.rateUpdate p k m).rate ≤ p.rateMax * 16)) ∧
  (∀ (p : Profile) (t : Till) (k m : Nat), m ≤ t.tLast ∨ k < t.kPrev → t.rateUpdate p k m = t) ∧
  (∀ (t : Till) (m : Nat), t.projection m = min (t.exposure + t.rate * (min (m - t.tLast) 240) / 16) 2147483647)

/-- DECLARE PICKUP and CLOSE TILL (R57, R59, R90, R100): the declared bag in the lowest FREE general slot, the till's session
and exposure, and, at the close, the drain: the till's QUEUED bags leave ORDINARY for the tail of PRIORITY, which becomes their
class, each with its bypass count kept, and every other bag stays as it stands. At the close, custody of the bags is a premise
(R99): the slot of the new bag then stands in no queue. The 8 bytes of the declared pickups in the two replies, the 4 of the
exposure and of the projection and the 1 of the number of bags are log entry 22, that the till number is tested with the seal and
the amounts, before the states, log entry 41 (DESIGN CHOICE). -/
def Obligations.PickupsAndDrains : Prop :=
  (∀ (n q a : Nat) (s : State), s.Open →
    (n = 0 ∨ 96 < n ∨ q = 0 ∨ sealLimit < q ∨ a = 0 ∨ amountLimit < a → Refuses (.declarePickup n q a) s .range []) ∧
    (1 ≤ n → n ≤ 96 → 1 ≤ q → q ≤ sealLimit → 1 ≤ a → a ≤ amountLimit →
      s.oc.state ≠ .trading ∨ (s.till n).state ≠ .opened → Refuses (.declarePickup n q a) s .state [])) ∧
  (∀ (n q a k : Nat) (s : State), s.Open →
    (n = 0 ∨ 96 < n ∨ q = 0 ∨ sealLimit < q ∨ amountLimit < a ∨ amountLimit < k →
      Refuses (.closeTill n q a k) s .range []) ∧
    (1 ≤ n → n ≤ 96 → 1 ≤ q → q ≤ sealLimit → a ≤ amountLimit → k ≤ amountLimit →
      (s.oc.state ≠ .trading ∧ s.oc.state ≠ .closing) ∨ (s.till n).state ≠ .opened →
      Refuses (.closeTill n q a k) s .state [])) ∧
  (∀ (n q a b : Nat) (s : State), s.Trades → 1 ≤ n → n ≤ 96 → 1 ≤ q → q ≤ sealLimit → 1 ≤ a → a ≤ amountLimit →
    (s.till n).state = .opened → (s.till n).bags.length < 23 →
    (s.sealLive q = true → Refuses (.declarePickup n q a) s .duplicate []) ∧
    (s.sealLive q = false → s.freeGeneral = none → Refuses (.declarePickup n q a) s .full []) ∧
    (s.sealLive q = false → s.freeGeneral = some b →
      ∃ w : State,
        w = ((s.setBag b (some { newBag .pickup .declared s.oc.clock with
            sealNo := some q, till := some n, declared := some a, attempts := some 0 })).setTill n
          { s.till n with
            bags := (s.till n).bags ++ [b], pickups := (s.till n).pickups + a
            exposure := min ((s.till n).floatTotal + (s.till n).takings - ((s.till n).pickups + a)) amountLimit }).evaluate n
              s.minute ∧
        Accepts (.declarePickup n q a) s (s.settle w)
          ([.byte b, .wide ((s.till n).pickups + a)] ++ w.exposureFields n))) ∧
  (∀ (n q a : Nat) (s : State), s.Trades → 1 ≤ n → n ≤ 96 → 1 ≤ q → q ≤ sealLimit → 1 ≤ a → a ≤ amountLimit →
    (s.till n).state = .opened → 23 ≤ (s.till n).bags.length → Refuses (.declarePickup n q a) s .full []) ∧
  (∀ (n q a k b : Nat) (s : State), s.phase = .running → s.oc.state = .trading ∨ s.oc.state = .closing → 1 ≤ n → n ≤ 96 →
    1 ≤ q → q ≤ sealLimit → a ≤ amountLimit → k ≤ amountLimit → (s.till n).state = .opened →
    (s.sealLive q = true → Refuses (.closeTill n q a k) s .duplicate []) ∧
    (s.sealLive q = false → s.freeGeneral = none → Refuses (.closeTill n q a k) s .full []) ∧
    (s.CustodyLaw → s.sealLive q = false → s.freeGeneral = some b →
      ∃ u : State,
        Accepts (.closeTill n q a k) s (s.settle u)
          [.byte b, .amount k, .wide ((s.till n).pickups + a),
            .amount (min ((s.till n).floatTotal + k - ((s.till n).pickups + a)) amountLimit),
            .count (u.bagsOutstanding (u.till n))] ∧
        u.till n =
          { s.till n with
            takings := k, bags := (s.till n).bags ++ [b], pickups := (s.till n).pickups + a
            exposure := min ((s.till n).floatTotal + k - ((s.till n).pickups + a)) amountLimit
            onList := false, state := .draining } ∧
        (∀ m, m ≠ n → u.till m = s.till m) ∧
        u.tps.due = s.tps.due.filter (fun e => decide (e.till ≠ n)) ∧
        u.bag b = some { newBag .drain .declared s.oc.clock with
          sealNo := some q, till := some n, declared := some a, attempts := some 0 } ∧
        u.br.priority = s.br.priority ++ s.br.ordinary.filter (fun c => decide ((s.bag c).bind Bag.till = some n)) ∧
        u.br.ordinary = s.br.ordinary.filter (fun c => !decide ((s.bag c).bind Bag.till = some n)) ∧
        (∀ c, c ≠ b → u.bag c = (s.bag c).map fun y =>
          if c ∈ s.br.ordinary ∧ y.till = some n then { y with queueClass := some .priority } else y) ∧
        u.st = s.st ∧ u.oc = s.oc ∧ u.csc = s.csc ∧ u.slc = s.slc ∧ u.chu = s.chu ∧ u.hli = s.hli))

/-! ### Bags and the deposit slot -/

/-- DECLARE OFFICE BAG (R91). -/
def Obligations.DeclareOfficeBag : Prop :=
  (∀ (q v : Nat) (s : State), s.phase = .running → s.oc.state = .held → Refuses (.declareOfficeBag q v) s .held []) ∧
  (∀ (q v : Nat) (s : State), s.Open → q = 0 ∨ sealLimit < q ∨ amountLimit < v → Refuses (.declareOfficeBag q v) s .range []) ∧
  (∀ (q v : Nat) (s : State), s.Open → 1 ≤ q → q ≤ sealLimit → v ≤ amountLimit →
    (s.oc.state = .unconfigured → Refuses (.declareOfficeBag q v) s .state []) ∧
    (s.oc.state ≠ .unconfigured → s.sealLive q = true → Refuses (.declareOfficeBag q v) s .duplicate []) ∧
    (s.oc.state ≠ .unconfigured → s.sealLive q = false → (∀ b < 240, s.bag b ≠ none) →
      Refuses (.declareOfficeBag q v) s .full []) ∧
    (s.oc.state ≠ .unconfigured → s.sealLive q = false →
      ∀ b < 240, s.bag b = none → (∀ c < b, s.bag c ≠ none) →
        Accepts (.declareOfficeBag q v) s
          (s.settle (s.setBag b (some { newBag .office .declared s.oc.clock with
            sealNo := some q, till := none, declared := some v, attempts := some 0 }))) [.byte b]))

/-- ADOPT BAG and WRITE OFF BAG (R33, R55, R58, R61, R95 to R97), with the tests of each in their order: the fields, the orphan,
its seal settled, a live seal, the till's state and room, a FREE general slot; the slot, the supervisor, a record, its state. An
office adoption: the orphan slot is freed, the bag is QUEUED at the tail of ORDINARY in the lowest FREE general slot. A pickup:
the till takes it too, and an OPEN one is evaluated, with its on-list mark in the reply. A write-off: the bag is LOST, and the
session of its till is tested. A freed orphan slot, where none was FREE, decides the shutter. That kind byte 2 names OFFICE,
that a till given with it is not read, and that PICKUP without a till is RANGE, is log entry 17 (DESIGN CHOICE); the fields of
the replies are log entry 12 (DESIGN CHOICE), the position before the arbiter's pass log entry 33 (DESIGN CHOICE); that
PICKUP_DUE or PICKUP_CLEAR comes before SHUTTER is log entry 34 (DESIGN CHOICE), that TILL_RECONCILED ends with the reduced flag
log entry 8 (DEDUCED); the presence byte of the slot in the reply to WRITE OFF BAG is log entry 38 (DESIGN CHOICE). -/
def Obligations.OrphansAdoptedAndBagsWrittenOff : Prop :=
  (∀ (b kind v r : Nat) (till : Option Nat) (named : Prop) (s : State), s.Open →
    (named ↔ kind = 2 ∨ kind = 0 ∧ ∃ n, till = some n ∧ 1 ≤ n ∧ n ≤ 96) →
    (b < 240 ∨ 255 < b ∨ amountLimit < v ∨ sealLimit < r ∨ ¬ named → Refuses (.adoptBag b kind till v r) s .range []) ∧
    (240 ≤ b → b ≤ 255 → v ≤ amountLimit → r ≤ sealLimit → named →
      ((s.bag b).map Bag.state ≠ some .orphan → Refuses (.adoptBag b kind till v r) s .absent []) ∧
      (∀ x, s.bag b = some x → x.state = .orphan →
        (x.sealNo = none ∧ r = 0) ∨ (∃ q, x.sealNo = some q ∧ r ≠ 0 ∧ r ≠ q) →
        Refuses (.adoptBag b kind till v r) s .range []))) ∧
  (∀ (b g v q r : Nat) (till : Option Nat) (x : Bag) (s : State), s.Open → 240 ≤ b → b ≤ 255 → v ≤ amountLimit →
    r ≤ sealLimit → s.bag b = some x → x.state = .orphan →
    (x.sealNo = none ∧ r ≠ 0 ∧ q = r ∨ x.sealNo = some q ∧ (r = 0 ∨ r = q)) →
    (s.sealLive q = true → Refuses (.adoptBag b 2 till v r) s .duplicate []) ∧
    (s.sealLive q = false → s.freeGeneral = none → Refuses (.adoptBag b 2 till v r) s .full []) ∧
    (s.sealLive q = false → s.freeGeneral = some g →
      ∃ u : State,
        u = { ((s.setBag g (some { newBag .office .queued s.oc.clock with
              sealNo := some q, declared := some v, attempts := some 0, queueClass := some .ordinary
              bypass := some 0 })).setBag b none) with
              br := { (((s.setBag g (some { newBag .office .queued s.oc.clock with
                sealNo := some q, declared := some v, attempts := some 0, queueClass := some .ordinary
                bypass := some 0 })).setBag b none)).br with ordinary := s.br.ordinary ++ [g] } } ∧
        Accepts (.adoptBag b 2 till v r) s (s.settle (if s.freeOrphans = [] then u.decideShutter else u))
          [.byte g, .count (u.position g)]) ∧
    (∀ n, 1 ≤ n → n ≤ 96 → s.sealLive q = true → Refuses (.adoptBag b 0 (some n) v r) s .duplicate []) ∧
    (∀ n, 1 ≤ n → n ≤ 96 → s.sealLive q = false →
      ((s.till n).state = .opened ∧ 23 ≤ (s.till n).bags.length) ∨
        ((s.till n).state = .draining ∧ 24 ≤ (s.till n).bags.length) →
      Refuses (.adoptBag b 0 (some n) v r) s .full []) ∧
    (∀ n, 1 ≤ n → n ≤ 96 → s.sealLive q = false → s.freeGeneral = none →
      ((s.till n).state = .opened ∧ (s.till n).bags.length < 23) ∨
        ((s.till n).state = .draining ∧ (s.till n).bags.length < 24) →
      Refuses (.adoptBag b 0 (some n) v r) s .full []) ∧
    (∀ n, 1 ≤ n → n ≤ 96 → (s.till n).state ≠ .opened → (s.till n).state ≠ .draining → s.sealLive q = false →
      Refuses (.adoptBag b 0 (some n) v r) s .state []) ∧
    (∀ n, 1 ≤ n → n ≤ 96 → s.sealLive q = false → s.freeGeneral = some g →
      ((s.till n).state = .opened ∧ (s.till n).bags.length < 23 ∨
        (s.till n).state = .draining ∧ (s.till n).bags.length < 24) →
      ∃ v1 u : State,
        Accepts (.adoptBag b 0 (some n) v r) s (s.settle (if s.freeOrphans = [] then u.decideShutter else u))
          ([.byte g, .count (u.position g)] ++ if (s.till n).state = .opened then [.mark (u.till n).onList] else []) ∧
        v1.till n = { s.till n with
          bags := (s.till n).bags ++ [g], pickups := (s.till n).pickups + v
          exposure := min ((s.till n).floatTotal + (s.till n).takings - ((s.till n).pickups + v)) amountLimit } ∧
        u = (v1.evaluate n s.minute).setBag b none ∧
        u.bag b = none ∧
        u.bag g = some { newBag .pickup .queued s.oc.clock with
          sealNo := some q, till := some n, declared := some v, attempts := some 0, bypass := some 0
          queueClass := some (if (s.till n).state = .draining then .priority else .ordinary) } ∧
        u.br.priority = s.br.priority ++ (if (s.till n).state = .draining then [g] else []) ∧
        u.br.ordinary = s.br.ordinary ++ (if (s.till n).state = .draining then [] else [g]) ∧
        (u.till n).bags = (s.till n).bags ++ [g] ∧ (u.till n).pickups = (s.till n).pickups + v ∧
        (u.till n).exposure =
          min ((s.till n).floatTotal + (s.till n).takings - ((s.till n).pickups + v)) amountLimit)) ∧
  (∀ (b op : Nat) (s : State), s.Open →
    (255 < b → Refuses (.writeOffBag b op) s .range []) ∧
    (b ≤ 255 → s.isSupervisor op = false → Refuses (.writeOffBag b op) s .role []) ∧
    (b ≤ 255 → s.isSupervisor op = true → s.bag b = none → Refuses (.writeOffBag b op) s .absent [])) ∧
  (∀ (b op : Nat) (x : Bag) (u : State) (s : State), s.Open → b ≤ 255 → s.bag b = some x →
    u = ((s.setBag b (some { x with state := .lost, changed := s.oc.clock })).tellOc fun q =>
      { q with lostBags := q.lostBags + 1, lostValue := q.lostValue + x.declared.getD 0 }) →
    (s.isSupervisor op = true → x.state = .expected →
      x.consignment.map (fun c => (s.consignment c).state) = some .inHandover → Refuses (.writeOffBag b op) s .busy []) ∧
    (s.isSupervisor op = true →
      x.state = .declared ∨
        (x.state = .expected ∧ x.consignment.map (fun c => (s.consignment c).state) ≠ some .inHandover) →
      (x.till = none → Accepts (.writeOffBag b op) s (s.settle u) [.present true, .byte b, x.state.code]) ∧
      (∀ n, x.till = some n →
        Accepts (.writeOffBag b op) s (s.settle (u.reconcile n)) [.present true, .byte b, x.state.code])) ∧
    (s.isSupervisor op = true → x.state ≠ .declared → x.state ≠ .expected → x.state ≠ .orphan →
      Refuses (.writeOffBag b op) s .state [])) ∧
  (∀ (n : Nat) (v : Int) (t : Till) (s : State), t = s.till n →
    v = (t.collected : Int) - ((t.floatTotal : Int) + (t.takings : Int)) →
    (t.state ≠ .draining ∨ s.bagsOutstanding t ≠ 0 → s.reconcile n = s) ∧
    (t.state = .draining → s.bagsOutstanding t = 0 →
      s.reconcile n =
        ((s.setTill n { t with state := .reconciled, variance := some v }).tellOc fun q =>
          { q with varianceSum := q.varianceSum + v, varianceCount := q.varianceCount + 1 }).place .tillReconciled
            [.byte n, .wide t.floatTotal, .amount t.takings, .wide t.pickups, .wide t.collected, .wide v, .mark t.reduced])) ∧
  (∀ (b op : Nat) (x : Bag) (s : State), s.Open → b ≤ 255 → s.bag b = some x → x.state = .orphan →
    s.isSupervisor op = true →
    (∀ (g : Nat) (u : State), s.freeGeneral = some g →
      u = (((s.setBag g (some { newBag .unknown .lost s.oc.clock with sealNo := x.sealNo.filter fun n => !s.sealLive n })).tellOc
        fun q => { q with lostBags := q.lostBags + 1 }).setBag b none) →
      Accepts (.writeOffBag b op) s (s.settle (if s.freeOrphans = [] then u.decideShutter else u))
        [.present true, .byte g, x.state.code]) ∧
    (∀ u : State, s.freeGeneral = none →
      u = ((s.tellOc fun q => { q with lostBags := q.lostBags + 1 }).setBag b none) →
      Accepts (.writeOffBag b op) s (s.settle (if s.freeOrphans = [] then u.decideShutter else u))
        [.present false, x.state.code]))

/-- RECOUNT BAG (R98). That the reply gives the position before the arbiter's pass of the same operation is log entry 33 (DESIGN
CHOICE). -/
def Obligations.RecountBag : Prop :=
  (∀ (b : Nat) (s : State), s.phase = .running → s.oc.state = .held → Refuses (.recountBag b) s .held []) ∧
  (∀ (b : Nat) (s : State), s.Open → 255 < b → Refuses (.recountBag b) s .range []) ∧
  (∀ (b : Nat) (s : State), s.Open → b ≤ 255 → s.bag b = none → Refuses (.recountBag b) s .absent []) ∧
  (∀ (b : Nat) (x : Bag) (s : State), s.Open → b ≤ 255 → s.bag b = some x → x.state ≠ .countHeld →
    Refuses (.recountBag b) s .state []) ∧
  (∀ (b : Nat) (x : Bag) (c : QueueClass) (s : State), s.Open → b ≤ 255 → s.bag b = some x → x.state = .countHeld →
    c = (if x.till.any (fun n => decide ((s.till n).state = .draining)) then .priority else .ordinary) →
    ∃ u : State,
      Accepts (.recountBag b) s (s.settle u) [.count (u.position b)] ∧
      u.bag b = some { x with
        state := .queued, attempts := some 0, bypass := some 0, queueClass := some c, changed := s.oc.clock } ∧
      u.br.priority = (if c = .priority then b :: s.br.priority else s.br.priority) ∧
      u.br.ordinary = (if c = .ordinary then b :: s.br.ordinary else s.br.ordinary) ∧
      u = { s with br := { s.br with bags := u.br.bags, priority := u.br.priority, ordinary := u.br.ordinary } })

/-- Drops (R92 to R95): a SEAL READ, or the end of the oldest wait, resolves the oldest pending drop: into a QUEUED bag where
the seal is that of a DECLARED one, with BAG_DROPPED and the bag's place in the queue, the head being 1 (R93), else into an
orphan in the lowest FREE orphan slot; the last such slot decides the shutter, and a full reserve leaves a notice alone. That
a READ WAIT EXPIRY command acts though the wait is not over is log entry 6 (DESIGN CHOICE); when a frame that is too long
fails its check is log entry 28 (DESIGN CHOICE), the operand that gives the bytes of the line log entry 37, the presence bytes
of BAG_DROPPED, ORPHAN_BAG and SHUTTER log entry 38, the count byte of the place log entry 22 (DESIGN CHOICE). -/
def Obligations.DropsAreResolved : Prop :=
  (∀ (q : Nat) (s : State), s.Hears .slotReader → q < 4294967296 → s.br.drops = [] → Leaves (.slotSealRead q .sound) s s) ∧
  (∀ (q : Nat) (bs : List Byte) (s : State), s.phase = .running → (s.receiver .slotReader).bytes = [] →
    FailsCheck .slotReader bs →
    exec (.slotSealRead q (.bytes bs)) s = .next (s.setReceiver .slotReader Receiver.hunt).startTx) ∧
  (∀ (q b : Nat) (x : Bag) (d : PendingDrop) (ds : List PendingDrop) (s : State), s.Hears .slotReader → q < 4294967296 →
    s.br.drops = d :: ds → q ≠ 0 → s.liveSeal q = some (b, x) → x.state = .declared →
    ∃ u : State,
      Leaves (.slotSealRead q .sound) s u ∧ u.br.drops = ds ∧
      u.bag b = some { x with
        state := .queued, changed := s.oc.clock, queueClass := some (s.entryClass x.till), bypass := some 0 } ∧
      u.br.priority = s.br.priority ++ (if s.entryClass x.till = .priority then [b] else []) ∧
      u.br.ordinary = s.br.ordinary ++ (if s.entryClass x.till = .ordinary then [b] else []) ∧
      u = { s with br := { s.br with bags := u.br.bags, priority := u.br.priority, ordinary := u.br.ordinary, drops := ds }
                   hli := u.hli } ∧
      (∀ c, c ≠ b → u.bag c = s.bag c) ∧
      (∀ (place : Nat) (v : State),
        place = (if s.entryClass x.till = .priority then s.br.priority.length + 1
          else s.br.priority.length + s.br.ordinary.length + 1) →
        v = s.place .bagDropped ([.byte b, .sealNo q, x.kind.code] ++ Machine.optional (x.till.map fun n => [.byte n]) ++
          [.enum (if s.entryClass x.till = .priority then 0 else 1), .count place]) →
        b ∉ s.br.priority → b ∉ s.br.ordinary → u.hli = v.hli)) ∧
  (∀ (q o o2 : Nat) (d : PendingDrop) (ds : List PendingDrop) (os : List Nat) (s : State), s.Hears .slotReader →
    q < 4294967296 → s.br.drops = d :: ds → q ≠ 0 → s.liveSeal q = none → s.freeOrphans = o :: o2 :: os →
    Leaves (.slotSealRead q .sound) s
      ((({ s with br := { s.br with drops := ds } } : State).setBag o
        (some { newBag .unknown .orphan s.oc.clock with sealNo := some q })).place .orphanBag
          [.present true, .byte o, .sealNo q, .enum 0, .present false, .count (os.length + 1)])) ∧
  (∀ (o o2 : Nat) (d : PendingDrop) (ds : List PendingDrop) (os : List Nat) (s : State), s.phase = .running →
    s.br.drops = d :: ds → s.freeOrphans = o :: o2 :: os →
    Leaves .readWaitExpiry s
      ((({ s with br := { s.br with drops := ds } } : State).setBag o
        (some (newBag .unknown .orphan s.oc.clock))).place .orphanBag
          [.present true, .byte o, .sealNo 0, .enum 2, .present false, .count (os.length + 1)])) ∧
  (∀ s : State, s.phase = .running → s.br.drops = [] → Leaves .readWaitExpiry s s) ∧
  (∀ (q : Nat) (d : PendingDrop) (ds : List PendingDrop) (u s : State), s.br.drops = d :: ds →
    u = { s with br := { s.br with drops := ds } } →
    (s.Hears .slotReader → q < 4294967296 → q ≠ 0 → s.liveSeal q = none →
      Leaves (.slotSealRead q .sound) s (u.orphanDrop (some q) .unknownSeal)) ∧
    (∀ b x, s.Hears .slotReader → q < 4294967296 → q ≠ 0 → s.liveSeal q = some (b, x) → x.state ≠ .declared →
      Leaves (.slotSealRead q .sound) s (u.orphanDrop (some q) (.stateMismatch b x.state))) ∧
    (s.Hears .slotReader → Leaves (.slotSealRead 0 .sound) s (u.orphanDrop none .noRead)) ∧
    (s.phase = .running → Leaves .readWaitExpiry s (u.orphanDrop none .noRead))) ∧
  (∀ (q : Option Nat) (r : OrphanReason) (why : List Datum) (s : State),
    why = (match r with
      | .unknownSeal => [.enum 0, .present false]
      | .stateMismatch b st => [.enum 1, .present true, .byte b, st.code]
      | .noRead => [.enum 2, .present false]) →
    (∀ o os, s.freeOrphans = o :: os → ∀ u : State,
      u = ((s.setBag o (some { newBag .unknown .orphan s.oc.clock with sealNo := q })).place .orphanBag
        ([.present true, .byte o, .sealNo (q.getD 0)] ++ why ++ [.count os.length])) →
      s.orphanDrop q r = if os = [] then u.decideShutter else u) ∧
    (s.freeOrphans = [] →
      s.orphanDrop q r = s.place .orphanBag ([.present false, .sealNo (q.getD 0)] ++ why ++ [.count 0]))) ∧
  (∀ s : State, s.phase = .running →
    (s.oc.state = .trading ∨ s.oc.state = .closing → s.freeOrphans ≠ [] →
      s.decideShutter =
        if s.slc.shutter = .opened then s
        else ({ s with slc := { s.slc with shutter := .opened } } : State).place .shutter
          [ShutterDrive.opened.code, .present false]) ∧
    (s.oc.state ≠ .trading → s.oc.state ≠ .closing →
      s.decideShutter =
        if s.slc.shutter = .closed then s
        else ({ s with slc := { s.slc with shutter := .closed } } : State).place .shutter
          [ShutterDrive.closed.code, .present true, .enum 0]) ∧
    (s.oc.state = .trading ∨ s.oc.state = .closing → s.freeOrphans = [] →
      s.decideShutter =
        if s.slc.shutter = .closed then s
        else ({ s with slc := { s.slc with shutter := .closed } } : State).place .shutter
          [ShutterDrive.closed.code, .present true, .enum 1]))

/-! ### Counting stations -/

/-- ENABLE STATION, DISABLE STATION and CLEAR STATION (R124 to R126); the hold of a job ends at all its HELD stations, whose
queued records are then applied, the lower-numbered station first (R116, R124). That the station number is tested before the
station's state is log entry 41, that the replies give the state without its reason log entry 12 (DESIGN CHOICE). The reply to
the last two gives the station's state after the arbiter's pass (log entry 13); a clear of a pooled station whose partner is
held for its own reason places no STATION (log entry 19, DEDUCED); the presence bytes of STATION are log entry 38, the order
of the two STATION notices of a pool log entry 34 (DESIGN CHOICE). -/
def Obligations.StationRequests : Prop :=
  (∀ (n : Nat) (s : State), s.Open → n = 0 ∨ 4 < n →
    Refuses (.enableStation n) s .range [] ∧ Refuses (.disableStation n) s .range [] ∧
    Refuses (.clearStation n) s .range []) ∧
  (∀ (n : Nat) (s : State), s.Open → 1 ≤ n → n ≤ 4 →
    ((s.station n).enabled = true → Accepts (.enableStation n) s s [.mark true, (s.station n).state.code]) ∧
    ((s.station n).enabled = false →
      Accepts (.enableStation n) s (s.setStation n { s.station n with enabled := true, state := .offline .start })
        [.mark true, .enum 0])) ∧
  (∀ (n : Nat) (w : State) (s : State), s.Open → 1 ≤ n → n ≤ 4 →
    (∀ r, (s.station n).state = .offline r →
      w = s.settle (s.setStation n { s.station n with enabled := false, state := .offline .disabled }) →
      Accepts (.disableStation n) s w [(w.station n).state.code]) ∧
    ((∀ r, (s.station n).state ≠ .offline r) → (s.station n).job = none →
      w = s.settle ((s.setStation n
        { enabled := false, state := .offline .disabled, job := none, flow := .go, intake := [], silence := none }).place
          .station [.byte n, .enum 0, .present true, .enum 2, .present false, .present false]) →
      Accepts (.disableStation n) s w [(w.station n).state.code]) ∧
    (∀ k, (∀ r, (s.station n).state ≠ .offline r) → (s.station n).job = some k →
      w = s.settle ((s.setStation n { s.station n with enabled := false }).abortJob n .disabled) →
      Accepts (.disableStation n) s w [(w.station n).state.code])) ∧
  (∀ (n : Nat) (s : State), s.Open → 1 ≤ n → n ≤ 4 →
    (∀ r, (s.station n).state ≠ .held r) ∨ (s.station n).state = .held .pool → Refuses (.clearStation n) s .state []) ∧
  (∀ (n : Nat) (r : HoldReason) (w : State) (s : State), s.Open → 1 ≤ n → n ≤ 4 → (s.station n).state = .held r → r ≠ .pool →
    (s.station n).job = none →
    w = s.settle ((s.setStation n
      { s.station n with state := .idle, job := none, flow := .go, intake := [], silence := none }).place
        .station [.byte n, .enum 1, .present false, .present false, .present false]) →
    Accepts (.clearStation n) s w [(w.station n).state.code]) ∧
  (∀ (n p : Nat) (r q : HoldReason) (k : StationJob) (w : State) (s : State), s.Open → 1 ≤ n → n ≤ 4 →
    (s.station n).state = .held r → r = .jam ∨ r = .suspect ∨ r = .doubt → (s.station n).job = some k →
    k.partner = some p → (s.station p).state = .held q → q = .jam ∨ q = .suspect ∨ q = .doubt →
    w = s.settle (s.setStation n { s.station n with state := .held .pool }) →
    Accepts (.clearStation n) s w [(w.station n).state.code]) ∧
  (∀ (n : Nat) (r : HoldReason) (k : StationJob) (w : State) (s : State), s.Open → 1 ≤ n → n ≤ 4 →
    (s.station n).state = .held r → r = .jam ∨ r = .suspect ∨ r = .doubt → (s.station n).job = some k → k.partner = none →
    k.complete = false → s.jobStations k.bag = [n] → (s.station n).intake = [] →
    w = s.settle ((s.setStation n
      { s.station n with state := .counting, job := some { k with resumeAssigned := false }, silence := some 30 }).place
        .station [.byte n, .enum 3, .present false, .present true, .byte k.bag, .present false]) →
    Accepts (.clearStation n) s w [(w.station n).state.code]) ∧
  (∀ (n : Nat) (r : HoldReason) (k : StationJob) (w : State) (s : State), s.Open → 1 ≤ n → n ≤ 4 →
    (s.station n).state = .held r → r = .jam ∨ r = .suspect ∨ r = .doubt → (s.station n).job = some k →
    k.partner = none ∨ (∃ p, k.partner = some p ∧ (s.station p).state ≠ .held .jam ∧ (s.station p).state ≠ .held .suspect ∧
      (s.station p).state ≠ .held .doubt) →
    w = s.settle (s.endHolds k.bag) → Accepts (.clearStation n) s w [(w.station n).state.code]) ∧
  (∀ (b : Nat) (s : State), (∀ m, m ∈ s.jobStations b ↔ 1 ≤ m ∧ m ≤ 4 ∧ (s.station m).job.map StationJob.bag = some b) ∧
    (s.jobStations b).Pairwise (· < ·)) ∧
  (∀ (b i : Nat) (u s : State), s.jobStations b = [i] → u = s.endHold i →
    s.endHolds b = State.drain (u.station i).intake.length i u) ∧
  (∀ (b i j : Nat) (u v s : State), s.jobStations b = [i, j] → u = (s.endHold i).endHold j →
    v = State.drain (u.station i).intake.length i u → s.endHolds b = State.drain (v.station j).intake.length j v) ∧
  (∀ (n e : Nat) (r : HoldReason) (k : StationJob) (s : State), 1 ≤ n → n ≤ 4 → (s.station n).state = .held r →
    (s.station n).job = some k → e = (if r = .pool ∧ k.resumeAssigned = true then 2 else 3) →
    s.endHold n =
      (s.setStation n { s.station n with
        state := if r = .pool ∧ k.resumeAssigned = true then .assigned else .counting
        job := some { k with resumeAssigned := false }, silence := if k.complete = true then none else some 30 }).place .station
          [.byte n, .enum e, .present false, .present true, .byte k.bag, .present false]) ∧
  (∀ (n : Nat) (s : State), (∀ r, (s.station n).state ≠ .held r) → s.endHold n = s) ∧
  (∀ (f n : Nat) (s : State),
    ((s.station n).intake = [] → State.drain f n s = s) ∧
    ((s.station n).state ≠ .assigned → (s.station n).state ≠ .counting → State.drain f n s = s) ∧
    ∀ r rs, (s.station n).intake = r :: rs → (s.station n).state = .assigned ∨ (s.station n).state = .counting →
      State.drain (f + 1) n s = State.drain f n ((s.setStation n { s.station n with intake := rs }).applyRecord n r))

/-- READY (R109) and SEAL READ (R115) at a station that is OFFLINE, and at one that is ASSIGNED, where any other record aborts the
job with SEQUENCE. The presence bytes of STATION are log entry 38 (DESIGN CHOICE). -/
def Obligations.ReadyAndSealRead : Prop :=
  (∀ (l : StationLine) (r : OfflineReason) (s : State), s.Hears (.station l) → (s.station l.num).state = .offline r →
    (s.station l.num).job = none →
    ((s.station l.num).enabled = true →
      Leaves (.stationReady l .sound) s
        ((s.setStation l.num { s.station l.num with state := .idle, flow := .go, intake := [] }).place .station
          [.byte l.num, .enum 1, .present false, .present false, .present false])) ∧
    ((s.station l.num).enabled = false → Leaves (.stationReady l .sound) s s)) ∧
  (∀ (l : StationLine) (s : State), s.Hears (.station l) → (∀ r, (s.station l.num).state ≠ .offline r) →
    (s.station l.num).job = none → Leaves (.stationReady l .sound) s s) ∧
  (∀ (l : StationLine) (q : Nat) (s : State), s.Hears (.station l) → q < 4294967296 → (s.station l.num).job = none →
    Leaves (.stationSealRead l q .sound) s s) ∧
  (∀ (l : StationLine) (q : Nat) (k : StationJob) (j : CountJob) (s : State), s.Hears (.station l) → q < 4294967296 →
    (s.station l.num).state = .assigned → (s.station l.num).job = some k → s.stationJob l.num = some j →
    (s.station l.num).intake = [] →
    Leaves (.stationReady l .sound) s s ∧
    (q ≠ 0 → (s.bag k.bag).bind Bag.sealNo = some q →
      Leaves (.stationSealRead l q .sound) s
        (s.setStation l.num { s.station l.num with
          state := .counting, silence := (s.station l.num).silence.map fun _ => 30 })) ∧
    (q = 0 ∨ (s.bag k.bag).bind Bag.sealNo ≠ some q →
      Leaves (.stationSealRead l q .sound) s ((s.heard l).abortJob l.num .sequence)) ∧
    (∀ r : StationRecord, WellFormed (stationCommand l r) = true → r ≠ .ready → (∀ p, r ≠ .sealRead p) →
      Leaves (stationCommand l r) s ((s.heard l).abortJob l.num .sequence)))

/-- The records of a count, applied on arrival at a station that is COUNTING (R116, R119 to R122, Table 6.3): the tally, the
doubt mark, the halts that the job's policy asks for, and the aborts with reason SEQUENCE, among them READY, SEAL READ and a
count that would pass 16,777,215. A record that arrives at a HELD station is queued, behind 16 it aborts the job with OVERRUN
(R116, R118); at a station whose portion is complete it aborts the job with SEQUENCE, READY alone being ignored (R109, R116,
R130). -/
def Obligations.RecordsAreCounted : Prop :=
  (∀ (l : StationLine) (k : StationJob) (j : CountJob) (s : State), s.CountsRecords l k j →
    (∀ d n c, d < 256 → s.slotOk d = true → 1 ≤ n → n ≤ 100 → c ≤ 1 → (nth default (j.part l.num).tally d).good + n ≤ pieceLimit →
      (nth default (j.part l.num).tally d).unfit + n ≤ pieceLimit →
      (nth default (j.part l.num).tally d).suspect ≤ pieceLimit →
      Leaves (.strap l d n c .sound) s
        ((s.heard l).changePart k.bag l.num fun q =>
          { q with
            tally := addCount (j.part l.num).tally d fun x =>
              if c = 0 then { x with good := x.good + n } else { x with unfit := x.unfit + n }
            doubt := (j.part l.num).doubt })) ∧
    (∀ d n c, d < 256 → n < 256 → c ≤ 1 → s.slotOk d = false ∨ n = 0 ∨ 100 < n →
      Leaves (.strap l d n c .sound) s ((s.heard l).abortJob l.num .sequence)) ∧
    (∀ d n c, d < 256 → n < 256 → 1 < c → c < 256 →
      exec (.strap l d n c .sound) s = .next (s.setReceiver (.station l) Receiver.hunt).startTx) ∧
    (∀ d u, d < 256 → s.slotOk d = true → (nth default (j.part l.num).tally d).good ≤ pieceLimit →
      (nth default (j.part l.num).tally d).unfit ≤ pieceLimit →
      (nth default (j.part l.num).tally d).suspect + 1 ≤ pieceLimit →
      u = ((s.heard l).changePart k.bag l.num fun q =>
        { q with
          tally := addCount (j.part l.num).tally d fun x => { x with suspect := x.suspect + 1 }
          doubt := (j.part l.num).doubt }) →
      Leaves (.suspect l d .sound) s (if j.policy = .none then u else u.halt l.num .suspect)) ∧
    (∀ d u, d < 256 → s.slotOk d = true → (j.part l.num).doubt = none →
      u = ((s.heard l).changePart k.bag l.num fun q => { q with doubt := some d }) →
      Leaves (.doubt l d .sound) s (if j.policy = .suspectAndDoubt then u.halt l.num .doubt else u)) ∧
    (∀ d, d < 256 → s.slotOk d = false ∨ (j.part l.num).doubt ≠ none →
      Leaves (.doubt l d .sound) s ((s.heard l).abortJob l.num .sequence)) ∧
    (∀ d u v, (j.part l.num).doubt = some d → (nth default (j.part l.num).tally d).good + 1 ≤ pieceLimit →
      (nth default (j.part l.num).tally d).unfit ≤ pieceLimit →
      (nth default (j.part l.num).tally d).suspect + 1 ≤ pieceLimit →
      u = ((s.heard l).changePart k.bag l.num fun q =>
        { q with tally := addCount (j.part l.num).tally d fun x => { x with good := x.good + 1 }, doubt := none }) →
      v = ((s.heard l).changePart k.bag l.num fun q =>
        { q with tally := addCount (j.part l.num).tally d fun x => { x with suspect := x.suspect + 1 }, doubt := none }) →
      Leaves (.doubtCleared l 0 .sound) s u ∧
      Leaves (.doubtCleared l 1 .sound) s (if j.policy = .none then v else v.halt l.num .suspect)) ∧
    ((j.part l.num).doubt = none → ∀ v ≤ 1,
      Leaves (.doubtCleared l v .sound) s ((s.heard l).abortJob l.num .sequence)) ∧
    Leaves (.jam l .sound) s ((s.heard l).halt l.num .jam) ∧
    Leaves (.stationReady l .sound) s ((s.heard l).abortJob l.num .sequence) ∧
    (∀ q < 4294967296, Leaves (.stationSealRead l q .sound) s ((s.heard l).abortJob l.num .sequence)) ∧
    (∀ d n c, d < 256 → s.slotOk d = true → 1 ≤ n → n ≤ 100 → c ≤ 1 →
      pieceLimit < (if c = 0 then (nth default (j.part l.num).tally d).good
        else (nth default (j.part l.num).tally d).unfit) + n →
      Leaves (.strap l d n c .sound) s ((s.heard l).abortJob l.num .sequence)) ∧
    (∀ d, d < 256 → s.slotOk d = true → pieceLimit < (nth default (j.part l.num).tally d).suspect + 1 →
      Leaves (.suspect l d .sound) s ((s.heard l).abortJob l.num .sequence)) ∧
    (∀ d, (j.part l.num).doubt = some d → pieceLimit < (nth default (j.part l.num).tally d).good + 1 →
      Leaves (.doubtCleared l 0 .sound) s ((s.heard l).abortJob l.num .sequence)) ∧
    (∀ d, (j.part l.num).doubt = some d → pieceLimit < (nth default (j.part l.num).tally d).suspect + 1 →
      Leaves (.doubtCleared l 1 .sound) s ((s.heard l).abortJob l.num .sequence))) ∧
  (∀ (l : StationLine) (h : HoldReason) (k : StationJob) (r : StationRecord) (s : State), s.Hears (.station l) →
    WellFormed (stationCommand l r) = true → (s.station l.num).state = .held h → (s.station l.num).job = some k →
    k.complete = false →
    ((s.station l.num).intake.length < 16 →
      Leaves (stationCommand l r) s
        (s.setStation l.num { s.station l.num with
          intake := (s.station l.num).intake ++ [r], silence := (s.station l.num).silence.map fun _ => 30 })) ∧
    (16 ≤ (s.station l.num).intake.length → Leaves (stationCommand l r) s (s.abortJob l.num .overrun))) ∧
  (∀ (l : StationLine) (k : StationJob) (j : CountJob) (r : StationRecord) (s : State), s.Hears (.station l) →
    WellFormed (stationCommand l r) = true → (s.station l.num).state = .counting → (s.station l.num).job = some k →
    k.complete = true → s.stationJob l.num = some j → (s.station l.num).intake = [] →
    (r = .ready → Leaves (stationCommand l r) s s) ∧
    (r ≠ .ready → Leaves (stationCommand l r) s ((s.heard l).abortJob l.num .sequence)))

/-- A halt holds the station, with PAUSE where its flow is GO and STATION, and then its partner for POOL in the same way
(R117, R122, R123); an abort ends the job at every station of it, the one at fault by Table 6.4, and returns its bag, or parks
it in COUNT_HELD at the second attempt, with COUNT_HELD and then STATION for each station of the job (R101, R117, R127). The
presence bytes of the notices are log entry 38, the order of the STATION notices of two stations log entry 34 (DESIGN
CHOICE). -/
def Obligations.HaltsAndAborts : Prop :=
  (∀ (n : Nat) (r : HoldReason) (k : StationJob) (s : State), 1 ≤ n → n ≤ 4 → (s.station n).job = some k →
    (s.station n).flow = .go → k.partner = none →
    s.halt n r =
      ((s.setStation n { s.station n with state := .held r, silence := none, flow := .paused }).send
        (.toStation n .pause)).place .station
          ([.byte n, .enum 4, .present true, r.code, .present true, .byte k.bag, .present false])) ∧
  (∀ (n : Nat) (r : HoldReason) (k : StationJob) (s : State), 1 ≤ n → n ≤ 4 → (s.station n).job = some k →
    (∀ u : State, u = s.setStation n { s.station n with state := .held r, silence := none, flow := .paused } →
      s.hold n r =
        (if (s.station n).flow = .go then u.send (.toStation n .pause) else u).place .station
          [.byte n, .enum 4, .present true, r.code, .present true, .byte k.bag, .present false]) ∧
    (k.partner = none → s.halt n r = s.hold n r) ∧
    (∀ p, k.partner = some p → 1 ≤ p → p ≤ 4 → p ≠ n →
      (∀ q, (s.station p).job = some q → q.complete = false →
        (s.station p).state = .counting ∨ (s.station p).state = .assigned →
        s.halt n r =
          ((s.hold n r).setStation p { s.station p with
            job := some { q with resumeAssigned := decide ((s.station p).state = .assigned) } }).hold p .pool) ∧
      ((s.station p).job = none ∨ (∃ q, (s.station p).job = some q ∧ q.complete = true) ∨
        ((s.station p).state ≠ .counting ∧ (s.station p).state ≠ .assigned) → s.halt n r = s.hold n r))) ∧
  (∀ (n p : Nat) (r : HoldReason) (k q : StationJob) (s : State), 1 ≤ n → n ≤ 4 → 1 ≤ p → p ≤ 4 → p ≠ n →
    (s.station n).job = some k → k.partner = some p → (s.station p).job = some q →
    ((s.station p).state = .counting ∨ (s.station p).state = .assigned → q.complete = false →
      ((s.halt n r).station p).state = .held .pool ∧ ((s.halt n r).station p).silence = none ∧
      ((s.halt n r).station p).flow = .paused ∧ ((s.halt n r).station p).intake = (s.station p).intake) ∧
    ((s.station p).state ≠ .counting → (s.station p).state ≠ .assigned → (s.halt n r).station p = s.station p) ∧
    (q.complete = true → (s.halt n r).station p = s.station p)) ∧
  (∀ (n : Nat) (k : StationJob) (x : Bag) (r : AbortReason) (u : State) (s : State), s.phase = .running →
    (s.station n).job = some k → s.bag k.bag = some x → u = s.abortJob n r →
    u = { s with hli := u.hli, csc := u.csc, br := u.br, sent := u.sent } ∧
    u.sent = s.sent ++ (s.jobStations k.bag).map (fun m => SentRecord.toStation m .abort) ∧
    u.csc.jobs = s.csc.jobs.filter (fun q => decide (q.bag ≠ k.bag)) ∧
    (∀ m, 1 ≤ m → m ≤ 4 →
      u.station m =
        if (s.station m).job.map StationJob.bag = some k.bag then
          { s.station m with
            state := if m = n then r.faultState else (s.station m).state.afterAbort
            job := none, flow := .go, intake := [], silence := none }
        else s.station m) ∧
    (x.attempts.getD 0 = 0 →
      u.bag k.bag = some { x with
        attempts := some 1, state := .queued, changed := s.oc.clock, queueClass := some (s.entryClass x.till)
        bypass := some 0 } ∧
      u.br.priority = (if s.entryClass x.till = .priority then k.bag :: s.br.priority else s.br.priority) ∧
      u.br.ordinary = (if s.entryClass x.till = .ordinary then k.bag :: s.br.ordinary else s.br.ordinary)) ∧
    (1 ≤ x.attempts.getD 0 →
      u.bag k.bag = some { x with
        attempts := some (x.attempts.getD 0 + 1), state := .countHeld, changed := s.oc.clock } ∧
      u.br.priority = s.br.priority ∧ u.br.ordinary = s.br.ordinary) ∧
    (∀ (w : State) (after : Nat → StationState),
      w = (if x.attempts.getD 0 = 0 then s
        else s.place .countHeld ([.byte k.bag, .sealNo (x.sealNo.getD 0), x.kind.code] ++
          Machine.optional (x.till.map fun p => [.byte p]) ++ [r.code])) →
      (∀ m, after m = if m = n then r.faultState else (s.station m).state.afterAbort) →
      u.hli =
        (((List.range' 1 4).filter fun m => decide ((s.station m).job.map StationJob.bag = some k.bag)).foldl
          (fun v m => v.place .station
            ([.byte m, (after m).code] ++ (after m).reason ++ [.present false, .present true, r.code])) w).hli)) ∧
  (AbortReason.faultState .sequence = .held .sequence ∧ AbortReason.faultState .overrun = .held .overrun ∧
    AbortReason.faultState .link = .offline .link ∧ AbortReason.faultState .mismatch = .idle ∧
    AbortReason.faultState .disabled = .offline .disabled ∧ AbortReason.faultState .restart = .offline .start) ∧
  (∀ x : StationState, x.afterAbort = if x = .held .jam ∨ x = .held .suspect ∨ x = .held .doubt then x else .idle)

/-- END (R129 to R131) and the link silence (R110): equal totals complete the portion, and the last portion completes the job;
unequal ones abort it. The completion: the counted tally, each figure the sum over the portions of the job, the unfit pieces
of ROLL slots counted as good (R130, R131), is written into the bag with its value, variance and flag; COUNT_DONE, VARIANCE
where the flag is set and SUSPECT_FOUND where there are suspect pieces are placed, in that order (R131, R182); then the tally
is credited (R5, R131: State.credit, of which CreditIsTakenWhole speaks), and the stations of the job become IDLE. Nothing
else changes. That a sum above 16,777,215 is kept exact is log entry 36 (DESIGN CHOICE); the 8 bytes of the suspect pieces in
total are log entry 32, the layout of the counted lists log entry 23, the presence byte of the till log entry 38 (DESIGN
CHOICE). That a LINK SILENCE EXPIRY command aborts the job whatever seconds the running timer still has is log entry 6 (DESIGN
CHOICE). -/
def Obligations.EndAndLinkSilence : Prop :=
  (∀ (l : StationLine) (k : StationJob) (j : CountJob) (t : Vector Counts 12) (s : State), s.CountsRecords l k j →
    t.toList.all Counts.fits = true →
    ((j.part l.num).doubt ≠ none → Leaves (.endTotals l t .sound) s ((s.heard l).abortJob l.num .sequence)) ∧
    ((j.part l.num).doubt = none → t ≠ (j.part l.num).tally →
      Leaves (.endTotals l t .sound) s ((s.heard l).abortJob l.num .mismatch)) ∧
    (∀ (p : Nat), (j.part l.num).doubt = none → t = (j.part l.num).tally → k.partner = some p → p ≠ l.num →
      (∀ q, (s.station p).job = some q → q.complete = false) →
      Leaves (.endTotals l t .sound) s
        (s.setStation l.num { s.station l.num with silence := none, job := some { k with complete := true } })) ∧
    (∀ (x : Bag) (r : CountResult) (done n1 n2 n3 : State) (suspects : List Nat),
      (j.part l.num).doubt = none → t = (j.part l.num).tally →
      k.partner = none ∨ (∃ p q, k.partner = some p ∧ p ≠ l.num ∧ (s.station p).job = some q ∧ q.complete = true) →
      s.bag k.bag = some x → r = s.countResult j (x.declared.getD 0) →
      suspects = s.slots.map (fun d => (nth default r.tally d).suspect) →
      done = s.setStation l.num { s.station l.num with silence := none, job := some { k with complete := true } } →
      n1 = (done.setBag k.bag (some { x with result := some r })).place .countDone
        ([.byte k.bag, .sealNo (x.sealNo.getD 0), x.kind.code] ++ tillField x.till ++
          [.amount (x.declared.getD 0), .wide r.value, .wide r.variance, .mark r.flag, .wide suspects.sum] ++
          counted (j.parts.map fun p => [.byte p.station])) →
      n2 = (if r.flag = true then n1.place .variance ([.byte k.bag] ++ tillField x.till ++
        [.amount (x.declared.getD 0), .wide r.value, .wide r.variance, .word j.tolerance]) else n1) →
      n3 = (if suspects.sum = 0 then n2
        else n2.place .suspectFound ([.byte k.bag] ++ counted (suspects.map fun n => [.pieces n]))) →
      (∀ d, 1 ≤ d → d ≤ 12 → nth default r.tally d =
        { good := (j.parts.map fun p => (nth default p.tally d).good).sum +
            if s.isRoll d = true then (j.parts.map fun p => (nth default p.tally d).unfit).sum else 0
          unfit := if s.isRoll d = true then 0 else (j.parts.map fun p => (nth default p.tally d).unfit).sum
          suspect := (j.parts.map fun p => (nth default p.tally d).suspect).sum }) ∧
      ∃ u : State,
        Leaves (.endTotals l t .sound) s u ∧ u = { n3.credit k.bag r.tally with csc := u.csc } ∧
        u.csc.jobs = s.csc.jobs.filter (fun q => decide (q.bag ≠ k.bag)) ∧
        (∀ m, 1 ≤ m → m ≤ 4 →
          u.station m =
            if (s.station m).job.map StationJob.bag = some k.bag then
              { s.station m with state := .idle, job := none, flow := .go, intake := [], silence := none }
            else s.station m) ∧
        u.bag k.bag = some { x with
          result := some r, changed := s.oc.clock
          state := if s.creditFailures r.tally = [] then .counted else .creditHeld } ∧
        r.value = s.tallyValue (fun c => c.good + c.unfit) r.tally ∧
        r.variance = (r.value : Int) - (x.declared.getD 0 : Int) ∧
        r.flag = decide (j.tolerance < r.variance.natAbs) ∧
        u.slc = s.slc ∧ u.chu = s.chu ∧ u.pins = s.pins ∧ u.sent = s.sent)) ∧
  (∀ (l : StationLine) (t : Nat) (k : StationJob) (s : State), s.phase = .running → (s.station l.num).silence = some t →
    (s.station l.num).job = some k → Leaves (.linkSilenceExpiry l) s (s.abortJob l.num .link)) ∧
  (∀ (l : StationLine) (s : State), s.phase = .running → (s.station l.num).silence = none →
    Leaves (.linkSilenceExpiry l) s s)

/-! ### The safe lock -/

/-- REQUEST OPENING (R136), under dual control: two different identifiers, both enrolled, one or both as SUPERVISOR; 0 never
passes (R33). The 4 bytes of the two lengths in the reply are log entry 22 (DESIGN CHOICE). The presence bytes of LOCK_STATE and
of the reply are log entry 38 (DESIGN CHOICE). -/
def Obligations.RequestOpening : Prop :=
  (∀ (op1 op2 w : Nat) (s : State), s.phase = .running → s.oc.state = .held → Refuses (.requestOpening op1 op2 w) s .held []) ∧
  (∀ (op1 op2 w : Nat) (s : State), s.Open → w = 0 ∨ 8 < w → Refuses (.requestOpening op1 op2 w) s .range []) ∧
  (∀ (a b : Nat) (s : State), s.OperatorLaw →
    (s.dualControl a b = true ↔
      a ≠ b ∧ ∃ o ∈ s.oc.operators, ∃ p ∈ s.oc.operators,
        o.ident = a ∧ p.ident = b ∧ (o.role = .supervisor ∨ p.role = .supervisor))) ∧
  (∀ (a : Nat) (s : State), s.dualControl 0 a = false ∧ s.dualControl a 0 = false) ∧
  (∀ (op1 op2 w : Nat) (s : State), s.Open → 1 ≤ w → w ≤ 8 →
    (s.dualControl op1 op2 = false → Refuses (.requestOpening op1 op2 w) s .role []) ∧
    (s.dualControl op1 op2 = true → s.slc.state ≠ .locked →
      Refuses (.requestOpening op1 op2 w) s .busy
        (s.slc.state.code :: optional (s.slc.opening.map fun o => [o.source.code]))) ∧
    (∀ (o : Opening), s.dualControl op1 op2 = true → s.slc.state = .locked →
      o = { source := .office, operators := some (op1, op2), windows := w, delayLen := s.profile.lockDelay
            windowLen := s.profile.lockWindow, mark := none } →
      Accepts (.requestOpening op1 op2 w) s
        (s.settle
          (({ s with slc := { s.slc with
              state := .delay, boltDrive := .throw, opening := some o, timer := some (s.profile.lockDelay * 60) } } :
            State).place .lockState
              [.enum 1, .present true, .enum 0, .byte w, .present true,
               .time (s.oc.clock.later (s.profile.lockDelay * 60)), .enum 0]))
        [.enum 0, .present true, .ident op1, .ident op2, .byte w, .word s.profile.lockDelay, .word s.profile.lockWindow,
         .enum 0, .time (s.oc.clock.later (s.profile.lockDelay * 60))]))

/-- CANCEL OPENING (R144): what it does in each lock state, WINDOW with the bolt still drawn, and what it refuses. Where no
opening remains the reply gives 0 windows (log entry 12); the presence bytes of LOCK_STATE are log entry 38 (DESIGN CHOICE), its
cause CANCELLED for SECURING log entry 43 (DEDUCED). -/
def Obligations.CancelOpening : Prop :=
  (∀ (o : Opening) (s : State), s.Open → s.slc.state = .delay → s.slc.opening = some o →
    (o.source = .collection → Refuses .cancelOpening s .busy []) ∧
    (o.source ≠ .collection → o.mark = some .waiting →
      Accepts .cancelOpening s
        (s.settle { s with slc := { s.slc with
          opening := some { o with source := .collection, operators := none, windows := 1 } } }) [.enum 1, .byte 1]) ∧
    (o.source ≠ .collection → o.mark ≠ some .waiting →
      Accepts .cancelOpening s
        (s.settle (({ s with slc := { s.slc with state := .locked, boltDrive := .throw, opening := none, timer := none } } :
          State).place .lockState [.enum 0, .present false, .present false, .enum 7])) [.enum 0, .byte 0])) ∧
  (∀ (o : Opening) (s : State), s.Open → s.slc.state = .window → s.slc.opening = some o → s.slc.bolt = .retracted →
    Accepts .cancelOpening s
      (s.settle (({ s with slc := { s.slc with
          state := .securing, boltDrive := .throw, timer := some 10, opening := some { o with windows := 1, mark := none } } } :
        State).place .lockState
          [.enum 4, .present true, o.source.code, .byte 1, .present true, .time (s.oc.clock.later 10), .enum 7]))
      [.enum 4, .byte 1]) ∧
  (∀ (o : Opening) (s : State), s.Open → s.slc.state = .opened → s.slc.opening = some o →
    Accepts .cancelOpening s (s.settle { s with slc := { s.slc with opening := some { o with windows := 1 } } })
      [.enum 3, .byte 1]) ∧
  (∀ s : State, s.Open → s.slc.state = .locked ∨ s.slc.state = .securing ∨ s.slc.state = .alarm →
    Refuses .cancelOpening s .state []) ∧
  (∀ s : State, s.phase = .running → s.oc.state = .held → Refuses .cancelOpening s .held [])

/-- CLEAR ALARM (R143), by a supervisor: an identifier enrolled as SUPERVISOR, and 0 never (R33). That the reasons of the latch
are sent as two marks is log entry 32, the presence bytes of LOCK_STATE log entry 38, the order of the two sensors in a refusal
log entry 12 (DESIGN CHOICE). -/
def Obligations.ClearAlarm : Prop :=
  (∀ (op : Nat) (s : State), s.phase = .running → s.oc.state = .held → Refuses (.clearAlarm op) s .held []) ∧
  (∀ (op : Nat) (s : State), s.Open → s.isSupervisor op = false → Refuses (.clearAlarm op) s .role []) ∧
  (∀ (op : Nat) (s : State), s.Open → s.isSupervisor op = true →
    (s.slc.state ≠ .alarm → Refuses (.clearAlarm op) s .state []) ∧
    (s.slc.state = .alarm → s.slc.door = .opened ∨ s.slc.bolt = .retracted →
      Refuses (.clearAlarm op) s .state [doorCode s.slc.door, boltCode s.slc.bolt]) ∧
    (s.slc.state = .alarm → s.slc.door = .shut → s.slc.bolt = .thrown →
      Accepts (.clearAlarm op) s
        (s.settle (({ s with slc := { s.slc with
            state := .locked, boltDrive := .throw, opening := none, timer := none
            forced := false, boltFault := false, alarm := .released } } : State).place .lockState
          [.enum 0, .present false, .present false, .enum 9]))
        [.mark s.slc.forced, .mark s.slc.boltFault])) ∧
  (∀ (op : Nat) (s : State), s.OperatorLaw →
    (s.isSupervisor op = true ↔ ∃ o ∈ s.oc.operators, o.ident = op ∧ o.role = .supervisor)) ∧
  (∀ s : State, s.isSupervisor 0 = false) ∧
  (∀ (s : State), s.LockLaw → s.slc.state = .alarm → s.slc.boltDrive = .throw ∧ s.slc.opening = none)

/-- The sense lines and the timers of the lock (R135, R137 to R142, R163): what the door and the bolt do in each lock state,
with and without a collection that waits; the slot, also on a full list of drops (R92); the expiry of the delay, of the window
and of the bolt confirmation; the confirmation with windows left, with a pending collection, and at once where the bolt is
home. That the three expiries act whatever seconds are left is log entry 6 (DESIGN CHOICE), that a sense command at the known
level is no event log entry 30 (DESIGN CHOICE), that the notices of an abandoned handover come before FORCED_DOOR or
BOLT_FAULT log entry 25 (DEDUCED), the presence bytes of the notices log entry 38 (DESIGN CHOICE); that FORCED_DOOR and
BOLT_FAULT give ALARM as the state left, and no source, for an event in ALARM, and the office time as a field, is log entry 42
(DESIGN CHOICE), the cause of a window that a delay of 0 opens at once log entry 43 (DEDUCED). -/
def Obligations.SensesAndTimersMoveTheLock : Prop :=
  (∀ (x : DoorSense) (s : State), s.phase = .running → s.slc.door = x →
    Leaves (.doorSenseChange x) { s with pins := { s.pins with door := x } } { s with pins := { s.pins with door := x } }) ∧
  (∀ (o : Opening) (s v : State), s.phase = .running → s.slc.state = .window → s.slc.opening = some o → s.slc.door = .shut →
    v = { s with pins := { s.pins with door := .opened } } →
    exec (.doorSenseChange .opened) s = .next
      (v.settle (({ v with slc := { s.slc with
          door := .opened, state := .opened, boltDrive := .retract, timer := none } } : State).place .lockState
        [.enum 3, .present true, o.source.code, .byte o.windows, .present false, .enum 3])).startTx) ∧
  (∀ (o : Opening) (s v : State), s.phase = .running → s.slc.state = .opened → s.slc.opening = some o → s.slc.door = .opened →
    s.slc.bolt = .retracted → v = { s with pins := { s.pins with door := .shut } } →
    exec (.doorSenseChange .shut) s = .next
      (v.settle (({ v with slc := { s.slc with
          door := .shut, state := .securing, boltDrive := .throw, timer := some 10
          opening := some { o with mark := none } } } : State).place .lockState
        [.enum 4, .present true, o.source.code, .byte o.windows, .present true, .time (s.oc.clock.later 10),
         .enum 4])).startTx) ∧
  (∀ (s v : State), s.phase = .running → s.slc.state = .locked → s.slc.opening = none → s.slc.pendingCollection = false →
    s.slc.door = .shut → v = { s with pins := { s.pins with door := .opened } } →
    exec (.doorSenseChange .opened) s = .next
      (v.settle (({ v with slc := { s.slc with
          door := .opened, state := .alarm, boltDrive := .throw, timer := none, forced := true, alarm := .asserted } } :
        State).place .forcedDoor [.enum 0, .present false, .time s.oc.clock])).startTx) ∧
  (∀ (s v : State), s.phase = .running → s.slc.state = .locked → s.slc.opening = none → s.slc.pendingCollection = false →
    s.slc.bolt = .thrown → v = { s with pins := { s.pins with bolt := .retracted } } →
    exec (.boltSenseChange .retracted) s = .next
      (v.settle (({ v with slc := { s.slc with
          bolt := .retracted, state := .alarm, boltDrive := .throw, timer := none, boltFault := true, alarm := .asserted } } :
        State).place .boltFault
          [.enum 0, .present false, .enum 1, doorCode s.slc.door, .time s.oc.clock])).startTx) ∧
  (∀ (o : Opening) (s v : State), s.phase = .running → s.slc.state = .securing → s.slc.opening = some o → o.windows = 1 →
    s.slc.pendingCollection = false → s.slc.bolt = .retracted → v = { s with pins := { s.pins with bolt := .thrown } } →
    exec (.boltSenseChange .thrown) s = .next
      (v.settle (({ v with slc := { s.slc with
          bolt := .thrown, state := .locked, boltDrive := .throw, opening := none, timer := none } } : State).place .lockState
        [.enum 0, .present false, .present false, .enum 6])).startTx) ∧
  (∀ (s v : State), s.phase = .running → s.slc.slot = .occupied → v = { s with pins := { s.pins with slot := .clear } } →
    exec (.slotSenseChange .clear) s = .next
      (v.settle { v with slc := { s.slc with slot := .clear } }).startTx) ∧
  (∀ (s v : State), s.phase = .running → s.slc.slot = .clear → s.br.drops.length < 4 →
    v = { s with pins := { s.pins with slot := .occupied } } →
    exec (.slotSenseChange .occupied) s = .next
      (v.settle { v with
        slc := { s.slc with slot := .occupied }
        br := { s.br with drops := s.br.drops ++ [{ began := s.oc.clock, wait := 2 }] } }).startTx) ∧
  (∀ (o : Opening) (s : State), s.phase = .running → s.slc.state = .delay → s.slc.opening = some o → o.mark = none →
    Leaves .delayExpiry s
      (({ s with slc := { s.slc with
          state := .window, boltDrive := .retract, opening := some o, timer := some (o.windowLen * 60) } } : State).place
        .lockState
          [.enum 2, .present true, o.source.code, .byte o.windows, .present true,
           .time (s.oc.clock.later (o.windowLen * 60)), .enum 2])) ∧
  (∀ s : State, s.phase = .running → s.slc.state ≠ .delay → Leaves .delayExpiry s s) ∧
  (∀ (o : Opening) (s : State), s.phase = .running → s.slc.state = .window → s.slc.opening = some o → s.slc.bolt = .retracted →
    Leaves .windowExpiry s
      (({ s with slc := { s.slc with
          state := .securing, boltDrive := .throw, timer := some 10, opening := some { o with mark := none } } } : State).place
        .lockState
          [.enum 4, .present true, o.source.code, .byte o.windows, .present true, .time (s.oc.clock.later 10), .enum 5])) ∧
  (∀ s : State, s.phase = .running → s.slc.state ≠ .window → Leaves .windowExpiry s s) ∧
  (∀ (o : Opening) (s : State), s.phase = .running → s.slc.state = .securing → s.slc.opening = some o → o.mark = none →
    s.slc.pendingCollection = false →
    Leaves .boltConfirmationExpiry s
      (({ s with slc := { s.slc with
          state := .alarm, boltDrive := .throw, opening := none, timer := none, boltFault := true, alarm := .asserted } } :
        State).place .boltFault
          [.enum 4, .present true, o.source.code, boltCode s.slc.bolt, doorCode s.slc.door, .time s.oc.clock])) ∧
  (∀ s : State, s.phase = .running → s.slc.state ≠ .securing → Leaves .boltConfirmationExpiry s s) ∧
  (∀ (x : BoltSense) (s : State), s.phase = .running → s.slc.bolt = x →
    Leaves (.boltSenseChange x) { s with pins := { s.pins with bolt := x } } { s with pins := { s.pins with bolt := x } }) ∧
  (∀ (x : SlotSense) (s : State), s.phase = .running → s.slc.slot = x →
    Leaves (.slotSenseChange x) { s with pins := { s.pins with slot := x } } { s with pins := { s.pins with slot := x } }) ∧
  (∀ s v : State, s.phase = .running → s.slc.door = .shut →
    s.slc.state = .opened ∨ s.slc.state = .alarm ∧ s.slc.forced = true → v = { s with pins := { s.pins with door := .opened } } →
    exec (.doorSenseChange .opened) s = .next (v.settle { v with slc := { s.slc with door := .opened } }).startTx) ∧
  (∀ s v : State, s.phase = .running → s.slc.door = .opened → s.slc.state ≠ .opened →
    v = { s with pins := { s.pins with door := .shut } } →
    exec (.doorSenseChange .shut) s = .next (v.settle { v with slc := { s.slc with door := .shut } }).startTx) ∧
  (∀ s v x : State, s.phase = .running → s.slc.door = .shut →
    s.slc.state = .locked ∨ s.slc.state = .delay ∨ s.slc.state = .securing ∨ s.slc.state = .alarm ∧ s.slc.forced = false →
    v = { s with pins := { s.pins with door := .opened } } →
    x = { v with slc := { s.slc with
      door := .opened, state := .alarm, boltDrive := .throw, opening := none, timer := none, forced := true
      alarm := .asserted, pendingCollection := false } } →
    exec (.doorSenseChange .opened) s = .next
      (v.settle ((if s.slc.opening.bind Opening.mark = some .waiting ∨ s.slc.pendingCollection = true then x.tellOpeningLost
        else x).place .forcedDoor
          ([s.slc.state.code] ++ sourceField s.slc.opening ++ [.time s.oc.clock]))).startTx) ∧
  (∀ s v : State, s.phase = .running → s.slc.bolt = .thrown →
    s.slc.state = .window ∨ s.slc.state = .opened ∨ s.slc.state = .securing ∨ s.slc.state = .alarm ∧ s.slc.boltFault = true →
    v = { s with pins := { s.pins with bolt := .retracted } } →
    exec (.boltSenseChange .retracted) s = .next (v.settle { v with slc := { s.slc with bolt := .retracted } }).startTx) ∧
  (∀ s v : State, s.phase = .running → s.slc.bolt = .retracted → s.slc.state ≠ .securing →
    v = { s with pins := { s.pins with bolt := .thrown } } →
    exec (.boltSenseChange .thrown) s = .next (v.settle { v with slc := { s.slc with bolt := .thrown } }).startTx) ∧
  (∀ s v x : State, s.phase = .running → s.slc.bolt = .thrown →
    s.slc.state = .locked ∨ s.slc.state = .delay ∨ s.slc.state = .alarm ∧ s.slc.boltFault = false →
    v = { s with pins := { s.pins with bolt := .retracted } } →
    x = { v with slc := { s.slc with
      bolt := .retracted, state := .alarm, boltDrive := .throw, opening := none, timer := none, boltFault := true
      alarm := .asserted, pendingCollection := false } } →
    exec (.boltSenseChange .retracted) s = .next
      (v.settle ((if s.slc.opening.bind Opening.mark = some .waiting ∨ s.slc.pendingCollection = true then x.tellOpeningLost
        else x).place .boltFault
          ([s.slc.state.code] ++ sourceField s.slc.opening ++
            [.enum 1, doorCode s.slc.door, .time s.oc.clock]))).startTx) ∧
  (∀ s x : State, s.phase = .running → s.slc.state = .securing →
    x = { s with slc := { s.slc with
      state := .alarm, boltDrive := .throw, opening := none, timer := none, boltFault := true, alarm := .asserted
      pendingCollection := false } } →
    Leaves .boltConfirmationExpiry s
      ((if s.slc.opening.bind Opening.mark = some .waiting ∨ s.slc.pendingCollection = true then x.tellOpeningLost
        else x).place .boltFault
          ([Datum.enum 4] ++ sourceField s.slc.opening ++
            [boltCode s.slc.bolt, doorCode s.slc.door, .time s.oc.clock]))) ∧
  (∀ s : State,
    (∀ h, s.chu.handover = some h → h.stage = .verified →
      s.tellOpeningLost = s.abandonHandover .lock ∧
      s.tellWindow =
        (s.setHandover (some { h with stage := .scanning, received := [], step := some 120 })).send (.toDock .go)) ∧
    ((∀ h, s.chu.handover = some h → h.stage = .scanning) → s.tellOpeningLost = s ∧ s.tellWindow = s)) ∧
  (∀ s v : State, s.phase = .running → s.slc.state = .securing → s.slc.bolt = .retracted →
    v = { s with pins := { s.pins with bolt := .thrown } } →
    exec (.boltSenseChange .thrown) s = .next
      (v.settle ({ v with slc := { s.slc with bolt := .thrown } } : State).boltConfirmed).startTx) ∧
  (∀ (o : Opening) (s v : State), s.phase = .running → s.slc.state = .opened → s.slc.opening = some o → s.slc.door = .opened →
    s.slc.bolt = .thrown → v = { s with pins := { s.pins with door := .shut } } →
    exec (.doorSenseChange .shut) s = .next
      (v.settle ((({ v with slc := { s.slc with
          door := .shut, state := .securing, boltDrive := .throw, timer := some 10
          opening := some { o with mark := none } } } : State).place .lockState
        [.enum 4, .present true, o.source.code, .byte o.windows, .present true, .time (s.oc.clock.later 10),
         .enum 4]).boltConfirmed)).startTx) ∧
  (∀ (o : Opening) (s : State), s.phase = .running → s.slc.state = .window → s.slc.opening = some o → s.slc.bolt = .thrown →
    Leaves .windowExpiry s
      ((({ s with slc := { s.slc with
          state := .securing, boltDrive := .throw, timer := some 10, opening := some { o with mark := none } } } : State).place
        .lockState
          [.enum 4, .present true, o.source.code, .byte o.windows, .present true, .time (s.oc.clock.later 10),
           .enum 5]).boltConfirmed)) ∧
  (∀ (o : Opening) (p : Bool) (s x y : State), s.slc.opening = some o → p = s.slc.pendingCollection →
    (2 ≤ o.windows → o.delayLen ≠ 0 →
      s.boltConfirmed =
        ({ s with slc := { s.slc with
            pendingCollection := false, state := .delay, boltDrive := .throw, timer := some (o.delayLen * 60)
            opening := some { o with windows := o.windows - 1, mark := if p then some .waiting else none } } } : State).place
          .lockState
            [.enum 1, .present true, o.source.code, .byte (o.windows - 1), .present true,
             .time (s.oc.clock.later (o.delayLen * 60)), .enum 6]) ∧
    (2 ≤ o.windows → o.delayLen = 0 →
      x = { s with slc := { s.slc with
        pendingCollection := false, state := .window, boltDrive := .retract, timer := some (o.windowLen * 60)
        opening := some { o with windows := o.windows - 1, mark := if p then some .told else none } } } →
      s.boltConfirmed =
        (if p then x.tellWindow else x).place .lockState
          [.enum 2, .present true, o.source.code, .byte (o.windows - 1), .present true,
           .time (s.oc.clock.later (o.windowLen * 60)), .enum 6]) ∧
    (o.windows ≤ 1 →
      y = ({ s with slc := { s.slc with
          pendingCollection := false, state := .locked, boltDrive := .throw, opening := none, timer := none } } : State).place
        .lockState [.enum 0, .present false, .present false, .enum 6] →
      s.boltConfirmed = if p then y.takeCollection else y)) ∧
  (∀ (o : Opening) (s x : State),
    o = { source := .collection, operators := none, windows := 1, delayLen := s.profile.collectionDelay
          windowLen := s.profile.lockWindow, mark := some .waiting } →
    (s.profile.collectionDelay ≠ 0 →
      s.takeCollection =
        ({ s with slc := { s.slc with
            state := .delay, boltDrive := .throw, opening := some o, timer := some (s.profile.collectionDelay * 60) } } :
          State).place .lockState
            [.enum 1, .present true, .enum 1, .byte 1, .present true,
             .time (s.oc.clock.later (s.profile.collectionDelay * 60)), .enum 1]) ∧
    (s.profile.collectionDelay = 0 →
      x = { s with slc := { s.slc with
        state := .window, boltDrive := .retract, opening := some { o with mark := some .told }
        timer := some (s.profile.lockWindow * 60) } } →
      s.takeCollection = x.tellWindow.place .lockState
        [.enum 2, .present true, .enum 1, .byte 1, .present true, .time (s.oc.clock.later (s.profile.lockWindow * 60)),
         .enum 1])) ∧
  (∀ (o : Opening) (s x : State), s.phase = .running → s.slc.state = .delay → s.slc.opening = some o → o.mark = some .waiting →
    x = { s with slc := { s.slc with
      state := .window, boltDrive := .retract, opening := some { o with mark := some .told }
      timer := some (o.windowLen * 60) } } →
    Leaves .delayExpiry s
      (x.tellWindow.place .lockState
        [.enum 2, .present true, o.source.code, .byte o.windows, .present true, .time (s.oc.clock.later (o.windowLen * 60)),
         .enum 2])) ∧
  (∀ s v w : State, s.phase = .running → s.slc.slot = .clear → 4 ≤ s.br.drops.length →
    v = { s with pins := { s.pins with slot := .occupied } } →
    w = ({ v with slc := { s.slc with slot := .occupied } } : State).resolveOldest none →
    exec (.slotSenseChange .occupied) s = .next
      (v.settle { w with br := { w.br with drops := w.br.drops ++ [{ began := s.oc.clock, wait := 2 }] } }).startTx)


/-! ### Consignments and the courier -/

/-- NEW CONSIGNMENT, SCHEDULE COLLECTION and CANCEL CONSIGNMENT (R149, R157, R159), with the tests of each in their order. A
consignment without a bag is not scheduled, nor one with an ASSEMBLING bag, whose slot the refusal names. That DUPLICATE names the
lowest-numbered of several overlapping consignments, and STATE the first ASSEMBLING bag of the outbound list, is log entry 40, that
the consignment number is tested with the codes and the times log entry 41 (DESIGN CHOICE). -/
def Obligations.ConsignmentLife : Prop :=
  (∀ s : State, s.Open →
    (s.oc.state = .unconfigured → Refuses .newConsignment s .state []) ∧
    (s.oc.state ≠ .unconfigured → (∀ c, 1 ≤ c → c ≤ 8 → (s.consignment c).state ≠ .free) →
      Refuses .newConsignment s .full []) ∧
    (∀ c, s.oc.state ≠ .unconfigured → 1 ≤ c → c ≤ 8 → (s.consignment c).state = .free →
      (∀ m, 1 ≤ m → m < c → (s.consignment m).state ≠ .free) →
      Accepts .newConsignment s
        (s.settle (s.setConsignment c { state := .opened, outbound := [], inbound := [], schedule := none })) [.byte c])) ∧
  (∀ (c u r : Nat) (e l : OfficeTime) (s : State), s.Open → 1 ≤ c → c ≤ 8 → 1 ≤ u → u ≤ 65535 → 1 ≤ r → r ≤ 65535 →
    e.day ≤ 65535 → e.sec ≤ 86399 → l.day ≤ 65535 → l.sec ≤ 86399 → e.before l = true → s.oc.clock.before l = true →
    ((s.consignment c).state = .free → Refuses (.scheduleCollection c u r e l) s .absent []) ∧
    ((s.consignment c).state ≠ .free → (s.consignment c).state ≠ .opened → (s.consignment c).state ≠ .missed →
      Refuses (.scheduleCollection c u r e l) s .state []) ∧
    ((s.consignment c).state = .opened ∨ (s.consignment c).state = .missed → (s.consignment c).outbound = [] →
      (s.consignment c).inbound = [] → Refuses (.scheduleCollection c u r e l) s .state []) ∧
    (∀ ahead b behind, (s.consignment c).state = .opened ∨ (s.consignment c).state = .missed →
      (s.consignment c).outbound = ahead ++ b :: behind → (∀ q ∈ ahead, (s.bag q).map Bag.state ≠ some .assembling) →
      (s.bag b).map Bag.state = some .assembling → Refuses (.scheduleCollection c u r e l) s .state [.byte b]) ∧
    ((s.consignment c).state = .opened ∨ (s.consignment c).state = .missed →
      (s.consignment c).outbound ≠ [] ∨ (s.consignment c).inbound ≠ [] →
      (∀ b ∈ (s.consignment c).outbound, (s.bag b).map Bag.state ≠ some .assembling) →
      ((∀ q k, 1 ≤ q → q ≤ 8 → q ≠ c → (s.consignment q).state = .scheduled ∨ (s.consignment q).state = .inHandover →
          (s.consignment q).schedule = some k → k.route = r → k.earliest.before l = true → e.before k.latest = false) →
        Accepts (.scheduleCollection c u r e l) s
          (s.settle (s.setConsignment c { s.consignment c with
            state := .scheduled, schedule := some { courier := u, route := r, earliest := e, latest := l } }))
          [.time e, .time l]) ∧
      (∀ q k, 1 ≤ q → q ≤ 8 → q ≠ c → (s.consignment q).state = .scheduled ∨ (s.consignment q).state = .inHandover →
        (s.consignment q).schedule = some k → k.route = r → k.earliest.before l = true → e.before k.latest = true →
        (∀ m j, 1 ≤ m → m < q → m ≠ c → (s.consignment m).state = .scheduled ∨ (s.consignment m).state = .inHandover →
          (s.consignment m).schedule = some j → j.route = r → j.earliest.before l = true → e.before j.latest = false) →
        Refuses (.scheduleCollection c u r e l) s .duplicate [.byte q]))) ∧
  (∀ (c u r : Nat) (e l : OfficeTime) (s : State), s.Open →
    c = 0 ∨ 8 < c ∨ u = 0 ∨ 65535 < u ∨ r = 0 ∨ 65535 < r ∨ 65535 < e.day ∨ 86399 < e.sec ∨ 65535 < l.day ∨ 86399 < l.sec ∨
      e.before l = false ∨ s.oc.clock.before l = false →
    Refuses (.scheduleCollection c u r e l) s .range []) ∧
  (∀ (c : Nat) (s : State), s.Open → c = 0 ∨ 8 < c → Refuses (.cancelConsignment c) s .range []) ∧
  (∀ (c : Nat) (s : State), s.Open → 1 ≤ c → c ≤ 8 →
    ((s.consignment c).state = .free → Refuses (.cancelConsignment c) s .absent []) ∧
    ((s.consignment c).state = .inHandover → Refuses (.cancelConsignment c) s .busy []) ∧
    ((s.consignment c).state = .done ∨ (s.consignment c).state = .cancelled →
      Refuses (.cancelConsignment c) s .state []) ∧
    ((s.consignment c).state = .opened ∨ (s.consignment c).state = .scheduled ∨ (s.consignment c).state = .missed →
      ∃ u : State,
        Accepts (.cancelConsignment c) s (s.settle u)
          (counted ((s.consignment c).outbound.map fun b => [.byte b]) ++
            counted ((s.bagsIn (s.consignment c).inbound .expected).map fun b => [.byte b])) ∧
        u.consignment c = { s.consignment c with state := .cancelled, outbound := [] } ∧
        (∀ m, m ≠ c → u.consignment m = s.consignment m) ∧
        (∀ b, u.bag b = (s.bag b).map fun x =>
          { x with
            consignment := if b ∈ (s.consignment c).outbound then none else x.consignment
            state := if b ∈ (s.consignment c).inbound ∧ x.state = .expected then .lost else x.state
            changed := if b ∈ (s.consignment c).inbound ∧ x.state = .expected then s.oc.clock else x.changed }) ∧
        u.oc.totals.lostBags = s.oc.totals.lostBags + (s.bagsIn (s.consignment c).inbound .expected).length ∧
        u.oc.totals.lostValue = s.oc.totals.lostValue +
          ((s.bagsIn (s.consignment c).inbound .expected).map fun b => ((s.bag b).bind Bag.declared).getD 0).sum ∧
        u.st = s.st ∧ u.csc = s.csc ∧ u.slc = s.slc ∧ u.sent = s.sent ∧ u.oc.state = s.oc.state ∧
        u.br = { s.br with bags := u.br.bags }))

/-- Outbound bags (R11, R12, R17, R33, R150 to R153), with the tests of each request in their order: ASSEMBLE reserves, its
content lines in slot order, SEAL moves the pieces into DISPATCH, DISCARD and UNSEAL free the record, UNSEAL with its pieces
going back; a WORKING count that SEAL lowers or UNSEAL raises meets the watermarks (R17); a line that does not fit refuses SEAL
or UNSEAL with FULL, naming its slot. That the number of lines is tested with the lines is log entry 41 (DESIGN CHOICE). A
declared value is not clamped (log entry 18, DESIGN CHOICE); that FULL names the first of several lines that do not fit is log
entry 40 (DESIGN CHOICE); the counted lists of the replies to SEAL and UNSEAL, with the slot and the source beside each count,
are log entry 12 (DESIGN CHOICE). -/
def Obligations.OutboundBags : Prop :=
  (∀ (c : Nat) (ls : List AssemblyLine) (s : State), s.Open →
    (s.assemblyLinesOk ls = true ↔
      1 ≤ ls.length ∧ ls.length ≤ 12 ∧ (ls.map AssemblyLine.slot).Nodup ∧
      ∀ l ∈ ls, 1 ≤ l.slot ∧ l.slot ≤ s.st.denoms.length ∧ 1 ≤ l.pieces ∧ l.pieces ≤ pieceLimit ∧ l.source ≤ 1) ∧
    (c = 0 ∨ 8 < c ∨ s.assemblyLinesOk ls = false → Refuses (.assembleBag c ls) s .range []) ∧
    (1 ≤ c → c ≤ 8 → s.assemblyLinesOk ls = true →
      ((s.consignment c).state = .free → Refuses (.assembleBag c ls) s .absent []) ∧
      ((s.consignment c).state = .inHandover → Refuses (.assembleBag c ls) s .busy []) ∧
      ((s.consignment c).state = .done ∨ (s.consignment c).state = .missed ∨ (s.consignment c).state = .cancelled →
        Refuses (.assembleBag c ls) s .state []) ∧
      ((s.consignment c).state = .opened ∨ (s.consignment c).state = .scheduled →
        24 ≤ (s.consignment c).outbound.length ∨ 16 ≤ s.st.reservations.length ∨ s.freeGeneral = none →
        Refuses (.assembleBag c ls) s .full []))) ∧
  (∀ (ls : List AssemblyLine), (ls.map AssemblyLine.slot).Nodup → (∀ l ∈ ls, l.source ≤ 1) →
    ((contentLines ls).map ContentLine.slot).Pairwise (· < ·) ∧
    (contentLines ls).Perm (ls.map fun l =>
      { slot := l.slot, pieces := l.pieces, source := if l.source = 0 then .working else .unfit })) ∧
  (∀ (ls : List ContentLine) (s : State), (∀ l ∈ ls, 1 ≤ l.slot) →
    s.linesValue ls = (ls.map fun l => l.pieces * (s.st.denoms[l.slot - 1]?.map Denom.value).getD 0).sum) ∧
  (∀ (c b : Nat) (ls : List AssemblyLine) (s : State), s.Open → 1 ≤ c → c ≤ 8 → s.assemblyLinesOk ls = true →
    (s.consignment c).state = .opened ∨ (s.consignment c).state = .scheduled → (s.consignment c).outbound.length < 24 →
    s.st.reservations.length < 16 → s.freeGeneral = some b →
    ((∀ l ∈ contentLines ls, l.pieces ≤ s.assemblyLimit l.source l.slot) →
      Accepts (.assembleBag c ls) s
        (s.settle
          ((({ s with st := { s.st with reservations := s.st.reservations ++
              [{ owner := .bag b, lines := contentLines ls, created := s.oc.clock, expiry := none }] } } : State).setBag b
            (some { newBag .outbound .assembling s.oc.clock with
              consignment := some c, declared := some (s.linesValue (contentLines ls)), lines := contentLines ls })).setConsignment
            c { s.consignment c with outbound := (s.consignment c).outbound ++ [b] }))
        [.byte b, .amount (s.linesValue (contentLines ls))]) ∧
    (∀ l ∈ contentLines ls, s.assemblyLimit l.source l.slot < l.pieces →
      (∀ m ∈ contentLines ls, m.slot < l.slot → m.pieces ≤ s.assemblyLimit m.source m.slot) →
      Refuses (.assembleBag c ls) s .short [.byte l.slot, .pieces (s.assemblyLimit l.source l.slot)])) ∧
  (∀ (b q : Nat) (s : State), s.Open →
    (255 < b ∨ q = 0 ∨ sealLimit < q → Refuses (.sealBag b q) s .range []) ∧
    (b ≤ 255 → 1 ≤ q → q ≤ sealLimit →
      (s.bag b = none → Refuses (.sealBag b q) s .absent []) ∧
      (∀ x, s.bag b = some x → x.kind ≠ .outbound ∨ x.state ≠ .assembling → Refuses (.sealBag b q) s .state []))) ∧
  (∀ (b op : Nat) (s : State), s.Open →
    (255 < b → Refuses (.discardBag b) s .range [] ∧ Refuses (.unsealBag b op) s .range []) ∧
    (b ≤ 255 → s.bag b = none → Refuses (.discardBag b) s .absent []) ∧
    (b ≤ 255 → s.isSupervisor op = false → Refuses (.unsealBag b op) s .role []) ∧
    (b ≤ 255 → s.isSupervisor op = true →
      (s.bag b = none → Refuses (.unsealBag b op) s .absent []) ∧
      (∀ x, s.bag b = some x → x.kind ≠ .outbound ∨ x.state ≠ .sealed → Refuses (.unsealBag b op) s .state []))) ∧
  (∀ (b q : Nat) (x : Bag) (u : State) (s : State), s.Open → b ≤ 255 → 1 ≤ q → q ≤ sealLimit → s.bag b = some x →
    x.kind = .outbound → x.state = .assembling →
    u = ((s.enterDispatch x.lines).freeReservation (.bag b)).setBag b
      (some { x with sealNo := some q, state := .sealed, changed := s.oc.clock }) →
    (s.sealLive q = true → Refuses (.sealBag b q) s .duplicate []) ∧
    (s.sealLive q = false → (∀ l ∈ x.lines, (s.slot l.slot).dispatch + l.pieces ≤ pieceLimit) →
      Accepts (.sealBag b q) s (s.settle (u.retryPasses (loweredBy x.lines)))
        ([.byte b, .sealNo q] ++ counted (x.lines.map fun l => [.byte l.slot, .pieces (u.slot l.slot).dispatch]))) ∧
    (s.sealLive q = false → ∀ ahead l behind, x.lines = ahead ++ l :: behind →
      (∀ m ∈ ahead, (s.slot m.slot).dispatch + m.pieces ≤ pieceLimit) → pieceLimit < (s.slot l.slot).dispatch + l.pieces →
      Refuses (.sealBag b q) s .full [.byte l.slot])) ∧
  (∀ (b : Nat) (x : Bag) (s : State), s.Open → b ≤ 255 → s.bag b = some x →
    (x.kind = .outbound → x.state = .assembling →
      Accepts (.discardBag b) s (s.settle ((s.freeReservation (.bag b)).freeOutbound b x)) [.byte b]) ∧
    (x.kind ≠ .outbound ∨ x.state ≠ .assembling → Refuses (.discardBag b) s .state [])) ∧
  (∀ (b op : Nat) (x : Bag) (u : State) (s : State), s.Open → b ≤ 255 → s.bag b = some x → x.kind = .outbound →
    x.state = .sealed → u = (s.backFromDispatch x.lines).freeOutbound b x →
    (∀ c, s.isSupervisor op = true → x.consignment = some c → (s.consignment c).state = .inHandover →
      Refuses (.unsealBag b op) s .busy []) ∧
    (s.isSupervisor op = true → (∀ c, x.consignment = some c → (s.consignment c).state ≠ .inHandover) →
      (∀ l ∈ x.lines, (if l.source = .working then (s.slot l.slot).working else (s.slot l.slot).unfit) + l.pieces ≤ pieceLimit) →
      Accepts (.unsealBag b op) s (s.settle u)
        (counted (x.lines.map fun l => [.byte l.slot, l.source.code,
          .pieces (if l.source = .working then (u.slot l.slot).working else (u.slot l.slot).unfit)]))) ∧
    (s.isSupervisor op = true → (∀ c, x.consignment = some c → (s.consignment c).state ≠ .inHandover) →
      ∀ ahead l behind, x.lines = ahead ++ l :: behind →
      (∀ m ∈ ahead, (if m.source = .working then (s.slot m.slot).working else (s.slot m.slot).unfit) + m.pieces ≤ pieceLimit) →
      pieceLimit < (if l.source = .working then (s.slot l.slot).working else (s.slot l.slot).unfit) + l.pieces →
      Refuses (.unsealBag b op) s .full [.byte l.slot])) ∧
  (∀ (b : Nat) (x : Bag) (s : State),
    (x.consignment = none → s.freeOutbound b x = s.setBag b none) ∧
    (∀ c, x.consignment = some c →
      s.freeOutbound b x = (s.setConsignment c { s.consignment c with
        outbound := (s.consignment c).outbound.filter fun q => decide (q ≠ b) }).setBag b none)) ∧
  (∀ (ls : List ContentLine) (d : Nat) (s : State), 1 ≤ d → d ≤ 12 →
    ((s.enterDispatch ls).slot d).working = (s.slot d).working - heldBy ls .working d ∧
    ((s.enterDispatch ls).slot d).unfit = (s.slot d).unfit - heldBy ls .unfit d ∧
    ((s.enterDispatch ls).slot d).dispatch = (s.slot d).dispatch + heldBy ls .working d + heldBy ls .unfit d ∧
    ((s.enterDispatch ls).slot d).reserve = (s.slot d).reserve ∧
    ((s.backFromDispatch ls).slot d).working = (s.slot d).working + heldBy ls .working d ∧
    ((s.backFromDispatch ls).slot d).unfit = (s.slot d).unfit + heldBy ls .unfit d ∧
    ((s.backFromDispatch ls).slot d).dispatch = (s.slot d).dispatch - heldBy ls .working d - heldBy ls .unfit d ∧
    ((s.backFromDispatch ls).slot d).reserve = (s.slot d).reserve) ∧
  (∀ (ls : List ContentLine) (s u v : State), (ls.map fun l => (l.slot, l.source)).Nodup → u = s.enterDispatch ls →
    v = s.backFromDispatch ls →
    u = { s with st := { s.st with slots := u.st.slots } } ∧ v = { s with st := { s.st with slots := v.st.slots } } ∧
    (∀ (d w : Nat), 1 ≤ d → d ≤ 12 → w = (s.slot d).working - heldBy ls .working d →
      u.slot d = { s.slot d with
        working := w, unfit := (s.slot d).unfit - heldBy ls .unfit d
        dispatch := (s.slot d).dispatch + heldBy ls .working d + heldBy ls .unfit d
        low := if w = (s.slot d).working then (s.slot d).low else min (s.slot d).low w
        high := if w = (s.slot d).working then (s.slot d).high else max (s.slot d).high w }) ∧
    (∀ (d w : Nat), 1 ≤ d → d ≤ 12 → w = (s.slot d).working + heldBy ls .working d →
      v.slot d = { s.slot d with
        working := w, unfit := (s.slot d).unfit + heldBy ls .unfit d
        dispatch := (s.slot d).dispatch - heldBy ls .working d - heldBy ls .unfit d
        low := if w = (s.slot d).working then (s.slot d).low else min (s.slot d).low w
        high := if w = (s.slot d).working then (s.slot d).high else max (s.slot d).high w }))

/-- ATTACH BAG and EXPECT DELIVERY (R154, R155): their tests in order, and the list that a bag joins. -/
def Obligations.BagsJoinAConsignment : Prop :=
  (∀ (b c : Nat) (s : State), s.phase = .running → s.oc.state = .held → Refuses (.attachBag b c) s .held []) ∧
  (∀ (b c : Nat) (s : State), s.Open → 255 < b ∨ c = 0 ∨ 8 < c → Refuses (.attachBag b c) s .range []) ∧
  (∀ (b c : Nat) (s : State), s.Open → b ≤ 255 → 1 ≤ c → c ≤ 8 →
    (s.bag b = none ∨ (s.consignment c).state = .free → Refuses (.attachBag b c) s .absent []) ∧
    (∀ x, s.bag b = some x → (s.consignment c).state ≠ .free →
      (x.consignment ≠ none ∨
        (¬ (x.kind = .outbound ∧ x.state = .sealed) ∧ ¬ (x.kind = .inbound ∧ x.state = .expected)) →
        Refuses (.attachBag b c) s .state []) ∧
      (x.consignment = none → (x.kind = .outbound ∧ x.state = .sealed) ∨ (x.kind = .inbound ∧ x.state = .expected) →
        ((s.consignment c).state = .inHandover → Refuses (.attachBag b c) s .busy []) ∧
        ((s.consignment c).state = .done ∨ (s.consignment c).state = .cancelled →
          Refuses (.attachBag b c) s .state [])))) ∧
  (∀ (b c : Nat) (x : Bag) (s : State), s.Open → b ≤ 255 → 1 ≤ c → c ≤ 8 → s.bag b = some x →
    (s.consignment c).state = .opened ∨ (s.consignment c).state = .scheduled ∨ (s.consignment c).state = .missed →
    (x.consignment = none → x.kind = .outbound → x.state = .sealed →
      ((s.consignment c).outbound.length < 24 →
        Accepts (.attachBag b c) s
          (s.settle ((s.setBag b (some { x with consignment := some c })).setConsignment c
            { s.consignment c with outbound := (s.consignment c).outbound ++ [b] })) []) ∧
      (24 ≤ (s.consignment c).outbound.length → Refuses (.attachBag b c) s .full [])) ∧
    (x.consignment = none → x.kind = .inbound → x.state = .expected →
      ((s.consignment c).inbound.length < 24 →
        Accepts (.attachBag b c) s
          (s.settle ((s.setBag b (some { x with consignment := some c })).setConsignment c
            { s.consignment c with inbound := (s.consignment c).inbound ++ [b] })) []) ∧
      (24 ≤ (s.consignment c).inbound.length → Refuses (.attachBag b c) s .full [])) ∧
    (x.consignment ≠ none → Refuses (.attachBag b c) s .state [])) ∧
  (∀ (c q v b : Nat) (s : State), s.Open → 1 ≤ c → c ≤ 8 → 1 ≤ q → q ≤ sealLimit → v ≤ amountLimit →
    ((s.consignment c).state = .free → Refuses (.expectDelivery c q v) s .absent []) ∧
    ((s.consignment c).state = .inHandover → Refuses (.expectDelivery c q v) s .busy []) ∧
    ((s.consignment c).state = .done ∨ (s.consignment c).state = .cancelled →
      Refuses (.expectDelivery c q v) s .state []) ∧
    ((s.consignment c).state = .opened ∨ (s.consignment c).state = .scheduled ∨ (s.consignment c).state = .missed →
      (24 ≤ (s.consignment c).inbound.length → Refuses (.expectDelivery c q v) s .full []) ∧
      ((s.consignment c).inbound.length < 24 → s.sealLive q = true → Refuses (.expectDelivery c q v) s .duplicate []) ∧
      ((s.consignment c).inbound.length < 24 → s.sealLive q = false → s.freeGeneral = none →
        Refuses (.expectDelivery c q v) s .full []) ∧
      ((s.consignment c).inbound.length < 24 → s.sealLive q = false → s.freeGeneral = some b →
        Accepts (.expectDelivery c q v) s
          (s.settle ((s.setBag b (some { newBag .inbound .expected s.oc.clock with
              sealNo := some q, consignment := some c, declared := some v, attempts := some 0 })).setConsignment c
            { s.consignment c with inbound := (s.consignment c).inbound ++ [b] })) [.byte b]))) ∧
  (∀ (c q v : Nat) (s : State), s.Open → c = 0 ∨ 8 < c ∨ q = 0 ∨ amountLimit < v →
    Refuses (.expectDelivery c q v) s .range [])

/-- PRESENT (R137, R160, R162): its five tests in their order, and the handover that an accepted one begins, SCANNING where a
window is reached and VERIFIED where the lock must wait. The collection request that it makes, in each state of the lock
(R137): a mark that stands answers for itself; an opening without one is joined, told its window in WINDOW and OPEN, waiting
in DELAY, and in SECURING by the pending mark; in LOCKED a collection delay of 1 minute or more starts a DELAY, a delay of 0
the WINDOW at once; ALARM refuses. That the lowest-numbered consignment is met, were there two whose window holds the time, is
log entry 40 (DESIGN CHOICE); that the LOCK_STATE of the WINDOW that a delay of 0 opens at once has the cause COLLECTION is log
entry 43 (DEDUCED). -/
def Obligations.PresentBeginsAHandover : Prop :=
  (∀ (u r : Nat) (s : State), s.Hears .dock → u < 65536 → r < 65536 →
    (s.oc.state = .held → Leaves (.present u r .sound) s (s.send (.toDock (.refuse .held)))) ∧
    (s.oc.state = .unconfigured → Leaves (.present u r .sound) s (s.send (.toDock (.refuse .state)))) ∧
    (s.oc.state ≠ .held → s.oc.state ≠ .unconfigured → s.chu.handover = none →
      (u = 0 ∨ r = 0 → Leaves (.present u r .sound) s (s.send (.toDock (.refuse .range)))) ∧
      (u ≠ 0 → r ≠ 0 → (∀ c, (s.consignment c).state = .scheduled → (s.consignment c).schedule.map Schedule.route ≠ some r) →
        Leaves (.present u r .sound) s (s.send (.toDock (.refuse .absent)))) ∧
      (u ≠ 0 → r ≠ 0 →
        (∃ c, 1 ≤ c ∧ c ≤ 8 ∧ (s.consignment c).state = .scheduled ∧ (s.consignment c).schedule.map Schedule.route = some r) →
        (∀ c k, (s.consignment c).state = .scheduled → (s.consignment c).schedule = some k → k.route = r →
          s.oc.clock.before k.earliest = true ∨ s.oc.clock.before k.latest = false) →
        Leaves (.present u r .sound) s (s.send (.toDock (.refuse .state)))) ∧
      (∀ (c : Nat) (k : Schedule), u ≠ 0 → r ≠ 0 → 1 ≤ c → c ≤ 8 → (s.consignment c).state = .scheduled →
        (s.consignment c).schedule = some k → k.route = r → s.oc.clock.before k.earliest = false →
        s.oc.clock.before k.latest = true →
        (∀ m < c, (s.consignment m).state = .scheduled → (s.consignment m).schedule.map Schedule.route = some r →
          s.inWindow m = false) →
        (k.courier ≠ u → Leaves (.present u r .sound) s (s.send (.toDock (.refuse .absent)))) ∧
        (k.courier = u → s.collectionRequest.2 = .refused →
          Leaves (.present u r .sound) s (s.send (.toDock (.refuse .state)))) ∧
        (∀ (w : State) (a : CollectionAnswer), k.courier = u → s.collectionRequest = (w, a) → a ≠ .refused →
          Leaves (.present u r .sound) s (w.beginHandover c u a)) ∧
        (k.courier = u → s.slc.state = .alarm → s.slc.opening = none → s.slc.pendingCollection = false →
          Leaves (.present u r .sound) s (s.send (.toDock (.refuse .state)))) ∧
        (k.courier = u → s.slc.state = .locked → s.slc.opening = none → s.slc.pendingCollection = false →
          1 ≤ s.profile.collectionDelay →
          ∃ v : State,
            Leaves (.present u r .sound) s v ∧
            v.consignment c = { s.consignment c with state := .inHandover } ∧
            v.chu.handover = some { stage := .verified, consignment := c, courier := u, presented := s.oc.clock
                                    foreign := 0, received := [], overall := 900, step := none } ∧
            v.slc = { s.slc with
              state := .delay, boltDrive := .throw, timer := some (s.profile.collectionDelay * 60)
              opening := some { source := .collection, operators := none, windows := 1
                                delayLen := s.profile.collectionDelay, windowLen := s.profile.lockWindow
                                mark := some .waiting } } ∧
            v.sent = s.sent ++
              [.toDock (.acceptPresent c (s.consignment c).outbound.length (s.consignment c).inbound.length),
               .toDock .waitSafe] ∧
            v.st = s.st ∧ v.br = s.br ∧ v.tps = s.tps ∧ v.csc = s.csc ∧ v.oc = s.oc) ∧
        (∀ o : Opening, k.courier = u → s.slc.state = .window ∨ s.slc.state = .opened → s.slc.opening = some o →
          o.mark = none → s.slc.pendingCollection = false →
          Leaves (.present u r .sound) s
            ((((((({ s with slc := { s.slc with opening := some { o with mark := some .told } } } : State)).setConsignment c
              { s.consignment c with state := .inHandover }).setHandover
                (some { stage := .scanning, consignment := c, courier := u, presented := s.oc.clock, foreign := 0
                        received := [], overall := 900, step := some 120 })).send
                (.toDock (.acceptPresent c (s.consignment c).outbound.length (s.consignment c).inbound.length))).send
                (.toDock .go)))))) ∧
    (∀ h : Handover, s.oc.state ≠ .held → s.oc.state ≠ .unconfigured → s.chu.handover = some h →
      (h.stage = .verified → Leaves (.present u r .sound) s (s.send (.toDock (.refuse .busy)))) ∧
      (h.stage = .scanning →
        Leaves (.present u r .sound) s ((s.setHandover (some { h with step := some 120 })).send (.toDock (.refuse .busy)))))) ∧
  (∀ (s : State) (c u : Nat) (v : State), v = s.setConsignment c { s.consignment c with state := .inHandover } →
    s.beginHandover c u .wait =
      ((v.setHandover (some { stage := .verified, consignment := c, courier := u, presented := s.oc.clock, foreign := 0
                              received := [], overall := 900, step := none })).send
        (.toDock (.acceptPresent c (s.consignment c).outbound.length (s.consignment c).inbound.length))).send
        (.toDock .waitSafe) ∧
    s.beginHandover c u .reached =
      ((v.setHandover (some { stage := .scanning, consignment := c, courier := u, presented := s.oc.clock, foreign := 0
                              received := [], overall := 900, step := some 120 })).send
        (.toDock (.acceptPresent c (s.consignment c).outbound.length (s.consignment c).inbound.length))).send
        (.toDock .go)) ∧
  (∀ (s : State) (o : Opening), s.slc.opening = some o →
    (o.mark = some .waiting → s.collectionRequest = (s, .wait)) ∧
    (o.mark = some .told → s.collectionRequest = (s, .reached)) ∧
    (o.mark = none → s.slc.pendingCollection = true → s.collectionRequest = (s, .wait)) ∧
    (o.mark = none → s.slc.pendingCollection = false →
      (s.slc.state = .delay →
        s.collectionRequest = ({ s with slc := { s.slc with opening := some { o with mark := some .waiting } } }, .wait)) ∧
      (s.slc.state = .window ∨ s.slc.state = .opened →
        s.collectionRequest =
          ({ s with slc := { s.slc with opening := some { o with mark := some .told } } }, .reached)) ∧
      (s.slc.state = .securing →
        s.collectionRequest = ({ s with slc := { s.slc with pendingCollection := true } }, .wait)))) ∧
  (∀ (s : State) (o : Opening), s.slc.opening = none → s.slc.pendingCollection = false →
    o = { source := .collection, operators := none, windows := 1, delayLen := s.profile.collectionDelay
          windowLen := s.profile.lockWindow, mark := some .waiting } →
    (s.slc.state = .alarm → s.collectionRequest = (s, .refused)) ∧
    (s.slc.state = .locked → 1 ≤ s.profile.collectionDelay →
      s.collectionRequest =
        (({ s with slc := { s.slc with
            state := .delay, boltDrive := .throw, timer := some (s.profile.collectionDelay * 60), opening := some o } } :
          State).lockNotice .collection, .wait)) ∧
    (s.slc.state = .locked → s.profile.collectionDelay = 0 → s.chu.handover = none →
      s.collectionRequest =
        (({ s with slc := { s.slc with
            state := .window, boltDrive := .retract, timer := some (s.profile.lockWindow * 60)
            opening := some { o with mark := some .told } } } : State).lockNotice .collection, .reached)))

/-- SCAN and CONFIRM (R160, R164, R165): each scan restarts the step timer and checks a bag out or in; any other seal, one
that is not live, or that of a bag which is neither one to check nor one checked already, is a foreign scan, and the third
abandons the handover; a CONFIRM with bags left to scan is INCOMPLETE, and one with none left completes the handover, with
HANDOVER_DONE and, where bags were left EXPECTED, SHORT_DELIVERY behind it (R182). The 8 bytes of the two sums of values are
log entry 22, the counted list of SHORT_DELIVERY log entry 23 (DESIGN CHOICE). -/
def Obligations.ScanAndConfirm : Prop :=
  (∀ (q : Nat) (s : State), s.Hears .dock → s.oc.state ≠ .held → s.oc.state ≠ .unconfigured → q < 4294967296 →
    (s.chu.handover = none →
      Leaves (.scan q .sound) s (s.send (.toDock (.refuse .state))) ∧
      Leaves (.confirm .sound) s (s.send (.toDock (.refuse .state)))) ∧
    (∀ h : Handover, s.chu.handover = some h → h.stage = .verified →
      Leaves (.scan q .sound) s (s.send (.toDock .waitSafe)) ∧ Leaves (.confirm .sound) s (s.send (.toDock .waitSafe)))) ∧
  (∀ (q : Nat) (h : Handover) (u : State) (s : State), s.Hears .dock → s.oc.state ≠ .held → s.oc.state ≠ .unconfigured →
    q < 4294967296 → s.chu.handover = some h → h.stage = .scanning → u = s.setHandover (some { h with step := some 120 }) →
    (q = 0 → Leaves (.scan q .sound) s (u.send (.toDock (.refuse .range)))) ∧
    (∀ b x v, q ≠ 0 → s.liveSeal q = some (b, x) → x.kind = .outbound → b ∈ (s.consignment h.consignment).outbound →
      v = u.setBag b (some { x with state := .scanned, changed := s.oc.clock }) →
      (x.state = .sealed →
        Leaves (.scan q .sound) s (v.send (.toDock (.acceptScan b false (v.toScan h.consignment))))) ∧
      (x.state = .scanned → Leaves (.scan q .sound) s (u.send (.toDock (.refuse .duplicate))))) ∧
    (∀ b x v, q ≠ 0 → s.liveSeal q = some (b, x) → x.kind = .inbound → b ∈ (s.consignment h.consignment).inbound →
      v = (s.setBag b (some { x with state := .received, changed := s.oc.clock })).setHandover
        (some { h with step := some 120, received := h.received ++ [b] }) →
      (x.state = .expected →
        Leaves (.scan q .sound) s (v.send (.toDock (.acceptScan b true (v.toScan h.consignment))))) ∧
      (x.state = .received → Leaves (.scan q .sound) s (u.send (.toDock (.refuse .duplicate))))) ∧
    (q ≠ 0 → s.liveSeal q = none →
      (h.foreign < 2 →
        Leaves (.scan q .sound) s
          ((s.setHandover (some { h with step := some 120, foreign := h.foreign + 1 })).send (.toDock (.refuse .absent)))) ∧
      (2 ≤ h.foreign →
        Leaves (.scan q .sound) s
          (((s.setHandover (some { h with step := some 120, foreign := h.foreign + 1 })).send
            (.toDock (.refuse .absent))).abandonHandover .foreign))) ∧
    (∀ b x v, q ≠ 0 → s.liveSeal q = some (b, x) →
      ¬ (x.kind = .outbound ∧ b ∈ (s.consignment h.consignment).outbound ∧ (x.state = .sealed ∨ x.state = .scanned)) →
      ¬ (x.kind = .inbound ∧ b ∈ (s.consignment h.consignment).inbound ∧ (x.state = .expected ∨ x.state = .received)) →
      v = (s.setHandover (some { h with step := some 120, foreign := h.foreign + 1 })).send (.toDock (.refuse .absent)) →
      (h.foreign < 2 → Leaves (.scan q .sound) s v) ∧
      (2 ≤ h.foreign → Leaves (.scan q .sound) s (v.abandonHandover .foreign))) ∧
    (s.toScan h.consignment ≠ 0 → Leaves (.confirm .sound) s (u.send (.toDock (.refuse .incomplete)))) ∧
    (∀ outs ins left, s.toScan h.consignment = 0 → 1 ≤ h.consignment → h.consignment ≤ 8 →
      outs = s.bagsIn (s.consignment h.consignment).outbound .scanned → ins = s.bagsIn h.received .received →
      left = s.bagsIn (s.consignment h.consignment).inbound .expected →
      ∃ w : State,
        Leaves (.confirm .sound) s w ∧
        w.chu.handover = none ∧
        w.consignment h.consignment =
          { s.consignment h.consignment with
            state := .done, inbound := (s.consignment h.consignment).inbound.filter fun b => decide (b ∉ left) } ∧
        (∀ b ∈ outs, (w.bag b).map Bag.state = some .handedOver) ∧
        (∀ b ∈ ins, (w.bag b).map Bag.state = some .queued) ∧
        (∀ b ∈ left, (w.bag b).map Bag.state = some .expected ∧ (w.bag b).bind Bag.consignment = none) ∧
        w.br.ordinary = s.br.ordinary ++ ins ∧ w.br.priority = s.br.priority ∧
        (∀ d, (w.slot d).working = (s.slot d).working ∧ (w.slot d).reserve = (s.slot d).reserve ∧
          (w.slot d).unfit = (s.slot d).unfit) ∧
        (∀ d, (w.slot d).dispatch = (s.slot d).dispatch -
          (outs.map fun b => heldBy (((s.bag b).map Bag.lines).getD []) .working d +
            heldBy (((s.bag b).map Bag.lines).getD []) .unfit d).sum) ∧
        w.oc.totals.handedOver = s.oc.totals.handedOver +
          (outs.map fun b => s.linesValue (((s.bag b).map Bag.lines).getD [])).sum ∧
        w.oc.totals.received = s.oc.totals.received + (ins.map fun b => ((s.bag b).bind Bag.declared).getD 0).sum ∧
        (∀ v : State,
          v = s.place .handoverDone
            [.byte h.consignment, .ident h.courier, .count outs.length,
              .wide (outs.map fun b => s.linesValue (((s.bag b).map Bag.lines).getD [])).sum, .count ins.length,
              .wide (ins.map fun b => ((s.bag b).bind Bag.declared).getD 0).sum] →
          w.hli = if left = [] then v.hli
            else (v.place .shortDelivery (.byte h.consignment ::
              counted (left.map fun b => [.byte b, .sealNo (((s.bag b).bind Bag.sealNo).getD 0)]))).hli) ∧
        w.sent = s.sent ++ [.toDock (.done none)] ∧ w.slc = s.slc ∧ w.csc = s.csc ∧ w.tps = s.tps))

/-- ABANDON and the two timers of a handover (R145, R160, R166, R167): an abandoned handover puts its bags back, takes back
its collection and tells the handset; it places HANDOVER_ABANDONED, and COLLECTION_MISSED behind it where the latest has
passed, both behind the LOCK_STATE of a collection taken back in DELAY (R166; the presence bytes of LOCK_STATE are log entry
38, DESIGN CHOICE). The frame check of the partner lines (R180): what each line accepts, a frame that fails, after which the
receiver hunts, a byte that begins no frame, a gap of 50 milliseconds, and a sound frame at a receiver that hunts. That the
timer expiry commands act whatever seconds are left is log entry 6 (DESIGN CHOICE); that a gap command acts only where a frame
is in progress is log entry 21 (DEDUCED), that a byte which begins no frame fails test 1 and the moment at which a length is
tested log entry 28 (DESIGN CHOICE); that a command may bring any bytes over its line is log entry 37 (DESIGN CHOICE); that a
sound frame of no handset kind is answered UNKNOWN in every office state is log entry 45 (DEDUCED). -/
def Obligations.HandoverIsAbandoned : Prop :=
  (∀ (h : Handover) (s : State), s.Hears .dock → s.oc.state ≠ .held → s.oc.state ≠ .unconfigured →
    s.chu.handover = some h →
    (h.stage = .verified → Leaves (.abandon .sound) s (s.abandonHandover .courier)) ∧
    (h.stage = .scanning →
      Leaves (.abandon .sound) s ((s.setHandover (some { h with step := some 120 })).abandonHandover .courier))) ∧
  (∀ s : State, s.Hears .dock → s.oc.state ≠ .held → s.oc.state ≠ .unconfigured → s.chu.handover = none →
    Leaves (.abandon .sound) s (s.send (.toDock (.refuse .state)))) ∧
  (∀ (h : Handover) (t : Nat) (s : State), s.phase = .running → s.chu.handover = some h → h.step = some t →
    Leaves .stepTimerExpiry s (s.abandonHandover .stepTimeout)) ∧
  (∀ s : State, s.phase = .running → s.chu.handover.bind Handover.step = none → Leaves .stepTimerExpiry s s) ∧
  (∀ (h : Handover) (s : State), s.phase = .running → s.chu.handover = some h →
    Leaves .overallTimerExpiry s (s.abandonHandover .overallTimeout)) ∧
  (∀ s : State, s.phase = .running → s.chu.handover = none → Leaves .overallTimerExpiry s s) ∧
  (∀ (h : Handover) (r : AbandonReason) (u : State) (s : State), s.phase = .running → s.chu.handover = some h →
    r ≠ .restart → 1 ≤ h.consignment → h.consignment ≤ 8 → u = s.abandonHandover r →
    u.chu.handover = none ∧
    u.consignment h.consignment =
      { s.consignment h.consignment with
        state := if s.oc.clock.before ((s.consignment h.consignment).schedule.getD default).latest then .scheduled
          else .missed } ∧
    (∀ m, m ≠ h.consignment → u.consignment m = s.consignment m) ∧
    (∀ b x, s.bag b = some x →
      u.bag b =
        if b ∈ (s.consignment h.consignment).outbound ∧ x.state = .scanned then
          some { x with state := .sealed, changed := s.oc.clock }
        else if b ∈ (s.consignment h.consignment).inbound ∧ x.state = .received then
          some { x with state := .expected, changed := s.oc.clock }
        else some x) ∧
    u.sent = s.sent ++ [.toDock (.done (some r))] ∧ u.slc.pendingCollection = false ∧
    (∀ o, s.slc.state = .delay → s.slc.opening = some o → o.source = .collection →
      u.slc.state = .locked ∧ u.slc.opening = none ∧ u.slc.timer = none ∧ u.slc.boltDrive = .throw) ∧
    (∀ o, s.slc.state = .delay → s.slc.opening = some o → o.source ≠ .collection →
      u.slc = { s.slc with
        pendingCollection := false
        opening := some { o with mark := if o.mark = some .waiting then none else o.mark } }) ∧
    (s.slc.state ≠ .delay → u.slc = { s.slc with pendingCollection := false }) ∧
    (∀ (k : Schedule) (early : Bool) (v w : State), k = (s.consignment h.consignment).schedule.getD default →
      early = s.oc.clock.before k.latest →
      v = (if s.slc.state = .delay ∧ s.slc.opening.map Opening.source = some .collection then
        s.place .lockState [.enum 0, .present false, .present false, .enum 8] else s) →
      w = v.place .handoverAbandoned
        [.byte h.consignment, r.code, if early then .enum 2 else .enum 5,
          .count ((s.consignment h.consignment).outbound.filter fun b => decide ((s.bag b).map Bag.state = some .scanned)).length,
          .count ((s.consignment h.consignment).inbound.filter fun b => decide ((s.bag b).map Bag.state = some .received)).length] →
      u.hli = if early then w.hli
        else (w.place .collectionMissed
          [.byte h.consignment, .ident k.courier, .ident k.route, .time k.latest,
            .count (s.consignment h.consignment).outbound.length, .count (s.consignment h.consignment).inbound.length]).hli) ∧
    u.st = s.st ∧ u.tps = s.tps ∧ u.csc = s.csc ∧ u.oc = s.oc) ∧
  (∀ (ty : Nat) (body : List Byte) (s : State), s.Hears .dock → ty < 256 → body.length ≤ 8 →
    acceptsFrame .dock ty body = true → ty ≠ 32 → ty ≠ 33 → ty ≠ 34 → ty ≠ 35 →
    Leaves (.dockFrameCheckFailed ty body .sound) s (s.send (.toDock (.refuse .unknown)))) ∧
  (∀ (ty : Nat) (body : List Byte) (l : StationLine),
    (acceptsFrame .dock ty body = false ↔
      ∃ row ∈ [(1, 5), (2, 0), (3, 0), (4, 0), (16, 0), (17, 4), (18, 3), (19, 1), (20, 1), (21, 1), (22, 0), (23, 108), (32, 4),
          (33, 4), (34, 0), (35, 0), (48, 4), (49, 1), (50, 0), (51, 0), (52, 2)], ty = row.1 ∧ body.length ≠ row.2) ∧
    (acceptsFrame .slotReader ty body = true ↔ ty = 64 ∧ body.length = 4) ∧
    (acceptsFrame (.station l) ty body = true ↔
      (∃ row ∈ [(16, 0), (17, 4), (18, 3), (19, 1), (20, 1), (21, 1), (22, 0), (23, 108)], ty = row.1 ∧ body.length = row.2) ∧
      (ty = 18 → ∀ c ∈ body.drop 2, c.toNat ≤ 1) ∧ (ty = 21 → ∀ c ∈ body, c.toNat ≤ 1))) ∧
  (∀ (ty q : Nat) (body bs : List Byte) (l : StationLine) (s : State), s.phase = .running →
    ((s.receiver .dock).bytes = [] → FailsCheck .dock bs →
      exec (.dockFrameCheckFailed ty body (.bytes bs)) s =
        .next ((s.setReceiver .dock Receiver.hunt).send (.toDock (.refuse .frame))).startTx) ∧
    ((s.receiver (.station l)).bytes = [] → FailsCheck (.station l) bs →
      exec (.stationReady l (.bytes bs)) s = .next (s.setReceiver (.station l) Receiver.hunt).startTx) ∧
    ((s.receiver .slotReader).bytes = [] → FailsCheck .slotReader bs →
      exec (.slotSealRead q (.bytes bs)) s = .next (s.setReceiver .slotReader Receiver.hunt).startTx)) ∧
  (∀ (b : Byte) (s : State), s.phase = .running → b ≠ startMarker →
    (s.receiver .dock = Receiver.hunt → exec (.confirm (.bytes [b])) s = .next s.startTx) ∧
    (s.receiver .dock = Receiver.rest →
      exec (.confirm (.bytes [b])) s = .next ((s.setReceiver .dock Receiver.hunt).send (.toDock (.refuse .frame))).startTx)) ∧
  (∀ (q : Nat) (s : State), s.phase = .running → s.receiver .dock = Receiver.hunt →
    exec (.scan q .sound) s = exec (.scan q .sound) (s.setReceiver .dock Receiver.rest)) ∧
  (∀ (q : Nat) (l : StationLine) (s : State), s.phase = .running → s.receiver (.station l) = Receiver.hunt →
    exec (.stationSealRead l q .sound) s = exec (.stationSealRead l q .sound) (s.setReceiver (.station l) Receiver.rest)) ∧
  (∀ (p : PartnerLine) (l : StationLine) (s : State), s.phase = .running →
    ((s.receiver p).bytes = [] → exec (.partnerByteGapTimeout p) s = .next s.startTx) ∧
    ((s.receiver .dock).bytes ≠ [] →
      exec (.partnerByteGapTimeout .dock) s =
        .next ((s.setReceiver .dock Receiver.hunt).send (.toDock (.refuse .frame))).startTx) ∧
    ((s.receiver (.station l)).bytes ≠ [] →
      exec (.partnerByteGapTimeout (.station l)) s = .next (s.setReceiver (.station l) Receiver.hunt).startTx) ∧
    ((s.receiver .slotReader).bytes ≠ [] →
      exec (.partnerByteGapTimeout .slotReader) s = .next (s.setReceiver .slotReader Receiver.hunt).startTx))

/-! ### The host line and the board -/

/-- SET NOTICES, the byte gap, the break and its end, and the last byte of a reply and of a notice (R169, R171, R174, R176, R177);
the reply of the line itself to a frame that reaches no owner, of which none is formed while 8 wait (R174); and what placing a
notice does: while the part runs it meets the mask and the capacity of the notice queue (R175), and at a stop or
a restart the capacity of the deferred-notice list alone (R38, R41). -/
def Obligations.HostLineEvents : Prop :=
  (∀ (m : Nat) (s : State), s.phase = .running →
    (m < 2097152 →
      Accepts (.setNotices m) s { s with hli := { s.hli with mask := BitVec.ofNat 24 m } }
        [.noticeMask (BitVec.ofNat 24 m), .count s.hli.notices.length]) ∧
    (2097152 ≤ m → Refuses (.setNotices m) s .range [])) ∧
  (∀ s : State, s.phase = .running →
    (s.hli.rx = [] → exec .hostByteGapTimeout s = .next s.startTx) ∧
    (s.hli.rx ≠ [] →
      exec .hostByteGapTimeout s =
        .next (({ s with hli := { s.hli with rx := [] } } : State).lineReply 0 0 .frame).startTx)) ∧
  (∀ s : State, s.phase = .running →
    (s.hli.tx = .idle →
      exec .lineBreak s = .next { s with hli := { s.hli with
        rx := [], spacing := true, buffer := [], replies := [], notices := [], lost := false } }) ∧
    (∀ r, s.hli.tx = .reply r →
      exec .lineBreak s = .next { s with hli := { s.hli with
        rx := [], spacing := true, replies := [], notices := [], lost := false
        buffer := if r.holdsPlace then s.hli.buffer.take 1 else [] } }) ∧
    (∀ n q, s.hli.tx = .notice n q →
      exec .lineBreak s = .next { s with hli := { s.hli with
        rx := [], spacing := true, buffer := [], replies := [], notices := [], lost := false, tx := .notice n false } })) ∧
  (∀ s : State, s.phase = .running →
    (s.hli.spacing = true →
      exec .lineReturnsToMark s = .next ({ s with hli := { s.hli with spacing := false, rx := [] } } : State).startTx) ∧
    (s.hli.spacing = false → exec .lineReturnsToMark s = .next s.startTx)) ∧
  (∀ (r : Reply) (s : State), s.phase = .running → s.hli.tx = .reply r →
    exec .replySent s = .next
      ({ s with
        sent := s.sent ++ [.reply r]
        hli := { s.hli with
          tx := .idle, buffer := if r.holdsPlace then s.hli.buffer.drop 1 else s.hli.buffer } } : State).startTx) ∧
  (∀ s : State, s.phase = .running → (∀ r, s.hli.tx ≠ .reply r) → exec .replySent s = .next s.startTx) ∧
  (∀ (n : Notice) (q : Bool) (s : State), s.phase = .running → s.hli.tx = .notice n q →
    exec .noticeSent s = .next
      ({ s with
        sent := s.sent ++ [.notice n]
        hli := { s.hli with
          tx := .idle, notices := if q then s.hli.notices.drop 1 else s.hli.notices } } : State).startTx) ∧
  (∀ s : State, s.phase = .running → (∀ n q, s.hli.tx ≠ .notice n q) → exec .noticeSent s = .next s.startTx) ∧
  (∀ (tag kind : Nat) (c : Code) (s : State),
    ((s.hli.replies.filter fun r => !r.holdsPlace).length < 8 →
      s.lineReply tag kind c = { s with hli := { s.hli with
        replies := s.hli.replies ++ [{ tag := tag, kind := kind, status := some c, detail := [], holdsPlace := false }] } }) ∧
    (8 ≤ (s.hli.replies.filter fun r => !r.holdsPlace).length → s.lineReply tag kind c = s)) ∧
  (∀ (k : NoticeKind) (fields : List Datum) (n : Notice) (s : State), n = { kind := k, time := s.oc.clock, fields := fields } →
    (s.phase = .running →
      (s.hli.mask.getLsbD (k.num - 128) = true → s.place k fields = s) ∧
      (s.hli.mask.getLsbD (k.num - 128) = false → s.hli.notices.length < 32 →
        s.place k fields = { s with hli := { s.hli with notices := s.hli.notices ++ [n] } }) ∧
      (s.hli.mask.getLsbD (k.num - 128) = false → 32 ≤ s.hli.notices.length →
        s.place k fields = { s with hli := { s.hli with lost := true } })) ∧
    (s.phase ≠ .running →
      (s.oc.deferred.length < 32 → s.place k fields = { s with oc := { s.oc with deferred := s.oc.deferred ++ [n] } }) ∧
      (32 ≤ s.oc.deferred.length → s.place k fields = { s with oc := { s.oc with deferredOver := true } })))

/-- The controlled stop (R38): the office is HELD and remembers, every block resolves, as State.Resolved says of tills, bags,
count queue, jobs, stations and handover (R19, R66, R105, R133, R168), the lock by Table 7.3 (R147), the consignment of a
handover back in SCHEDULED or MISSED (R166); the notices of the resolution, behind SHUTTER with the first failing condition where
the shutter stood open (R95), join the deferred-notice list in order, as many as it holds (R41). That SHUTTER goes to that list
too, and stands there before every notice of the resolution, is log entry 10 (DEDUCED), the order of the blocks among the others
log entry 16 (DESIGN CHOICE), the presence bytes log entry 38 (DESIGN CHOICE), the fields of OPENING_LOST log entry 15 (DEDUCED).
The HLI is empty, the clean-stop mark is written, and while the part does not run the drives stand at THROW and CLOSED; in reset and
from the mark on the alarm output goes by the latch (R181). The drives in a wait to start with no clean-stop mark, and without
supply, are log entry 14 (DESIGN CHOICE). The receivers of the partner lines at rest are log entry 28 (DESIGN CHOICE). -/
def Obligations.ControlledStop : Prop :=
  (∀ s : State, s.phase = .running →
    ∃ u : State,
      exec .controlledStop s = .next u ∧ u.phase = .stopped ∧ u.clean = true ∧ u.pins = { s.pins with powerFail := true } ∧
      u.oc.state = .held ∧ u.oc.remembered = (if s.oc.state = .held then s.oc.remembered else some s.oc.state) ∧
      u.oc.totals = s.oc.totals ∧ u.oc.clock = s.oc.clock ∧ u.receivers = Receivers.rest ∧
      (∃ cs : List Nat, s.Resolved u cs ∧
        s.Defers u
          ((if s.slc.shutter = .opened then
            [({ kind := .shutter, time := s.oc.clock
                fields := [ShutterDrive.closed.code, .present true,
                  .enum (if s.oc.state ≠ .trading ∧ s.oc.state ≠ .closing then 0 else if s.freeOrphans = [] then 1 else 2)] }
              : Notice)]
            else []) ++ s.resolutionNotices cs u.slc)) ∧
      u.slc = s.slc.resolved s.profile s.slc.resolvedState ∧
      (∀ c, 1 ≤ c → c ≤ 8 → u.consignment c =
        if s.chu.handover.map Handover.consignment = some c then
          { s.consignment c with state := if s.early c then .scheduled else .missed }
        else s.consignment c) ∧
      u.hli = { s.hli with rx := [], spacing := false, buffer := [], replies := [], tx := .idle, notices := [] } ∧
      u.csc.jobs = [] ∧ u.br.drops = [] ∧ u.chu.handover = none ∧ u.slc.shutter = .closed ∧
      (∀ n, 1 ≤ n → n ≤ 4 →
        u.station n =
          { s.station n with
            state := .offline .start, job := none, flow := .go, intake := [], silence := none }) ∧
      u.st = { s.st with reservations := s.st.reservations.filter fun r => match r.owner with | .till _ => false | .bag _ => true } ∧
      (∀ (n : Nat) (c : Composition), (s.till n).state = .composed → (s.till n).pending = some c →
        u.till n = { s.till n with state := c.prior, pending := none }) ∧
      (∀ n, (s.till n).state ≠ .composed → u.till n = s.till n)) ∧
  (∀ s : State, s.phase ≠ .running → exec .controlledStop s = .next { s with pins := { s.pins with powerFail := true } }) ∧
  (∀ s : State, s.phase ≠ .running → s.boltLine = .throw ∧ s.shutterLine = .closed) ∧
  (∀ s : State, s.phase = .inReset ∨ s.phase = .stopped →
    s.alarmLine = if s.slc.forced = true ∨ s.slc.boltFault = true then .asserted else .released) ∧
  (∀ s : State, s.phase = .running → s.boltLine = s.slc.boltDrive ∧ s.shutterLine = s.slc.shutter ∧ s.alarmLine = s.slc.alarm)

/-- The inputs, the supply and the WARM RESTART (R38, R39, R41, R147, R178): the phases of the part, and what a warm restart
leaves: HELD, the resolution applied as at a controlled stop (State.Resolved), the consignments whose latest passed meanwhile
MISSED (R158, R168), the notices of both in the deferred-notice list as far as it holds them, the lock by Table 7.3 with its
START opening, the clean-stop mark cleared, RESTART first and being sent. The order of the blocks among the notices is log
entry 16, that none of them is SHUTTER log entry 35, their presence bytes log entry 38, the receivers of the partner lines at
rest log entry 28 (DESIGN CHOICE), the fields of OPENING_LOST log entry 15 (DEDUCED). -/
def Obligations.StartsAndWarmRestart : Prop :=
  (∀ s : State,
    exec .powerFailDeassert s =
      .next { s with pins := { s.pins with powerFail := false }, phase := if s.phase = .stopped then .starting else s.phase } ∧
    exec .resetAssert s =
      .next { s with pins := { s.pins with reset := true }, phase := if s.phase = .off then .off else .inReset } ∧
    exec .resetRelease s =
      .next { s with pins := { s.pins with reset := false }, phase := if s.phase = .inReset then .starting else s.phase } ∧
    exec .powerUp s =
      .next { s with
        phase := if s.phase = .off then (if s.pins.reset = true then .inReset else .starting) else s.phase } ∧
    exec .powerLoss s = .next { s with phase := .off }) ∧
  (∀ s : State, s.phase = .starting → s.pins.powerFail = false → s.valid = true →
    ∃ (u : State) (k : StartKind) (n : Notice),
      exec .warmRestart s = .next u ∧ k = (if s.clean then .warm else .warmUnclean) ∧
      n = { kind := .restart, time := s.oc.clock, fields := [k.code] } ∧
      u.phase = .running ∧ u.clean = false ∧ u.pins = s.pins ∧ u.oc.state = .held ∧ u.receivers = Receivers.rest ∧
      u.oc.remembered = (if s.oc.state = .held then s.oc.remembered else some s.oc.state) ∧ u.oc.lastStart = k ∧
      u.hli = { s.hli with
        rx := [], spacing := false, buffer := [], replies := [], tx := .notice n true, notices := [n], lost := false } ∧
      (∀ missed : Nat → Bool,
        (∀ c, missed c = true ↔
          (s.consignment c).state = .scheduled ∧ s.chu.handover.map Handover.consignment ≠ some c ∧ s.early c = false) →
        (∃ cs : List Nat, s.Resolved u cs ∧
          s.Defers u (s.resolutionNotices cs u.slc ++
            ((List.range' 1 8).filter missed).map fun c =>
              ({ kind := .collectionMissed, time := s.oc.clock, fields := s.missedFields c } : Notice))) ∧
        (∀ c, 1 ≤ c → c ≤ 8 → u.consignment c =
          if s.chu.handover.map Handover.consignment = some c then
            { s.consignment c with state := if s.early c then .scheduled else .missed }
          else if missed c then { s.consignment c with state := .missed }
          else s.consignment c)) ∧
      (∀ l : Slc, l = { s.slc with door := s.pins.door, bolt := s.pins.bolt, slot := s.pins.slot } →
        u.slc = l.resolved s.profile l.resolvedState) ∧
      u.csc.jobs = [] ∧ u.br.drops = [] ∧ u.chu.handover = none ∧ u.slc.shutter = .closed ∧
      u.slc.door = s.pins.door ∧ u.slc.bolt = s.pins.bolt ∧ u.slc.slot = s.pins.slot ∧
      u.slc.forced = s.slc.forced ∧ u.slc.boltFault = s.slc.boltFault ∧
      u.st = { s.st with reservations := s.st.reservations.filter fun r => match r.owner with | .till _ => false | .bag _ => true } ∧
      ((s.slc.forced = true ∨ s.slc.boltFault = true) → u.slc.state = .alarm ∧ u.slc.alarm = .asserted) ∧
      (s.slc.forced = false → s.slc.boltFault = false → u.slc.alarm = .released ∧
        u.slc.state = (match s.pins.door, s.pins.bolt with
          | .shut, .thrown => .locked
          | .shut, .retracted => .securing
          | .opened, _ => .opened))) ∧
  (∀ s : State, s.phase ≠ .starting ∨ s.pins.powerFail = true ∨ s.valid = false → exec .warmRestart s = .next s)

end
end

