-- ==== Sys2Proof/Laws/State.lean ====
section
/-! SUPPORT. What an update of one record leaves: the other fields of the state, and the record read back. -/

namespace Sys2Proof.Machine

/-! ### Numbered records read back -/

@[simp] theorem nth_zero {α : Type} {n : Nat} (d : α) (v : Vector α n) : nth d v 0 = d := rfl

@[simp] theorem putNth_zero {α : Type} {n : Nat} (v : Vector α n) (x : α) : putNth v 0 x = v := rfl

/-- A record read after it is written is the one written. -/
theorem nth_putNth_same {α : Type} {n : Nat} (d : α) (v : Vector α n) (k : Nat) (x : α) (h1 : 1 ≤ k) (h2 : k ≤ n) :
    nth d (putNth v k x) k = x := by
  have hk : k ≠ 0 := by omega
  have hl : k - 1 < n := by omega
  simp [nth, putNth, hk, hl]

/-- A record read after another is written is as before. -/
theorem nth_putNth_other {α : Type} {n : Nat} (d : α) (v : Vector α n) (k m : Nat) (x : α) (h : m ≠ k) :
    nth d (putNth v k x) m = nth d v m := by
  unfold nth putNth
  split
  · rfl
  · split
    · rfl
    · rw [Vector.getElem?_setIfInBounds_ne (by omega)]

/-- A write past the table is no write. -/
theorem putNth_outside {α : Type} {n : Nat} (v : Vector α n) (k : Nat) (x : α) (h : n < k) : putNth v k x = v := by
  have hk : k ≠ 0 := by omega
  ext i hi
  simp [putNth, hk, show ¬ k - 1 = i by omega]

/-- Of two writes of one record the later stands. -/
@[simp] theorem putNth_putNth {α : Type} {n : Nat} (v : Vector α n) (k : Nat) (x y : α) :
    putNth (putNth v k x) k y = putNth v k y := by
  unfold putNth
  split
  · rfl
  · ext i hi
    simp only [Vector.getElem_setIfInBounds]
    split <;> rfl

theorem mem_upTo (n k : Nat) : k ∈ upTo n ↔ 1 ≤ k ∧ k ≤ n := by
  simp only [upTo, List.mem_map, List.mem_range]
  constructor
  · rintro ⟨a, ha, rfl⟩; omega
  · intro h; exact ⟨k - 1, by omega, by omega⟩

/-! ### Fields that an update leaves -/

@[simp] theorem State.setTill_pending (s : State) (n : Nat) (t : Till) : (s.setTill n t).pending = s.pending := (rfl)
@[simp] theorem State.setTill_phase (s : State) (n : Nat) (t : Till) : (s.setTill n t).phase = s.phase := (rfl)
@[simp] theorem State.setTill_pins (s : State) (n : Nat) (t : Till) : (s.setTill n t).pins = s.pins := (rfl)
@[simp] theorem State.setTill_valid (s : State) (n : Nat) (t : Till) : (s.setTill n t).valid = s.valid := (rfl)
@[simp] theorem State.setTill_clean (s : State) (n : Nat) (t : Till) : (s.setTill n t).clean = s.clean := (rfl)
@[simp] theorem State.setTill_hli (s : State) (n : Nat) (t : Till) : (s.setTill n t).hli = s.hli := (rfl)
@[simp] theorem State.setTill_oc (s : State) (n : Nat) (t : Till) : (s.setTill n t).oc = s.oc := (rfl)
@[simp] theorem State.setTill_st (s : State) (n : Nat) (t : Till) : (s.setTill n t).st = s.st := (rfl)
@[simp] theorem State.setTill_br (s : State) (n : Nat) (t : Till) : (s.setTill n t).br = s.br := (rfl)
@[simp] theorem State.setTill_csc (s : State) (n : Nat) (t : Till) : (s.setTill n t).csc = s.csc := (rfl)
@[simp] theorem State.setTill_slc (s : State) (n : Nat) (t : Till) : (s.setTill n t).slc = s.slc := (rfl)
@[simp] theorem State.setTill_chu (s : State) (n : Nat) (t : Till) : (s.setTill n t).chu = s.chu := (rfl)
@[simp] theorem State.setTill_receivers (s : State) (n : Nat) (t : Till) : (s.setTill n t).receivers = s.receivers := (rfl)
@[simp] theorem State.setTill_sent (s : State) (n : Nat) (t : Till) : (s.setTill n t).sent = s.sent := (rfl)
@[simp] theorem State.setTill_choices (s : State) (n : Nat) (t : Till) : (s.setTill n t).choices = s.choices := (rfl)

@[simp] theorem State.setBag_pending (s : State) (b : Nat) (x : Option Bag) : (s.setBag b x).pending = s.pending := (rfl)
@[simp] theorem State.setBag_phase (s : State) (b : Nat) (x : Option Bag) : (s.setBag b x).phase = s.phase := (rfl)
@[simp] theorem State.setBag_pins (s : State) (b : Nat) (x : Option Bag) : (s.setBag b x).pins = s.pins := (rfl)
@[simp] theorem State.setBag_valid (s : State) (b : Nat) (x : Option Bag) : (s.setBag b x).valid = s.valid := (rfl)
@[simp] theorem State.setBag_clean (s : State) (b : Nat) (x : Option Bag) : (s.setBag b x).clean = s.clean := (rfl)
@[simp] theorem State.setBag_hli (s : State) (b : Nat) (x : Option Bag) : (s.setBag b x).hli = s.hli := (rfl)
@[simp] theorem State.setBag_oc (s : State) (b : Nat) (x : Option Bag) : (s.setBag b x).oc = s.oc := (rfl)
@[simp] theorem State.setBag_st (s : State) (b : Nat) (x : Option Bag) : (s.setBag b x).st = s.st := (rfl)
@[simp] theorem State.setBag_tps (s : State) (b : Nat) (x : Option Bag) : (s.setBag b x).tps = s.tps := (rfl)
@[simp] theorem State.setBag_csc (s : State) (b : Nat) (x : Option Bag) : (s.setBag b x).csc = s.csc := (rfl)
@[simp] theorem State.setBag_slc (s : State) (b : Nat) (x : Option Bag) : (s.setBag b x).slc = s.slc := (rfl)
@[simp] theorem State.setBag_chu (s : State) (b : Nat) (x : Option Bag) : (s.setBag b x).chu = s.chu := (rfl)
@[simp] theorem State.setBag_receivers (s : State) (b : Nat) (x : Option Bag) : (s.setBag b x).receivers = s.receivers := (rfl)
@[simp] theorem State.setBag_sent (s : State) (b : Nat) (x : Option Bag) : (s.setBag b x).sent = s.sent := (rfl)
@[simp] theorem State.setBag_choices (s : State) (b : Nat) (x : Option Bag) : (s.setBag b x).choices = s.choices := (rfl)

@[simp] theorem State.setStation_pending (s : State) (n : Nat) (x : Station) : (s.setStation n x).pending = s.pending := (rfl)
@[simp] theorem State.setStation_phase (s : State) (n : Nat) (x : Station) : (s.setStation n x).phase = s.phase := (rfl)
@[simp] theorem State.setStation_pins (s : State) (n : Nat) (x : Station) : (s.setStation n x).pins = s.pins := (rfl)
@[simp] theorem State.setStation_valid (s : State) (n : Nat) (x : Station) : (s.setStation n x).valid = s.valid := (rfl)
@[simp] theorem State.setStation_clean (s : State) (n : Nat) (x : Station) : (s.setStation n x).clean = s.clean := (rfl)
@[simp] theorem State.setStation_hli (s : State) (n : Nat) (x : Station) : (s.setStation n x).hli = s.hli := (rfl)
@[simp] theorem State.setStation_oc (s : State) (n : Nat) (x : Station) : (s.setStation n x).oc = s.oc := (rfl)
@[simp] theorem State.setStation_st (s : State) (n : Nat) (x : Station) : (s.setStation n x).st = s.st := (rfl)
@[simp] theorem State.setStation_tps (s : State) (n : Nat) (x : Station) : (s.setStation n x).tps = s.tps := (rfl)
@[simp] theorem State.setStation_br (s : State) (n : Nat) (x : Station) : (s.setStation n x).br = s.br := (rfl)
@[simp] theorem State.setStation_slc (s : State) (n : Nat) (x : Station) : (s.setStation n x).slc = s.slc := (rfl)
@[simp] theorem State.setStation_chu (s : State) (n : Nat) (x : Station) : (s.setStation n x).chu = s.chu := (rfl)
@[simp] theorem State.setStation_receivers (s : State) (n : Nat) (x : Station) : (s.setStation n x).receivers = s.receivers := (rfl)
@[simp] theorem State.setStation_sent (s : State) (n : Nat) (x : Station) : (s.setStation n x).sent = s.sent := (rfl)
@[simp] theorem State.setStation_choices (s : State) (n : Nat) (x : Station) : (s.setStation n x).choices = s.choices := (rfl)

@[simp] theorem State.setConsignment_pending (s : State) (n : Nat) (c : Consignment) : (s.setConsignment n c).pending = s.pending := (rfl)
@[simp] theorem State.setConsignment_phase (s : State) (n : Nat) (c : Consignment) : (s.setConsignment n c).phase = s.phase := (rfl)
@[simp] theorem State.setConsignment_pins (s : State) (n : Nat) (c : Consignment) : (s.setConsignment n c).pins = s.pins := (rfl)
@[simp] theorem State.setConsignment_valid (s : State) (n : Nat) (c : Consignment) : (s.setConsignment n c).valid = s.valid := (rfl)
@[simp] theorem State.setConsignment_clean (s : State) (n : Nat) (c : Consignment) : (s.setConsignment n c).clean = s.clean := (rfl)
@[simp] theorem State.setConsignment_hli (s : State) (n : Nat) (c : Consignment) : (s.setConsignment n c).hli = s.hli := (rfl)
@[simp] theorem State.setConsignment_oc (s : State) (n : Nat) (c : Consignment) : (s.setConsignment n c).oc = s.oc := (rfl)
@[simp] theorem State.setConsignment_st (s : State) (n : Nat) (c : Consignment) : (s.setConsignment n c).st = s.st := (rfl)
@[simp] theorem State.setConsignment_tps (s : State) (n : Nat) (c : Consignment) : (s.setConsignment n c).tps = s.tps := (rfl)
@[simp] theorem State.setConsignment_br (s : State) (n : Nat) (c : Consignment) : (s.setConsignment n c).br = s.br := (rfl)
@[simp] theorem State.setConsignment_csc (s : State) (n : Nat) (c : Consignment) : (s.setConsignment n c).csc = s.csc := (rfl)
@[simp] theorem State.setConsignment_slc (s : State) (n : Nat) (c : Consignment) : (s.setConsignment n c).slc = s.slc := (rfl)
@[simp] theorem State.setConsignment_receivers (s : State) (n : Nat) (c : Consignment) : (s.setConsignment n c).receivers = s.receivers := (rfl)
@[simp] theorem State.setConsignment_sent (s : State) (n : Nat) (c : Consignment) : (s.setConsignment n c).sent = s.sent := (rfl)
@[simp] theorem State.setConsignment_choices (s : State) (n : Nat) (c : Consignment) : (s.setConsignment n c).choices = s.choices := (rfl)

@[simp] theorem State.setSlot_pending (s : State) (d : Nat) (x : StockSlot) : (s.setSlot d x).pending = s.pending := (rfl)
@[simp] theorem State.setSlot_phase (s : State) (d : Nat) (x : StockSlot) : (s.setSlot d x).phase = s.phase := (rfl)
@[simp] theorem State.setSlot_pins (s : State) (d : Nat) (x : StockSlot) : (s.setSlot d x).pins = s.pins := (rfl)
@[simp] theorem State.setSlot_valid (s : State) (d : Nat) (x : StockSlot) : (s.setSlot d x).valid = s.valid := (rfl)
@[simp] theorem State.setSlot_clean (s : State) (d : Nat) (x : StockSlot) : (s.setSlot d x).clean = s.clean := (rfl)
@[simp] theorem State.setSlot_hli (s : State) (d : Nat) (x : StockSlot) : (s.setSlot d x).hli = s.hli := (rfl)
@[simp] theorem State.setSlot_oc (s : State) (d : Nat) (x : StockSlot) : (s.setSlot d x).oc = s.oc := (rfl)
@[simp] theorem State.setSlot_tps (s : State) (d : Nat) (x : StockSlot) : (s.setSlot d x).tps = s.tps := (rfl)
@[simp] theorem State.setSlot_br (s : State) (d : Nat) (x : StockSlot) : (s.setSlot d x).br = s.br := (rfl)
@[simp] theorem State.setSlot_csc (s : State) (d : Nat) (x : StockSlot) : (s.setSlot d x).csc = s.csc := (rfl)
@[simp] theorem State.setSlot_slc (s : State) (d : Nat) (x : StockSlot) : (s.setSlot d x).slc = s.slc := (rfl)
@[simp] theorem State.setSlot_chu (s : State) (d : Nat) (x : StockSlot) : (s.setSlot d x).chu = s.chu := (rfl)
@[simp] theorem State.setSlot_receivers (s : State) (d : Nat) (x : StockSlot) : (s.setSlot d x).receivers = s.receivers := (rfl)
@[simp] theorem State.setSlot_sent (s : State) (d : Nat) (x : StockSlot) : (s.setSlot d x).sent = s.sent := (rfl)
@[simp] theorem State.setSlot_choices (s : State) (d : Nat) (x : StockSlot) : (s.setSlot d x).choices = s.choices := (rfl)

@[simp] theorem State.send_pending (s : State) (r : SentRecord) : (s.send r).pending = s.pending := (rfl)
@[simp] theorem State.send_phase (s : State) (r : SentRecord) : (s.send r).phase = s.phase := (rfl)
@[simp] theorem State.send_pins (s : State) (r : SentRecord) : (s.send r).pins = s.pins := (rfl)
@[simp] theorem State.send_valid (s : State) (r : SentRecord) : (s.send r).valid = s.valid := (rfl)
@[simp] theorem State.send_clean (s : State) (r : SentRecord) : (s.send r).clean = s.clean := (rfl)
@[simp] theorem State.send_hli (s : State) (r : SentRecord) : (s.send r).hli = s.hli := (rfl)
@[simp] theorem State.send_oc (s : State) (r : SentRecord) : (s.send r).oc = s.oc := (rfl)
@[simp] theorem State.send_st (s : State) (r : SentRecord) : (s.send r).st = s.st := (rfl)
@[simp] theorem State.send_tps (s : State) (r : SentRecord) : (s.send r).tps = s.tps := (rfl)
@[simp] theorem State.send_br (s : State) (r : SentRecord) : (s.send r).br = s.br := (rfl)
@[simp] theorem State.send_csc (s : State) (r : SentRecord) : (s.send r).csc = s.csc := (rfl)
@[simp] theorem State.send_slc (s : State) (r : SentRecord) : (s.send r).slc = s.slc := (rfl)
@[simp] theorem State.send_chu (s : State) (r : SentRecord) : (s.send r).chu = s.chu := (rfl)
@[simp] theorem State.send_receivers (s : State) (r : SentRecord) : (s.send r).receivers = s.receivers := (rfl)
@[simp] theorem State.send_choices (s : State) (r : SentRecord) : (s.send r).choices = s.choices := (rfl)

@[simp] theorem State.changeSlc_pending (s : State) (f : Slc → Slc) : (s.changeSlc f).pending = s.pending := (rfl)
@[simp] theorem State.changeSlc_phase (s : State) (f : Slc → Slc) : (s.changeSlc f).phase = s.phase := (rfl)
@[simp] theorem State.changeSlc_pins (s : State) (f : Slc → Slc) : (s.changeSlc f).pins = s.pins := (rfl)
@[simp] theorem State.changeSlc_valid (s : State) (f : Slc → Slc) : (s.changeSlc f).valid = s.valid := (rfl)
@[simp] theorem State.changeSlc_clean (s : State) (f : Slc → Slc) : (s.changeSlc f).clean = s.clean := (rfl)
@[simp] theorem State.changeSlc_hli (s : State) (f : Slc → Slc) : (s.changeSlc f).hli = s.hli := (rfl)
@[simp] theorem State.changeSlc_oc (s : State) (f : Slc → Slc) : (s.changeSlc f).oc = s.oc := (rfl)
@[simp] theorem State.changeSlc_st (s : State) (f : Slc → Slc) : (s.changeSlc f).st = s.st := (rfl)
@[simp] theorem State.changeSlc_tps (s : State) (f : Slc → Slc) : (s.changeSlc f).tps = s.tps := (rfl)
@[simp] theorem State.changeSlc_br (s : State) (f : Slc → Slc) : (s.changeSlc f).br = s.br := (rfl)
@[simp] theorem State.changeSlc_csc (s : State) (f : Slc → Slc) : (s.changeSlc f).csc = s.csc := (rfl)
@[simp] theorem State.changeSlc_chu (s : State) (f : Slc → Slc) : (s.changeSlc f).chu = s.chu := (rfl)
@[simp] theorem State.changeSlc_receivers (s : State) (f : Slc → Slc) : (s.changeSlc f).receivers = s.receivers := (rfl)
@[simp] theorem State.changeSlc_sent (s : State) (f : Slc → Slc) : (s.changeSlc f).sent = s.sent := (rfl)
@[simp] theorem State.changeSlc_choices (s : State) (f : Slc → Slc) : (s.changeSlc f).choices = s.choices := (rfl)

@[simp] theorem State.setHandover_pending (s : State) (h : Option Handover) : (s.setHandover h).pending = s.pending := (rfl)
@[simp] theorem State.setHandover_phase (s : State) (h : Option Handover) : (s.setHandover h).phase = s.phase := (rfl)
@[simp] theorem State.setHandover_pins (s : State) (h : Option Handover) : (s.setHandover h).pins = s.pins := (rfl)
@[simp] theorem State.setHandover_valid (s : State) (h : Option Handover) : (s.setHandover h).valid = s.valid := (rfl)
@[simp] theorem State.setHandover_clean (s : State) (h : Option Handover) : (s.setHandover h).clean = s.clean := (rfl)
@[simp] theorem State.setHandover_hli (s : State) (h : Option Handover) : (s.setHandover h).hli = s.hli := (rfl)
@[simp] theorem State.setHandover_oc (s : State) (h : Option Handover) : (s.setHandover h).oc = s.oc := (rfl)
@[simp] theorem State.setHandover_st (s : State) (h : Option Handover) : (s.setHandover h).st = s.st := (rfl)
@[simp] theorem State.setHandover_tps (s : State) (h : Option Handover) : (s.setHandover h).tps = s.tps := (rfl)
@[simp] theorem State.setHandover_br (s : State) (h : Option Handover) : (s.setHandover h).br = s.br := (rfl)
@[simp] theorem State.setHandover_csc (s : State) (h : Option Handover) : (s.setHandover h).csc = s.csc := (rfl)
@[simp] theorem State.setHandover_slc (s : State) (h : Option Handover) : (s.setHandover h).slc = s.slc := (rfl)
@[simp] theorem State.setHandover_receivers (s : State) (h : Option Handover) : (s.setHandover h).receivers = s.receivers := (rfl)
@[simp] theorem State.setHandover_sent (s : State) (h : Option Handover) : (s.setHandover h).sent = s.sent := (rfl)
@[simp] theorem State.setHandover_choices (s : State) (h : Option Handover) : (s.setHandover h).choices = s.choices := (rfl)

@[simp] theorem State.tellOc_pending (s : State) (f : Totals → Totals) : (s.tellOc f).pending = s.pending := (rfl)
@[simp] theorem State.tellOc_phase (s : State) (f : Totals → Totals) : (s.tellOc f).phase = s.phase := (rfl)
@[simp] theorem State.tellOc_pins (s : State) (f : Totals → Totals) : (s.tellOc f).pins = s.pins := (rfl)
@[simp] theorem State.tellOc_valid (s : State) (f : Totals → Totals) : (s.tellOc f).valid = s.valid := (rfl)
@[simp] theorem State.tellOc_clean (s : State) (f : Totals → Totals) : (s.tellOc f).clean = s.clean := (rfl)
@[simp] theorem State.tellOc_hli (s : State) (f : Totals → Totals) : (s.tellOc f).hli = s.hli := (rfl)
@[simp] theorem State.tellOc_st (s : State) (f : Totals → Totals) : (s.tellOc f).st = s.st := (rfl)
@[simp] theorem State.tellOc_tps (s : State) (f : Totals → Totals) : (s.tellOc f).tps = s.tps := (rfl)
@[simp] theorem State.tellOc_br (s : State) (f : Totals → Totals) : (s.tellOc f).br = s.br := (rfl)
@[simp] theorem State.tellOc_csc (s : State) (f : Totals → Totals) : (s.tellOc f).csc = s.csc := (rfl)
@[simp] theorem State.tellOc_slc (s : State) (f : Totals → Totals) : (s.tellOc f).slc = s.slc := (rfl)
@[simp] theorem State.tellOc_chu (s : State) (f : Totals → Totals) : (s.tellOc f).chu = s.chu := (rfl)
@[simp] theorem State.tellOc_receivers (s : State) (f : Totals → Totals) : (s.tellOc f).receivers = s.receivers := (rfl)
@[simp] theorem State.tellOc_sent (s : State) (f : Totals → Totals) : (s.tellOc f).sent = s.sent := (rfl)
@[simp] theorem State.tellOc_choices (s : State) (f : Totals → Totals) : (s.tellOc f).choices = s.choices := (rfl)

@[simp] theorem State.placeReservation_pending (s : State) (r : Reservation) : (s.placeReservation r).pending = s.pending := (rfl)
@[simp] theorem State.placeReservation_phase (s : State) (r : Reservation) : (s.placeReservation r).phase = s.phase := (rfl)
@[simp] theorem State.placeReservation_pins (s : State) (r : Reservation) : (s.placeReservation r).pins = s.pins := (rfl)
@[simp] theorem State.placeReservation_valid (s : State) (r : Reservation) : (s.placeReservation r).valid = s.valid := (rfl)
@[simp] theorem State.placeReservation_clean (s : State) (r : Reservation) : (s.placeReservation r).clean = s.clean := (rfl)
@[simp] theorem State.placeReservation_hli (s : State) (r : Reservation) : (s.placeReservation r).hli = s.hli := (rfl)
@[simp] theorem State.placeReservation_oc (s : State) (r : Reservation) : (s.placeReservation r).oc = s.oc := (rfl)
@[simp] theorem State.placeReservation_tps (s : State) (r : Reservation) : (s.placeReservation r).tps = s.tps := (rfl)
@[simp] theorem State.placeReservation_br (s : State) (r : Reservation) : (s.placeReservation r).br = s.br := (rfl)
@[simp] theorem State.placeReservation_csc (s : State) (r : Reservation) : (s.placeReservation r).csc = s.csc := (rfl)
@[simp] theorem State.placeReservation_slc (s : State) (r : Reservation) : (s.placeReservation r).slc = s.slc := (rfl)
@[simp] theorem State.placeReservation_chu (s : State) (r : Reservation) : (s.placeReservation r).chu = s.chu := (rfl)
@[simp] theorem State.placeReservation_receivers (s : State) (r : Reservation) : (s.placeReservation r).receivers = s.receivers := (rfl)
@[simp] theorem State.placeReservation_sent (s : State) (r : Reservation) : (s.placeReservation r).sent = s.sent := (rfl)
@[simp] theorem State.placeReservation_choices (s : State) (r : Reservation) : (s.placeReservation r).choices = s.choices := (rfl)

@[simp] theorem State.freeReservation_pending (s : State) (o : Owner) : (s.freeReservation o).pending = s.pending := (rfl)
@[simp] theorem State.freeReservation_phase (s : State) (o : Owner) : (s.freeReservation o).phase = s.phase := (rfl)
@[simp] theorem State.freeReservation_pins (s : State) (o : Owner) : (s.freeReservation o).pins = s.pins := (rfl)
@[simp] theorem State.freeReservation_valid (s : State) (o : Owner) : (s.freeReservation o).valid = s.valid := (rfl)
@[simp] theorem State.freeReservation_clean (s : State) (o : Owner) : (s.freeReservation o).clean = s.clean := (rfl)
@[simp] theorem State.freeReservation_hli (s : State) (o : Owner) : (s.freeReservation o).hli = s.hli := (rfl)
@[simp] theorem State.freeReservation_oc (s : State) (o : Owner) : (s.freeReservation o).oc = s.oc := (rfl)
@[simp] theorem State.freeReservation_tps (s : State) (o : Owner) : (s.freeReservation o).tps = s.tps := (rfl)
@[simp] theorem State.freeReservation_br (s : State) (o : Owner) : (s.freeReservation o).br = s.br := (rfl)
@[simp] theorem State.freeReservation_csc (s : State) (o : Owner) : (s.freeReservation o).csc = s.csc := (rfl)
@[simp] theorem State.freeReservation_slc (s : State) (o : Owner) : (s.freeReservation o).slc = s.slc := (rfl)
@[simp] theorem State.freeReservation_chu (s : State) (o : Owner) : (s.freeReservation o).chu = s.chu := (rfl)
@[simp] theorem State.freeReservation_receivers (s : State) (o : Owner) : (s.freeReservation o).receivers = s.receivers := (rfl)
@[simp] theorem State.freeReservation_sent (s : State) (o : Owner) : (s.freeReservation o).sent = s.sent := (rfl)
@[simp] theorem State.freeReservation_choices (s : State) (o : Owner) : (s.freeReservation o).choices = s.choices := (rfl)

@[simp] theorem State.changeTill_pending (s : State) (n : Nat) (f : Till → Till) : (s.changeTill n f).pending = s.pending := (rfl)
@[simp] theorem State.changeTill_phase (s : State) (n : Nat) (f : Till → Till) : (s.changeTill n f).phase = s.phase := (rfl)
@[simp] theorem State.changeTill_pins (s : State) (n : Nat) (f : Till → Till) : (s.changeTill n f).pins = s.pins := (rfl)
@[simp] theorem State.changeTill_valid (s : State) (n : Nat) (f : Till → Till) : (s.changeTill n f).valid = s.valid := (rfl)
@[simp] theorem State.changeTill_clean (s : State) (n : Nat) (f : Till → Till) : (s.changeTill n f).clean = s.clean := (rfl)
@[simp] theorem State.changeTill_hli (s : State) (n : Nat) (f : Till → Till) : (s.changeTill n f).hli = s.hli := (rfl)
@[simp] theorem State.changeTill_oc (s : State) (n : Nat) (f : Till → Till) : (s.changeTill n f).oc = s.oc := (rfl)
@[simp] theorem State.changeTill_st (s : State) (n : Nat) (f : Till → Till) : (s.changeTill n f).st = s.st := (rfl)
@[simp] theorem State.changeTill_br (s : State) (n : Nat) (f : Till → Till) : (s.changeTill n f).br = s.br := (rfl)
@[simp] theorem State.changeTill_csc (s : State) (n : Nat) (f : Till → Till) : (s.changeTill n f).csc = s.csc := (rfl)
@[simp] theorem State.changeTill_slc (s : State) (n : Nat) (f : Till → Till) : (s.changeTill n f).slc = s.slc := (rfl)
@[simp] theorem State.changeTill_chu (s : State) (n : Nat) (f : Till → Till) : (s.changeTill n f).chu = s.chu := (rfl)
@[simp] theorem State.changeTill_receivers (s : State) (n : Nat) (f : Till → Till) : (s.changeTill n f).receivers = s.receivers := (rfl)
@[simp] theorem State.changeTill_sent (s : State) (n : Nat) (f : Till → Till) : (s.changeTill n f).sent = s.sent := (rfl)
@[simp] theorem State.changeTill_choices (s : State) (n : Nat) (f : Till → Till) : (s.changeTill n f).choices = s.choices := (rfl)

@[simp] theorem State.changeSlot_pending (s : State) (d : Nat) (f : StockSlot → StockSlot) : (s.changeSlot d f).pending = s.pending := (rfl)
@[simp] theorem State.changeSlot_phase (s : State) (d : Nat) (f : StockSlot → StockSlot) : (s.changeSlot d f).phase = s.phase := (rfl)
@[simp] theorem State.changeSlot_pins (s : State) (d : Nat) (f : StockSlot → StockSlot) : (s.changeSlot d f).pins = s.pins := (rfl)
@[simp] theorem State.changeSlot_valid (s : State) (d : Nat) (f : StockSlot → StockSlot) : (s.changeSlot d f).valid = s.valid := (rfl)
@[simp] theorem State.changeSlot_clean (s : State) (d : Nat) (f : StockSlot → StockSlot) : (s.changeSlot d f).clean = s.clean := (rfl)
@[simp] theorem State.changeSlot_hli (s : State) (d : Nat) (f : StockSlot → StockSlot) : (s.changeSlot d f).hli = s.hli := (rfl)
@[simp] theorem State.changeSlot_oc (s : State) (d : Nat) (f : StockSlot → StockSlot) : (s.changeSlot d f).oc = s.oc := (rfl)
@[simp] theorem State.changeSlot_tps (s : State) (d : Nat) (f : StockSlot → StockSlot) : (s.changeSlot d f).tps = s.tps := (rfl)
@[simp] theorem State.changeSlot_br (s : State) (d : Nat) (f : StockSlot → StockSlot) : (s.changeSlot d f).br = s.br := (rfl)
@[simp] theorem State.changeSlot_csc (s : State) (d : Nat) (f : StockSlot → StockSlot) : (s.changeSlot d f).csc = s.csc := (rfl)
@[simp] theorem State.changeSlot_slc (s : State) (d : Nat) (f : StockSlot → StockSlot) : (s.changeSlot d f).slc = s.slc := (rfl)
@[simp] theorem State.changeSlot_chu (s : State) (d : Nat) (f : StockSlot → StockSlot) : (s.changeSlot d f).chu = s.chu := (rfl)
@[simp] theorem State.changeSlot_receivers (s : State) (d : Nat) (f : StockSlot → StockSlot) : (s.changeSlot d f).receivers = s.receivers := (rfl)
@[simp] theorem State.changeSlot_sent (s : State) (d : Nat) (f : StockSlot → StockSlot) : (s.changeSlot d f).sent = s.sent := (rfl)
@[simp] theorem State.changeSlot_choices (s : State) (d : Nat) (f : StockSlot → StockSlot) : (s.changeSlot d f).choices = s.choices := (rfl)

@[simp] theorem State.changeConsignment_pending (s : State) (c : Nat) (f : Consignment → Consignment) : (s.changeConsignment c f).pending = s.pending := (rfl)
@[simp] theorem State.changeConsignment_phase (s : State) (c : Nat) (f : Consignment → Consignment) : (s.changeConsignment c f).phase = s.phase := (rfl)
@[simp] theorem State.changeConsignment_pins (s : State) (c : Nat) (f : Consignment → Consignment) : (s.changeConsignment c f).pins = s.pins := (rfl)
@[simp] theorem State.changeConsignment_valid (s : State) (c : Nat) (f : Consignment → Consignment) : (s.changeConsignment c f).valid = s.valid := (rfl)
@[simp] theorem State.changeConsignment_clean (s : State) (c : Nat) (f : Consignment → Consignment) : (s.changeConsignment c f).clean = s.clean := (rfl)
@[simp] theorem State.changeConsignment_hli (s : State) (c : Nat) (f : Consignment → Consignment) : (s.changeConsignment c f).hli = s.hli := (rfl)
@[simp] theorem State.changeConsignment_oc (s : State) (c : Nat) (f : Consignment → Consignment) : (s.changeConsignment c f).oc = s.oc := (rfl)
@[simp] theorem State.changeConsignment_st (s : State) (c : Nat) (f : Consignment → Consignment) : (s.changeConsignment c f).st = s.st := (rfl)
@[simp] theorem State.changeConsignment_tps (s : State) (c : Nat) (f : Consignment → Consignment) : (s.changeConsignment c f).tps = s.tps := (rfl)
@[simp] theorem State.changeConsignment_br (s : State) (c : Nat) (f : Consignment → Consignment) : (s.changeConsignment c f).br = s.br := (rfl)
@[simp] theorem State.changeConsignment_csc (s : State) (c : Nat) (f : Consignment → Consignment) : (s.changeConsignment c f).csc = s.csc := (rfl)
@[simp] theorem State.changeConsignment_slc (s : State) (c : Nat) (f : Consignment → Consignment) : (s.changeConsignment c f).slc = s.slc := (rfl)
@[simp] theorem State.changeConsignment_receivers (s : State) (c : Nat) (f : Consignment → Consignment) : (s.changeConsignment c f).receivers = s.receivers := (rfl)
@[simp] theorem State.changeConsignment_sent (s : State) (c : Nat) (f : Consignment → Consignment) : (s.changeConsignment c f).sent = s.sent := (rfl)
@[simp] theorem State.changeConsignment_choices (s : State) (c : Nat) (f : Consignment → Consignment) : (s.changeConsignment c f).choices = s.choices := (rfl)

/-! ### The updated field -/

@[simp] theorem State.send_sent (s : State) (r : SentRecord) : (s.send r).sent = s.sent ++ [r] := (rfl)
@[simp] theorem State.changeSlc_slc (s : State) (f : Slc → Slc) : (s.changeSlc f).slc = f s.slc := (rfl)
@[simp] theorem State.setHandover_chu_handover (s : State) (h : Option Handover) : (s.setHandover h).chu.handover = h := (rfl)
@[simp] theorem State.setHandover_chu_consignments (s : State) (h : Option Handover) : (s.setHandover h).chu.consignments = s.chu.consignments := (rfl)
@[simp] theorem State.setConsignment_chu_handover (s : State) (n : Nat) (c : Consignment) : (s.setConsignment n c).chu.handover = s.chu.handover := (rfl)
@[simp] theorem State.tellOc_oc (s : State) (f : Totals → Totals) : (s.tellOc f).oc = { s.oc with totals := f s.oc.totals } := (rfl)
@[simp] theorem State.setBag_br_priority (s : State) (b : Nat) (x : Option Bag) : (s.setBag b x).br.priority = s.br.priority := (rfl)
@[simp] theorem State.setBag_br_ordinary (s : State) (b : Nat) (x : Option Bag) : (s.setBag b x).br.ordinary = s.br.ordinary := (rfl)
@[simp] theorem State.setBag_br_drops (s : State) (b : Nat) (x : Option Bag) : (s.setBag b x).br.drops = s.br.drops := (rfl)
@[simp] theorem State.setTill_tps_due (s : State) (n : Nat) (t : Till) : (s.setTill n t).tps.due = s.tps.due := (rfl)
@[simp] theorem State.setStation_csc_jobs (s : State) (n : Nat) (x : Station) : (s.setStation n x).csc.jobs = s.csc.jobs := (rfl)
@[simp] theorem State.setSlot_st_denoms (s : State) (d : Nat) (x : StockSlot) : (s.setSlot d x).st.denoms = s.st.denoms := (rfl)
@[simp] theorem State.setSlot_st_held (s : State) (d : Nat) (x : StockSlot) : (s.setSlot d x).st.held = s.st.held := (rfl)
@[simp] theorem State.setSlot_st_reservations (s : State) (d : Nat) (x : StockSlot) : (s.setSlot d x).st.reservations = s.st.reservations := (rfl)

/-! ### A record read after it, or another, is written -/

theorem State.till_setTill_same (s : State) (n : Nat) (t : Till) (h1 : 1 ≤ n) (h2 : n ≤ 96) : (s.setTill n t).till n = t :=
  nth_putNth_same _ _ _ _ h1 h2

theorem State.till_setTill_other (s : State) (n m : Nat) (t : Till) (h : m ≠ n) : (s.setTill n t).till m = s.till m :=
  nth_putNth_other _ _ _ _ _ h

theorem State.station_setStation_same (s : State) (n : Nat) (x : Station) (h1 : 1 ≤ n) (h2 : n ≤ 4) :
    (s.setStation n x).station n = x := nth_putNth_same _ _ _ _ h1 h2

theorem State.station_setStation_other (s : State) (n m : Nat) (x : Station) (h : m ≠ n) :
    (s.setStation n x).station m = s.station m := nth_putNth_other _ _ _ _ _ h

theorem State.consignment_setConsignment_same (s : State) (n : Nat) (c : Consignment) (h1 : 1 ≤ n) (h2 : n ≤ 8) :
    (s.setConsignment n c).consignment n = c := nth_putNth_same _ _ _ _ h1 h2

theorem State.consignment_setConsignment_other (s : State) (n m : Nat) (c : Consignment) (h : m ≠ n) :
    (s.setConsignment n c).consignment m = s.consignment m := nth_putNth_other _ _ _ _ _ h

theorem State.slot_setSlot_same (s : State) (d : Nat) (x : StockSlot) (h1 : 1 ≤ d) (h2 : d ≤ 12) : (s.setSlot d x).slot d = x :=
  nth_putNth_same _ _ _ _ h1 h2

theorem State.slot_setSlot_other (s : State) (d m : Nat) (x : StockSlot) (h : m ≠ d) : (s.setSlot d x).slot m = s.slot m :=
  nth_putNth_other _ _ _ _ _ h

theorem State.bag_setBag_same (s : State) (b : Nat) (x : Option Bag) (h : b < 256) : (s.setBag b x).bag b = x := by
  simp [State.bag, State.setBag, h]

theorem State.bag_setBag_other (s : State) (b c : Nat) (x : Option Bag) (h : c ≠ b) : (s.setBag b x).bag c = s.bag c := by
  simp only [State.bag, State.setBag]
  rw [Vector.getElem?_setIfInBounds_ne (by omega)]

/-- A slot that holds a bag is a slot of the register. -/
theorem State.bag_some_lt (s : State) (b : Nat) (x : Bag) (h : s.bag b = some x) : b < 256 := by
  by_contra hb
  simp [State.bag, show ¬ b < 256 by omega] at h

@[simp] theorem State.setTill_setTill (s : State) (n : Nat) (t u : Till) : (s.setTill n t).setTill n u = s.setTill n u := by
  simp [State.setTill]

@[simp] theorem State.setStation_setStation (s : State) (n : Nat) (x y : Station) :
    (s.setStation n x).setStation n y = s.setStation n y := by simp [State.setStation]

@[simp] theorem State.setConsignment_setConsignment (s : State) (n : Nat) (x y : Consignment) :
    (s.setConsignment n x).setConsignment n y = s.setConsignment n y := by simp [State.setConsignment]

@[simp] theorem State.setSlot_setSlot (s : State) (d : Nat) (x y : StockSlot) :
    (s.setSlot d x).setSlot d y = s.setSlot d y := by simp [State.setSlot]

@[simp] theorem State.setHandover_setHandover (s : State) (h k : Option Handover) :
    (s.setHandover h).setHandover k = s.setHandover k := rfl

/-! ### Reads that depend on one record table alone -/

theorem State.till_congr {s t : State} (h : t.tps = s.tps) (n : Nat) : t.till n = s.till n := by simp [State.till, h]

theorem State.bag_congr {s t : State} (h : t.br = s.br) (b : Nat) : t.bag b = s.bag b := by simp [State.bag, h]

theorem State.station_congr {s t : State} (h : t.csc = s.csc) (n : Nat) : t.station n = s.station n := by
  simp [State.station, h]

theorem State.slot_congr {s t : State} (h : t.st = s.st) (d : Nat) : t.slot d = s.slot d := by simp [State.slot, h]

theorem State.consignment_congr {s t : State} (h : t.chu = s.chu) (c : Nat) : t.consignment c = s.consignment c := by
  simp [State.consignment, h]

/-- A fold over a list keeps whatever every step keeps. -/
theorem foldl_keeps {α β γ : Type} (g : α → γ) (f : α → β → α) (h : ∀ a b, g (f a b) = g a) (l : List β) (a : α) :
    g (l.foldl f a) = g a := by
  induction l generalizing a with
  | nil => rfl
  | cons b bs ih => rw [List.foldl_cons, ih, h]

@[simp] theorem foldl_pending {β : Type} (f : State → β → State) (h : ∀ a b, (f a b).pending = a.pending) (l : List β) (a : State) :
    (l.foldl f a).pending = a.pending := foldl_keeps State.pending f h l a

@[simp] theorem foldl_phase {β : Type} (f : State → β → State) (h : ∀ a b, (f a b).phase = a.phase) (l : List β) (a : State) :
    (l.foldl f a).phase = a.phase := foldl_keeps State.phase f h l a

@[simp] theorem foldl_pins {β : Type} (f : State → β → State) (h : ∀ a b, (f a b).pins = a.pins) (l : List β) (a : State) :
    (l.foldl f a).pins = a.pins := foldl_keeps State.pins f h l a

@[simp] theorem foldl_valid {β : Type} (f : State → β → State) (h : ∀ a b, (f a b).valid = a.valid) (l : List β) (a : State) :
    (l.foldl f a).valid = a.valid := foldl_keeps State.valid f h l a

@[simp] theorem foldl_clean {β : Type} (f : State → β → State) (h : ∀ a b, (f a b).clean = a.clean) (l : List β) (a : State) :
    (l.foldl f a).clean = a.clean := foldl_keeps State.clean f h l a

@[simp] theorem foldl_hli {β : Type} (f : State → β → State) (h : ∀ a b, (f a b).hli = a.hli) (l : List β) (a : State) :
    (l.foldl f a).hli = a.hli := foldl_keeps State.hli f h l a

@[simp] theorem foldl_oc {β : Type} (f : State → β → State) (h : ∀ a b, (f a b).oc = a.oc) (l : List β) (a : State) :
    (l.foldl f a).oc = a.oc := foldl_keeps State.oc f h l a

@[simp] theorem foldl_st {β : Type} (f : State → β → State) (h : ∀ a b, (f a b).st = a.st) (l : List β) (a : State) :
    (l.foldl f a).st = a.st := foldl_keeps State.st f h l a

@[simp] theorem foldl_tps {β : Type} (f : State → β → State) (h : ∀ a b, (f a b).tps = a.tps) (l : List β) (a : State) :
    (l.foldl f a).tps = a.tps := foldl_keeps State.tps f h l a

@[simp] theorem foldl_br {β : Type} (f : State → β → State) (h : ∀ a b, (f a b).br = a.br) (l : List β) (a : State) :
    (l.foldl f a).br = a.br := foldl_keeps State.br f h l a

@[simp] theorem foldl_csc {β : Type} (f : State → β → State) (h : ∀ a b, (f a b).csc = a.csc) (l : List β) (a : State) :
    (l.foldl f a).csc = a.csc := foldl_keeps State.csc f h l a

@[simp] theorem foldl_slc {β : Type} (f : State → β → State) (h : ∀ a b, (f a b).slc = a.slc) (l : List β) (a : State) :
    (l.foldl f a).slc = a.slc := foldl_keeps State.slc f h l a

@[simp] theorem foldl_chu {β : Type} (f : State → β → State) (h : ∀ a b, (f a b).chu = a.chu) (l : List β) (a : State) :
    (l.foldl f a).chu = a.chu := foldl_keeps State.chu f h l a

@[simp] theorem foldl_receivers {β : Type} (f : State → β → State) (h : ∀ a b, (f a b).receivers = a.receivers) (l : List β) (a : State) :
    (l.foldl f a).receivers = a.receivers := foldl_keeps State.receivers f h l a

@[simp] theorem foldl_sent {β : Type} (f : State → β → State) (h : ∀ a b, (f a b).sent = a.sent) (l : List β) (a : State) :
    (l.foldl f a).sent = a.sent := foldl_keeps State.sent f h l a

@[simp] theorem foldl_choices {β : Type} (f : State → β → State) (h : ∀ a b, (f a b).choices = a.choices) (l : List β) (a : State) :
    (l.foldl f a).choices = a.choices := foldl_keeps State.choices f h l a

end Sys2Proof.Machine
end

