-- ==== Sys2Proof/Laws/Frames.lean ====
section
/-! SUPPORT. The frame of each shared operation, said once: the records that it leaves as they stood. Tagged @[simp], so
that no later proof unfolds an operation to see what it does not touch. -/

namespace Sys2Proof.Machine

/-! ### Notices, replies, the transmit line (R171 to R175) -/

@[simp] theorem State.queueNotice_frame (s : State) (n : Notice) :
    (s.queueNotice n).pending = s.pending ∧ (s.queueNotice n).phase = s.phase ∧ (s.queueNotice n).pins = s.pins ∧
    (s.queueNotice n).valid = s.valid ∧ (s.queueNotice n).clean = s.clean ∧ (s.queueNotice n).oc = s.oc ∧
    (s.queueNotice n).st = s.st ∧ (s.queueNotice n).tps = s.tps ∧ (s.queueNotice n).br = s.br ∧
    (s.queueNotice n).csc = s.csc ∧ (s.queueNotice n).slc = s.slc ∧ (s.queueNotice n).chu = s.chu ∧
    (s.queueNotice n).receivers = s.receivers ∧ (s.queueNotice n).sent = s.sent ∧
    (s.queueNotice n).choices = s.choices := by
  unfold State.queueNotice
  try dsimp only
  repeat' split
  all_goals simp

@[simp] theorem State.deferNotice_frame (s : State) (n : Notice) :
    (s.deferNotice n).pending = s.pending ∧ (s.deferNotice n).phase = s.phase ∧ (s.deferNotice n).pins = s.pins ∧
    (s.deferNotice n).valid = s.valid ∧ (s.deferNotice n).clean = s.clean ∧ (s.deferNotice n).hli = s.hli ∧
    (s.deferNotice n).st = s.st ∧ (s.deferNotice n).tps = s.tps ∧ (s.deferNotice n).br = s.br ∧
    (s.deferNotice n).csc = s.csc ∧ (s.deferNotice n).slc = s.slc ∧ (s.deferNotice n).chu = s.chu ∧
    (s.deferNotice n).receivers = s.receivers ∧ (s.deferNotice n).sent = s.sent ∧
    (s.deferNotice n).choices = s.choices := by
  unfold State.deferNotice
  try dsimp only
  repeat' split
  all_goals simp

@[simp] theorem State.place_frame (s : State) (k : NoticeKind) (ds : List Datum) :
    (s.place k ds).pending = s.pending ∧ (s.place k ds).phase = s.phase ∧ (s.place k ds).pins = s.pins ∧
    (s.place k ds).valid = s.valid ∧ (s.place k ds).clean = s.clean ∧ (s.place k ds).st = s.st ∧
    (s.place k ds).tps = s.tps ∧ (s.place k ds).br = s.br ∧ (s.place k ds).csc = s.csc ∧ (s.place k ds).slc = s.slc ∧
    (s.place k ds).chu = s.chu ∧ (s.place k ds).receivers = s.receivers ∧ (s.place k ds).sent = s.sent ∧
    (s.place k ds).choices = s.choices := by
  unfold State.place
  try dsimp only
  repeat' split
  all_goals simp

@[simp] theorem State.startTx_frame (s : State) :
    (s.startTx).pending = s.pending ∧ (s.startTx).phase = s.phase ∧ (s.startTx).pins = s.pins ∧
    (s.startTx).valid = s.valid ∧ (s.startTx).clean = s.clean ∧ (s.startTx).oc = s.oc ∧ (s.startTx).st = s.st ∧
    (s.startTx).tps = s.tps ∧ (s.startTx).br = s.br ∧ (s.startTx).csc = s.csc ∧ (s.startTx).slc = s.slc ∧
    (s.startTx).chu = s.chu ∧ (s.startTx).receivers = s.receivers ∧ (s.startTx).sent = s.sent ∧
    (s.startTx).choices = s.choices := by
  unfold State.startTx
  try dsimp only
  repeat' split
  all_goals simp

theorem State.breakWaits_eq_true {s : State} : s.breakWaits = true ↔ ∃ cs, s.pending = .lineBreak :: cs := by
  unfold State.breakWaits
  split <;> simp_all

/-- All that the queueing of a reply can do: the reply waits to be sent, or a break that waits next was found and it is discarded. -/
theorem State.queueReply_cases (s : State) (r : Reply) :
    let h : Hli := { s.hli with replies := s.hli.replies ++ [r], buffer := markTaken s.hli.buffer, lastReply := some r }
    (s.breakWaits = false ∧ s.queueReply r = { s with hli := h }) ∨
    (s.breakWaits = true ∧ Config.breakFound s.choices = false ∧
      s.queueReply r = { s with choices := s.choices + 1, hli := h }) ∨
    (s.breakWaits = true ∧ Config.breakFound s.choices = true ∧
      s.queueReply r = { s with choices := s.choices + 1, hli := { s.hli.broken with lastReply := some r } }) := by
  unfold State.queueReply
  cases s.breakWaits <;> cases Config.breakFound s.choices <;> simp

@[simp] theorem State.queueReply_frame (s : State) (r : Reply) :
    (s.queueReply r).pending = s.pending ∧ (s.queueReply r).phase = s.phase ∧ (s.queueReply r).pins = s.pins ∧
    (s.queueReply r).valid = s.valid ∧ (s.queueReply r).clean = s.clean ∧ (s.queueReply r).oc = s.oc ∧
    (s.queueReply r).st = s.st ∧ (s.queueReply r).tps = s.tps ∧ (s.queueReply r).br = s.br ∧
    (s.queueReply r).csc = s.csc ∧ (s.queueReply r).slc = s.slc ∧ (s.queueReply r).chu = s.chu ∧
    (s.queueReply r).receivers = s.receivers ∧ (s.queueReply r).sent = s.sent := by
  obtain ⟨-, h⟩ | ⟨-, -, h⟩ | ⟨-, -, h⟩ := s.queueReply_cases r <;> simp [h]

/-- The reply to the request the buffer hands over next (R172, R173). -/
theorem State.formReply_next {s : State} {e : BufferEntry} (h : s.nextRequest = some e) (c : Option Code) (ds : List Datum) :
    s.formReply e.request c ds =
      s.queueReply { tag := e.tag, kind := requestKind e.request, status := c, detail := ds, holdsPlace := true } := by
  simp [State.formReply, h]

@[simp] theorem State.formReply_frame (s : State) (i : Instr) (c : Option Code) (ds : List Datum) :
    (s.formReply i c ds).pending = s.pending ∧ (s.formReply i c ds).phase = s.phase ∧ (s.formReply i c ds).pins = s.pins ∧
    (s.formReply i c ds).valid = s.valid ∧ (s.formReply i c ds).clean = s.clean ∧ (s.formReply i c ds).oc = s.oc ∧
    (s.formReply i c ds).st = s.st ∧ (s.formReply i c ds).tps = s.tps ∧ (s.formReply i c ds).br = s.br ∧
    (s.formReply i c ds).csc = s.csc ∧ (s.formReply i c ds).slc = s.slc ∧ (s.formReply i c ds).chu = s.chu ∧
    (s.formReply i c ds).receivers = s.receivers ∧ (s.formReply i c ds).sent = s.sent := by
  unfold State.formReply
  try dsimp only
  repeat' split
  all_goals simp

@[simp] theorem State.lineReply_frame (s : State) (tag kind : Nat) (c : Code) :
    (s.lineReply tag kind c).pending = s.pending ∧ (s.lineReply tag kind c).phase = s.phase ∧
    (s.lineReply tag kind c).pins = s.pins ∧ (s.lineReply tag kind c).valid = s.valid ∧
    (s.lineReply tag kind c).clean = s.clean ∧ (s.lineReply tag kind c).oc = s.oc ∧ (s.lineReply tag kind c).st = s.st ∧
    (s.lineReply tag kind c).tps = s.tps ∧ (s.lineReply tag kind c).br = s.br ∧ (s.lineReply tag kind c).csc = s.csc ∧
    (s.lineReply tag kind c).slc = s.slc ∧ (s.lineReply tag kind c).chu = s.chu ∧
    (s.lineReply tag kind c).receivers = s.receivers ∧ (s.lineReply tag kind c).sent = s.sent ∧
    (s.lineReply tag kind c).choices = s.choices := by
  unfold State.lineReply
  try dsimp only
  repeat' split
  all_goals simp

/-! ### Bags and the count queue (R86, R99 to R101) -/

@[simp] theorem State.changeBag_frame (s : State) (b : Nat) (f : Bag → Bag) :
    (s.changeBag b f).pending = s.pending ∧ (s.changeBag b f).phase = s.phase ∧ (s.changeBag b f).pins = s.pins ∧
    (s.changeBag b f).valid = s.valid ∧ (s.changeBag b f).clean = s.clean ∧ (s.changeBag b f).hli = s.hli ∧
    (s.changeBag b f).oc = s.oc ∧ (s.changeBag b f).st = s.st ∧ (s.changeBag b f).tps = s.tps ∧
    (s.changeBag b f).csc = s.csc ∧ (s.changeBag b f).slc = s.slc ∧ (s.changeBag b f).chu = s.chu ∧
    (s.changeBag b f).receivers = s.receivers ∧ (s.changeBag b f).sent = s.sent ∧
    (s.changeBag b f).choices = s.choices := by
  unfold State.changeBag
  try dsimp only
  repeat' split
  all_goals simp

@[simp] theorem State.moveBag_frame (s : State) (b : Nat) (x : BagState) :
    (s.moveBag b x).pending = s.pending ∧ (s.moveBag b x).phase = s.phase ∧ (s.moveBag b x).pins = s.pins ∧
    (s.moveBag b x).valid = s.valid ∧ (s.moveBag b x).clean = s.clean ∧ (s.moveBag b x).hli = s.hli ∧
    (s.moveBag b x).oc = s.oc ∧ (s.moveBag b x).st = s.st ∧ (s.moveBag b x).tps = s.tps ∧ (s.moveBag b x).csc = s.csc ∧
    (s.moveBag b x).slc = s.slc ∧ (s.moveBag b x).chu = s.chu ∧ (s.moveBag b x).receivers = s.receivers ∧
    (s.moveBag b x).sent = s.sent ∧ (s.moveBag b x).choices = s.choices := by
  simp [State.moveBag]

@[simp] theorem State.enqueueTail_frame (s : State) (b : Nat) (c : QueueClass) :
    (s.enqueueTail b c).pending = s.pending ∧ (s.enqueueTail b c).phase = s.phase ∧ (s.enqueueTail b c).pins = s.pins ∧
    (s.enqueueTail b c).valid = s.valid ∧ (s.enqueueTail b c).clean = s.clean ∧ (s.enqueueTail b c).hli = s.hli ∧
    (s.enqueueTail b c).oc = s.oc ∧ (s.enqueueTail b c).st = s.st ∧ (s.enqueueTail b c).tps = s.tps ∧
    (s.enqueueTail b c).csc = s.csc ∧ (s.enqueueTail b c).slc = s.slc ∧ (s.enqueueTail b c).chu = s.chu ∧
    (s.enqueueTail b c).receivers = s.receivers ∧ (s.enqueueTail b c).sent = s.sent ∧
    (s.enqueueTail b c).choices = s.choices := by
  cases c <;> simp [State.enqueueTail]

@[simp] theorem State.enqueueHead_frame (s : State) (b : Nat) (c : QueueClass) :
    (s.enqueueHead b c).pending = s.pending ∧ (s.enqueueHead b c).phase = s.phase ∧ (s.enqueueHead b c).pins = s.pins ∧
    (s.enqueueHead b c).valid = s.valid ∧ (s.enqueueHead b c).clean = s.clean ∧ (s.enqueueHead b c).hli = s.hli ∧
    (s.enqueueHead b c).oc = s.oc ∧ (s.enqueueHead b c).st = s.st ∧ (s.enqueueHead b c).tps = s.tps ∧
    (s.enqueueHead b c).csc = s.csc ∧ (s.enqueueHead b c).slc = s.slc ∧ (s.enqueueHead b c).chu = s.chu ∧
    (s.enqueueHead b c).receivers = s.receivers ∧ (s.enqueueHead b c).sent = s.sent ∧
    (s.enqueueHead b c).choices = s.choices := by
  cases c <;> simp [State.enqueueHead]

@[simp] theorem State.dequeue_frame (s : State) (b : Nat) :
    (s.dequeue b).pending = s.pending ∧ (s.dequeue b).phase = s.phase ∧ (s.dequeue b).pins = s.pins ∧
    (s.dequeue b).valid = s.valid ∧ (s.dequeue b).clean = s.clean ∧ (s.dequeue b).hli = s.hli ∧ (s.dequeue b).oc = s.oc ∧
    (s.dequeue b).st = s.st ∧ (s.dequeue b).tps = s.tps ∧ (s.dequeue b).csc = s.csc ∧ (s.dequeue b).slc = s.slc ∧
    (s.dequeue b).chu = s.chu ∧ (s.dequeue b).receivers = s.receivers ∧ (s.dequeue b).sent = s.sent ∧
    (s.dequeue b).choices = s.choices := by
  simp [State.dequeue]

@[simp] theorem State.drainToPriority_frame (s : State) (n : Nat) :
    (s.drainToPriority n).pending = s.pending ∧ (s.drainToPriority n).phase = s.phase ∧
    (s.drainToPriority n).pins = s.pins ∧ (s.drainToPriority n).valid = s.valid ∧ (s.drainToPriority n).clean = s.clean ∧
    (s.drainToPriority n).hli = s.hli ∧ (s.drainToPriority n).oc = s.oc ∧ (s.drainToPriority n).st = s.st ∧
    (s.drainToPriority n).tps = s.tps ∧ (s.drainToPriority n).csc = s.csc ∧ (s.drainToPriority n).slc = s.slc ∧
    (s.drainToPriority n).chu = s.chu ∧ (s.drainToPriority n).receivers = s.receivers ∧
    (s.drainToPriority n).sent = s.sent ∧ (s.drainToPriority n).choices = s.choices := by
  simp [State.drainToPriority]

/-! ### Tills (R48, R54 to R62) -/

@[simp] theorem State.reconcile_frame (s : State) (n : Nat) :
    (s.reconcile n).pending = s.pending ∧ (s.reconcile n).phase = s.phase ∧ (s.reconcile n).pins = s.pins ∧
    (s.reconcile n).valid = s.valid ∧ (s.reconcile n).clean = s.clean ∧ (s.reconcile n).st = s.st ∧
    (s.reconcile n).br = s.br ∧ (s.reconcile n).csc = s.csc ∧ (s.reconcile n).slc = s.slc ∧ (s.reconcile n).chu = s.chu ∧
    (s.reconcile n).receivers = s.receivers ∧ (s.reconcile n).sent = s.sent ∧ (s.reconcile n).choices = s.choices := by
  unfold State.reconcile
  try dsimp only
  repeat' split
  all_goals simp

@[simp] theorem State.tellCounted_frame (s : State) (b : Nat) :
    (s.tellCounted b).pending = s.pending ∧ (s.tellCounted b).phase = s.phase ∧ (s.tellCounted b).pins = s.pins ∧
    (s.tellCounted b).valid = s.valid ∧ (s.tellCounted b).clean = s.clean ∧ (s.tellCounted b).st = s.st ∧
    (s.tellCounted b).br = s.br ∧ (s.tellCounted b).csc = s.csc ∧ (s.tellCounted b).slc = s.slc ∧
    (s.tellCounted b).chu = s.chu ∧ (s.tellCounted b).receivers = s.receivers ∧ (s.tellCounted b).sent = s.sent ∧
    (s.tellCounted b).choices = s.choices := by
  unfold State.tellCounted
  try dsimp only
  repeat' split
  all_goals simp

@[simp] theorem State.loseBag_frame (s : State) (b : Nat) :
    (s.loseBag b).pending = s.pending ∧ (s.loseBag b).phase = s.phase ∧ (s.loseBag b).pins = s.pins ∧
    (s.loseBag b).valid = s.valid ∧ (s.loseBag b).clean = s.clean ∧ (s.loseBag b).st = s.st ∧ (s.loseBag b).csc = s.csc ∧
    (s.loseBag b).slc = s.slc ∧ (s.loseBag b).chu = s.chu ∧ (s.loseBag b).receivers = s.receivers ∧
    (s.loseBag b).sent = s.sent ∧ (s.loseBag b).choices = s.choices := by
  unfold State.loseBag
  try dsimp only
  repeat' split
  all_goals simp

@[simp] theorem State.evaluate_frame (s : State) (n m : Nat) :
    (s.evaluate n m).pending = s.pending ∧ (s.evaluate n m).phase = s.phase ∧ (s.evaluate n m).pins = s.pins ∧
    (s.evaluate n m).valid = s.valid ∧ (s.evaluate n m).clean = s.clean ∧ (s.evaluate n m).st = s.st ∧
    (s.evaluate n m).br = s.br ∧ (s.evaluate n m).csc = s.csc ∧ (s.evaluate n m).slc = s.slc ∧
    (s.evaluate n m).chu = s.chu ∧ (s.evaluate n m).receivers = s.receivers ∧ (s.evaluate n m).sent = s.sent ∧
    (s.evaluate n m).choices = s.choices := by
  unfold State.evaluate
  try dsimp only
  repeat' split
  all_goals simp

@[simp] theorem State.minuteEvent_frame (s : State) (m : Nat) :
    (s.minuteEvent m).pending = s.pending ∧ (s.minuteEvent m).phase = s.phase ∧ (s.minuteEvent m).pins = s.pins ∧
    (s.minuteEvent m).valid = s.valid ∧ (s.minuteEvent m).clean = s.clean ∧ (s.minuteEvent m).st = s.st ∧
    (s.minuteEvent m).br = s.br ∧ (s.minuteEvent m).csc = s.csc ∧ (s.minuteEvent m).slc = s.slc ∧
    (s.minuteEvent m).chu = s.chu ∧ (s.minuteEvent m).receivers = s.receivers ∧ (s.minuteEvent m).sent = s.sent ∧
    (s.minuteEvent m).choices = s.choices := by
  simp [State.minuteEvent]

@[simp] theorem State.joinSession_frame (s : State) (n b v : Nat) :
    (s.joinSession n b v).pending = s.pending ∧ (s.joinSession n b v).phase = s.phase ∧
    (s.joinSession n b v).pins = s.pins ∧ (s.joinSession n b v).valid = s.valid ∧ (s.joinSession n b v).clean = s.clean ∧
    (s.joinSession n b v).hli = s.hli ∧ (s.joinSession n b v).oc = s.oc ∧ (s.joinSession n b v).st = s.st ∧
    (s.joinSession n b v).br = s.br ∧ (s.joinSession n b v).csc = s.csc ∧ (s.joinSession n b v).slc = s.slc ∧
    (s.joinSession n b v).chu = s.chu ∧ (s.joinSession n b v).receivers = s.receivers ∧
    (s.joinSession n b v).sent = s.sent ∧ (s.joinSession n b v).choices = s.choices := by
  simp [State.joinSession]

@[simp] theorem State.uncompose_frame (s : State) (n : Nat) :
    (s.uncompose n).pending = s.pending ∧ (s.uncompose n).phase = s.phase ∧ (s.uncompose n).pins = s.pins ∧
    (s.uncompose n).valid = s.valid ∧ (s.uncompose n).clean = s.clean ∧ (s.uncompose n).hli = s.hli ∧
    (s.uncompose n).oc = s.oc ∧ (s.uncompose n).st = s.st ∧ (s.uncompose n).br = s.br ∧ (s.uncompose n).csc = s.csc ∧
    (s.uncompose n).slc = s.slc ∧ (s.uncompose n).chu = s.chu ∧ (s.uncompose n).receivers = s.receivers ∧
    (s.uncompose n).sent = s.sent ∧ (s.uncompose n).choices = s.choices := by
  simp [State.uncompose]

@[simp] theorem State.floatExpired_frame (s : State) (n : Nat) :
    (s.floatExpired n).pending = s.pending ∧ (s.floatExpired n).phase = s.phase ∧ (s.floatExpired n).pins = s.pins ∧
    (s.floatExpired n).valid = s.valid ∧ (s.floatExpired n).clean = s.clean ∧ (s.floatExpired n).br = s.br ∧
    (s.floatExpired n).csc = s.csc ∧ (s.floatExpired n).slc = s.slc ∧ (s.floatExpired n).chu = s.chu ∧
    (s.floatExpired n).receivers = s.receivers ∧ (s.floatExpired n).sent = s.sent ∧
    (s.floatExpired n).choices = s.choices := by
  simp [State.floatExpired]

/-! ### Stock and credits (R5, R6, R8, R11) -/

@[simp] theorem State.takeLines_frame (s : State) (ls : List ContentLine) :
    (s.takeLines ls).pending = s.pending ∧ (s.takeLines ls).phase = s.phase ∧ (s.takeLines ls).pins = s.pins ∧
    (s.takeLines ls).valid = s.valid ∧ (s.takeLines ls).clean = s.clean ∧ (s.takeLines ls).hli = s.hli ∧
    (s.takeLines ls).oc = s.oc ∧ (s.takeLines ls).tps = s.tps ∧ (s.takeLines ls).br = s.br ∧ (s.takeLines ls).csc = s.csc ∧
    (s.takeLines ls).slc = s.slc ∧ (s.takeLines ls).chu = s.chu ∧ (s.takeLines ls).receivers = s.receivers ∧
    (s.takeLines ls).sent = s.sent ∧ (s.takeLines ls).choices = s.choices := by
  simp [State.takeLines]

@[simp] theorem State.addSuspects_frame (s : State) (t : Vector Counts 12) :
    (s.addSuspects t).pending = s.pending ∧ (s.addSuspects t).phase = s.phase ∧ (s.addSuspects t).pins = s.pins ∧
    (s.addSuspects t).valid = s.valid ∧ (s.addSuspects t).clean = s.clean ∧ (s.addSuspects t).hli = s.hli ∧
    (s.addSuspects t).tps = s.tps ∧ (s.addSuspects t).br = s.br ∧ (s.addSuspects t).csc = s.csc ∧
    (s.addSuspects t).slc = s.slc ∧ (s.addSuspects t).chu = s.chu ∧ (s.addSuspects t).receivers = s.receivers ∧
    (s.addSuspects t).sent = s.sent ∧ (s.addSuspects t).choices = s.choices := by
  simp [State.addSuspects]

@[simp] theorem State.applyCredit_frame (s : State) (b : Nat) (t : Vector Counts 12) :
    (s.applyCredit b t).pending = s.pending ∧ (s.applyCredit b t).phase = s.phase ∧ (s.applyCredit b t).pins = s.pins ∧
    (s.applyCredit b t).valid = s.valid ∧ (s.applyCredit b t).clean = s.clean ∧ (s.applyCredit b t).csc = s.csc ∧
    (s.applyCredit b t).slc = s.slc ∧ (s.applyCredit b t).chu = s.chu ∧ (s.applyCredit b t).receivers = s.receivers ∧
    (s.applyCredit b t).sent = s.sent ∧ (s.applyCredit b t).choices = s.choices := by
  simp [State.applyCredit]

@[simp] theorem State.credit_frame (s : State) (b : Nat) (t : Vector Counts 12) :
    (s.credit b t).pending = s.pending ∧ (s.credit b t).phase = s.phase ∧ (s.credit b t).pins = s.pins ∧
    (s.credit b t).valid = s.valid ∧ (s.credit b t).clean = s.clean ∧ (s.credit b t).csc = s.csc ∧
    (s.credit b t).slc = s.slc ∧ (s.credit b t).chu = s.chu ∧ (s.credit b t).receivers = s.receivers ∧
    (s.credit b t).sent = s.sent ∧ (s.credit b t).choices = s.choices := by
  unfold State.credit
  try dsimp only
  repeat' split
  all_goals simp

@[simp] theorem State.retryOne_frame (p : Nat × Source) (s : State) (e : HeldCredit) :
    (s.retryOne p e).pending = s.pending ∧ (s.retryOne p e).phase = s.phase ∧ (s.retryOne p e).pins = s.pins ∧
    (s.retryOne p e).valid = s.valid ∧ (s.retryOne p e).clean = s.clean ∧ (s.retryOne p e).csc = s.csc ∧
    (s.retryOne p e).slc = s.slc ∧ (s.retryOne p e).chu = s.chu ∧ (s.retryOne p e).receivers = s.receivers ∧
    (s.retryOne p e).sent = s.sent ∧ (s.retryOne p e).choices = s.choices := by
  unfold State.retryOne
  try dsimp only
  repeat' split
  all_goals simp

@[simp] theorem State.retryPass_frame (s : State) (p : Nat × Source) :
    (s.retryPass p).pending = s.pending ∧ (s.retryPass p).phase = s.phase ∧ (s.retryPass p).pins = s.pins ∧
    (s.retryPass p).valid = s.valid ∧ (s.retryPass p).clean = s.clean ∧ (s.retryPass p).csc = s.csc ∧
    (s.retryPass p).slc = s.slc ∧ (s.retryPass p).chu = s.chu ∧ (s.retryPass p).receivers = s.receivers ∧
    (s.retryPass p).sent = s.sent ∧ (s.retryPass p).choices = s.choices := by
  simp [State.retryPass]

@[simp] theorem State.retryPasses_frame (s : State) (ps : List (Nat × Source)) :
    (s.retryPasses ps).pending = s.pending ∧ (s.retryPasses ps).phase = s.phase ∧ (s.retryPasses ps).pins = s.pins ∧
    (s.retryPasses ps).valid = s.valid ∧ (s.retryPasses ps).clean = s.clean ∧ (s.retryPasses ps).csc = s.csc ∧
    (s.retryPasses ps).slc = s.slc ∧ (s.retryPasses ps).chu = s.chu ∧ (s.retryPasses ps).receivers = s.receivers ∧
    (s.retryPasses ps).sent = s.sent ∧ (s.retryPasses ps).choices = s.choices := by
  simp [State.retryPasses]

/-! ### The shutter and the drops (R92 to R95) -/

@[simp] theorem State.decideShutter_frame (s : State) :
    (s.decideShutter).pending = s.pending ∧ (s.decideShutter).phase = s.phase ∧ (s.decideShutter).pins = s.pins ∧
    (s.decideShutter).valid = s.valid ∧ (s.decideShutter).clean = s.clean ∧ (s.decideShutter).st = s.st ∧
    (s.decideShutter).tps = s.tps ∧ (s.decideShutter).br = s.br ∧ (s.decideShutter).csc = s.csc ∧
    (s.decideShutter).chu = s.chu ∧ (s.decideShutter).receivers = s.receivers ∧ (s.decideShutter).sent = s.sent ∧
    (s.decideShutter).choices = s.choices := by
  unfold State.decideShutter
  try dsimp only
  repeat' split
  all_goals simp

@[simp] theorem State.orphanDrop_frame (s : State) (q : Option Nat) (r : OrphanReason) :
    (s.orphanDrop q r).pending = s.pending ∧ (s.orphanDrop q r).phase = s.phase ∧ (s.orphanDrop q r).pins = s.pins ∧
    (s.orphanDrop q r).valid = s.valid ∧ (s.orphanDrop q r).clean = s.clean ∧ (s.orphanDrop q r).st = s.st ∧
    (s.orphanDrop q r).tps = s.tps ∧ (s.orphanDrop q r).csc = s.csc ∧ (s.orphanDrop q r).chu = s.chu ∧
    (s.orphanDrop q r).receivers = s.receivers ∧ (s.orphanDrop q r).sent = s.sent ∧
    (s.orphanDrop q r).choices = s.choices := by
  unfold State.orphanDrop
  try dsimp only
  repeat' split
  all_goals simp

@[simp] theorem State.resolveDrop_frame (s : State) (q : Option Nat) :
    (s.resolveDrop q).pending = s.pending ∧ (s.resolveDrop q).phase = s.phase ∧ (s.resolveDrop q).pins = s.pins ∧
    (s.resolveDrop q).valid = s.valid ∧ (s.resolveDrop q).clean = s.clean ∧ (s.resolveDrop q).st = s.st ∧
    (s.resolveDrop q).tps = s.tps ∧ (s.resolveDrop q).csc = s.csc ∧ (s.resolveDrop q).chu = s.chu ∧
    (s.resolveDrop q).receivers = s.receivers ∧ (s.resolveDrop q).sent = s.sent ∧
    (s.resolveDrop q).choices = s.choices := by
  unfold State.resolveDrop
  try dsimp only
  repeat' split
  all_goals simp

@[simp] theorem State.resolveOldest_frame (s : State) (q : Option Nat) :
    (s.resolveOldest q).pending = s.pending ∧ (s.resolveOldest q).phase = s.phase ∧ (s.resolveOldest q).pins = s.pins ∧
    (s.resolveOldest q).valid = s.valid ∧ (s.resolveOldest q).clean = s.clean ∧ (s.resolveOldest q).st = s.st ∧
    (s.resolveOldest q).tps = s.tps ∧ (s.resolveOldest q).csc = s.csc ∧ (s.resolveOldest q).chu = s.chu ∧
    (s.resolveOldest q).receivers = s.receivers ∧ (s.resolveOldest q).sent = s.sent ∧
    (s.resolveOldest q).choices = s.choices := by
  unfold State.resolveOldest
  try dsimp only
  repeat' split
  all_goals simp

@[simp] theorem State.passage_frame (s : State) :
    (s.passage).pending = s.pending ∧ (s.passage).phase = s.phase ∧ (s.passage).pins = s.pins ∧
    (s.passage).valid = s.valid ∧ (s.passage).clean = s.clean ∧ (s.passage).st = s.st ∧ (s.passage).tps = s.tps ∧
    (s.passage).csc = s.csc ∧ (s.passage).chu = s.chu ∧ (s.passage).receivers = s.receivers ∧ (s.passage).sent = s.sent ∧
    (s.passage).choices = s.choices := by
  unfold State.passage
  split <;> simp

/-! ### Stations (R107, R111 to R133) -/

@[simp] theorem State.changeStation_frame (s : State) (n : Nat) (f : Station → Station) :
    (s.changeStation n f).pending = s.pending ∧ (s.changeStation n f).phase = s.phase ∧
    (s.changeStation n f).pins = s.pins ∧ (s.changeStation n f).valid = s.valid ∧ (s.changeStation n f).clean = s.clean ∧
    (s.changeStation n f).hli = s.hli ∧ (s.changeStation n f).oc = s.oc ∧ (s.changeStation n f).st = s.st ∧
    (s.changeStation n f).tps = s.tps ∧ (s.changeStation n f).br = s.br ∧ (s.changeStation n f).slc = s.slc ∧
    (s.changeStation n f).chu = s.chu ∧ (s.changeStation n f).receivers = s.receivers ∧
    (s.changeStation n f).sent = s.sent ∧ (s.changeStation n f).choices = s.choices := by
  simp [State.changeStation]

@[simp] theorem State.sendStation_frame (s : State) (n : Nat) (r : ToStation) :
    (s.sendStation n r).pending = s.pending ∧ (s.sendStation n r).phase = s.phase ∧ (s.sendStation n r).pins = s.pins ∧
    (s.sendStation n r).valid = s.valid ∧ (s.sendStation n r).clean = s.clean ∧ (s.sendStation n r).hli = s.hli ∧
    (s.sendStation n r).oc = s.oc ∧ (s.sendStation n r).st = s.st ∧ (s.sendStation n r).tps = s.tps ∧
    (s.sendStation n r).br = s.br ∧ (s.sendStation n r).csc = s.csc ∧ (s.sendStation n r).slc = s.slc ∧
    (s.sendStation n r).chu = s.chu ∧ (s.sendStation n r).receivers = s.receivers ∧
    (s.sendStation n r).choices = s.choices := by
  simp [State.sendStation]

@[simp] theorem State.changePart_frame (s : State) (b n : Nat) (f : JobPart → JobPart) :
    (s.changePart b n f).pending = s.pending ∧ (s.changePart b n f).phase = s.phase ∧ (s.changePart b n f).pins = s.pins ∧
    (s.changePart b n f).valid = s.valid ∧ (s.changePart b n f).clean = s.clean ∧ (s.changePart b n f).hli = s.hli ∧
    (s.changePart b n f).oc = s.oc ∧ (s.changePart b n f).st = s.st ∧ (s.changePart b n f).tps = s.tps ∧
    (s.changePart b n f).br = s.br ∧ (s.changePart b n f).slc = s.slc ∧ (s.changePart b n f).chu = s.chu ∧
    (s.changePart b n f).receivers = s.receivers ∧ (s.changePart b n f).sent = s.sent ∧
    (s.changePart b n f).choices = s.choices := by
  simp [State.changePart]

@[simp] theorem State.stationNotice_frame (s : State) (n : Nat) (r : Option AbortReason) :
    (s.stationNotice n r).pending = s.pending ∧ (s.stationNotice n r).phase = s.phase ∧
    (s.stationNotice n r).pins = s.pins ∧ (s.stationNotice n r).valid = s.valid ∧ (s.stationNotice n r).clean = s.clean ∧
    (s.stationNotice n r).st = s.st ∧ (s.stationNotice n r).tps = s.tps ∧ (s.stationNotice n r).br = s.br ∧
    (s.stationNotice n r).csc = s.csc ∧ (s.stationNotice n r).slc = s.slc ∧ (s.stationNotice n r).chu = s.chu ∧
    (s.stationNotice n r).receivers = s.receivers ∧ (s.stationNotice n r).sent = s.sent ∧
    (s.stationNotice n r).choices = s.choices := by
  simp [State.stationNotice]

@[simp] theorem State.assignStation_frame (b : Nat) (s : State) (a : Nat × Portion × Option Nat) :
    (State.assignStation b s a).pending = s.pending ∧ (State.assignStation b s a).phase = s.phase ∧
    (State.assignStation b s a).pins = s.pins ∧ (State.assignStation b s a).valid = s.valid ∧
    (State.assignStation b s a).clean = s.clean ∧ (State.assignStation b s a).hli = s.hli ∧
    (State.assignStation b s a).oc = s.oc ∧ (State.assignStation b s a).st = s.st ∧
    (State.assignStation b s a).tps = s.tps ∧ (State.assignStation b s a).br = s.br ∧
    (State.assignStation b s a).slc = s.slc ∧ (State.assignStation b s a).chu = s.chu ∧
    (State.assignStation b s a).receivers = s.receivers ∧ (State.assignStation b s a).choices = s.choices := by
  simp [State.assignStation]

@[simp] theorem State.assign_frame (s : State) (b : Nat) (l : List (Nat × Portion × Option Nat)) :
    (s.assign b l).pending = s.pending ∧ (s.assign b l).phase = s.phase ∧ (s.assign b l).pins = s.pins ∧
    (s.assign b l).valid = s.valid ∧ (s.assign b l).clean = s.clean ∧ (s.assign b l).hli = s.hli ∧
    (s.assign b l).oc = s.oc ∧ (s.assign b l).st = s.st ∧ (s.assign b l).tps = s.tps ∧ (s.assign b l).slc = s.slc ∧
    (s.assign b l).chu = s.chu ∧ (s.assign b l).receivers = s.receivers ∧
    (s.assign b l).choices = s.choices := by
  simp [State.assign]

theorem State.arbiterStep_frame (s t : State) (h : s.arbiterStep = some t) :
    (t).pending = s.pending ∧ (t).phase = s.phase ∧ (t).pins = s.pins ∧ (t).valid = s.valid ∧ (t).clean = s.clean ∧
    (t).hli = s.hli ∧ (t).oc = s.oc ∧ (t).st = s.st ∧ (t).tps = s.tps ∧ (t).slc = s.slc ∧ (t).chu = s.chu ∧
    (t).receivers = s.receivers ∧ (t).choices = s.choices := by
  unfold State.arbiterStep at h
  dsimp only at h
  repeat' split at h
  all_goals cases h
  all_goals simp

@[simp] theorem State.arbiterSteps_frame (k : Nat) (s : State) :
    (State.arbiterSteps k s).pending = s.pending ∧ (State.arbiterSteps k s).phase = s.phase ∧
    (State.arbiterSteps k s).pins = s.pins ∧ (State.arbiterSteps k s).valid = s.valid ∧
    (State.arbiterSteps k s).clean = s.clean ∧ (State.arbiterSteps k s).hli = s.hli ∧ (State.arbiterSteps k s).oc = s.oc ∧
    (State.arbiterSteps k s).st = s.st ∧ (State.arbiterSteps k s).tps = s.tps ∧ (State.arbiterSteps k s).slc = s.slc ∧
    (State.arbiterSteps k s).chu = s.chu ∧ (State.arbiterSteps k s).receivers = s.receivers ∧
    (State.arbiterSteps k s).choices = s.choices := by
  induction k generalizing s with
  | zero => simp [State.arbiterSteps]
  | succ k ih =>
    unfold State.arbiterSteps
    split
    · simp
    · rename_i t h
      have := State.arbiterStep_frame s t h
      simp [ih, this]

@[simp] theorem State.arbiterPass_frame (s : State) :
    (s.arbiterPass).pending = s.pending ∧ (s.arbiterPass).phase = s.phase ∧ (s.arbiterPass).pins = s.pins ∧
    (s.arbiterPass).valid = s.valid ∧ (s.arbiterPass).clean = s.clean ∧ (s.arbiterPass).hli = s.hli ∧
    (s.arbiterPass).oc = s.oc ∧ (s.arbiterPass).st = s.st ∧ (s.arbiterPass).tps = s.tps ∧ (s.arbiterPass).slc = s.slc ∧
    (s.arbiterPass).chu = s.chu ∧ (s.arbiterPass).receivers = s.receivers ∧ (s.arbiterPass).choices = s.choices := by
  unfold State.arbiterPass
  try dsimp only
  repeat' split
  all_goals simp

@[simp] theorem State.sendGos_frame (s : State) :
    (s.sendGos).pending = s.pending ∧ (s.sendGos).phase = s.phase ∧ (s.sendGos).pins = s.pins ∧
    (s.sendGos).valid = s.valid ∧ (s.sendGos).clean = s.clean ∧ (s.sendGos).hli = s.hli ∧ (s.sendGos).oc = s.oc ∧
    (s.sendGos).st = s.st ∧ (s.sendGos).tps = s.tps ∧ (s.sendGos).br = s.br ∧ (s.sendGos).slc = s.slc ∧
    (s.sendGos).chu = s.chu ∧ (s.sendGos).receivers = s.receivers ∧ (s.sendGos).choices = s.choices := by
  unfold State.sendGos
  simp [apply_ite State.pending, apply_ite State.phase, apply_ite State.pins, apply_ite State.valid, apply_ite State.clean,
    apply_ite State.hli, apply_ite State.oc, apply_ite State.st, apply_ite State.tps, apply_ite State.br,
    apply_ite State.slc, apply_ite State.chu, apply_ite State.receivers, apply_ite State.choices]

@[simp] theorem State.pause_frame (s : State) (n : Nat) :
    (s.pause n).pending = s.pending ∧ (s.pause n).phase = s.phase ∧ (s.pause n).pins = s.pins ∧
    (s.pause n).valid = s.valid ∧ (s.pause n).clean = s.clean ∧ (s.pause n).hli = s.hli ∧ (s.pause n).oc = s.oc ∧
    (s.pause n).st = s.st ∧ (s.pause n).tps = s.tps ∧ (s.pause n).br = s.br ∧ (s.pause n).slc = s.slc ∧
    (s.pause n).chu = s.chu ∧ (s.pause n).receivers = s.receivers ∧ (s.pause n).choices = s.choices := by
  unfold State.pause
  try dsimp only
  repeat' split
  all_goals simp

@[simp] theorem State.requeueAborted_frame (s : State) (b : Nat) (r : AbortReason) :
    (s.requeueAborted b r).pending = s.pending ∧ (s.requeueAborted b r).phase = s.phase ∧
    (s.requeueAborted b r).pins = s.pins ∧ (s.requeueAborted b r).valid = s.valid ∧
    (s.requeueAborted b r).clean = s.clean ∧ (s.requeueAborted b r).st = s.st ∧ (s.requeueAborted b r).tps = s.tps ∧
    (s.requeueAborted b r).csc = s.csc ∧ (s.requeueAborted b r).slc = s.slc ∧ (s.requeueAborted b r).chu = s.chu ∧
    (s.requeueAborted b r).receivers = s.receivers ∧ (s.requeueAborted b r).sent = s.sent ∧
    (s.requeueAborted b r).choices = s.choices := by
  unfold State.requeueAborted
  try dsimp only
  repeat' split
  all_goals simp

@[simp] theorem State.abortJob_frame (s : State) (n : Nat) (r : AbortReason) :
    (s.abortJob n r).pending = s.pending ∧ (s.abortJob n r).phase = s.phase ∧ (s.abortJob n r).pins = s.pins ∧
    (s.abortJob n r).valid = s.valid ∧ (s.abortJob n r).clean = s.clean ∧ (s.abortJob n r).st = s.st ∧
    (s.abortJob n r).tps = s.tps ∧ (s.abortJob n r).slc = s.slc ∧ (s.abortJob n r).chu = s.chu ∧
    (s.abortJob n r).receivers = s.receivers ∧ (s.abortJob n r).choices = s.choices := by
  unfold State.abortJob
  dsimp only
  repeat' split
  all_goals simp

@[simp] theorem State.hold_frame (s : State) (n : Nat) (r : HoldReason) :
    (s.hold n r).pending = s.pending ∧ (s.hold n r).phase = s.phase ∧ (s.hold n r).pins = s.pins ∧
    (s.hold n r).valid = s.valid ∧ (s.hold n r).clean = s.clean ∧ (s.hold n r).st = s.st ∧ (s.hold n r).tps = s.tps ∧
    (s.hold n r).br = s.br ∧ (s.hold n r).slc = s.slc ∧ (s.hold n r).chu = s.chu ∧ (s.hold n r).receivers = s.receivers ∧
    (s.hold n r).choices = s.choices := by
  simp [State.hold]

@[simp] theorem State.holdPartner_frame (s : State) (n : Nat) :
    (s.holdPartner n).pending = s.pending ∧ (s.holdPartner n).phase = s.phase ∧ (s.holdPartner n).pins = s.pins ∧
    (s.holdPartner n).valid = s.valid ∧ (s.holdPartner n).clean = s.clean ∧ (s.holdPartner n).st = s.st ∧
    (s.holdPartner n).tps = s.tps ∧ (s.holdPartner n).br = s.br ∧ (s.holdPartner n).slc = s.slc ∧
    (s.holdPartner n).chu = s.chu ∧ (s.holdPartner n).receivers = s.receivers ∧ (s.holdPartner n).choices = s.choices := by
  unfold State.holdPartner
  try dsimp only
  repeat' split
  all_goals simp

@[simp] theorem State.halt_frame (s : State) (n : Nat) (r : HoldReason) :
    (s.halt n r).pending = s.pending ∧ (s.halt n r).phase = s.phase ∧ (s.halt n r).pins = s.pins ∧
    (s.halt n r).valid = s.valid ∧ (s.halt n r).clean = s.clean ∧ (s.halt n r).st = s.st ∧ (s.halt n r).tps = s.tps ∧
    (s.halt n r).br = s.br ∧ (s.halt n r).slc = s.slc ∧ (s.halt n r).chu = s.chu ∧ (s.halt n r).receivers = s.receivers ∧
    (s.halt n r).choices = s.choices := by
  simp [State.halt]

@[simp] theorem State.countNotices_frame (s : State) (b : Nat) (x : Bag) (j : CountJob) (r : CountResult) :
    (s.countNotices b x j r).pending = s.pending ∧ (s.countNotices b x j r).phase = s.phase ∧
    (s.countNotices b x j r).pins = s.pins ∧ (s.countNotices b x j r).valid = s.valid ∧
    (s.countNotices b x j r).clean = s.clean ∧ (s.countNotices b x j r).st = s.st ∧ (s.countNotices b x j r).tps = s.tps ∧
    (s.countNotices b x j r).br = s.br ∧ (s.countNotices b x j r).csc = s.csc ∧ (s.countNotices b x j r).slc = s.slc ∧
    (s.countNotices b x j r).chu = s.chu ∧ (s.countNotices b x j r).receivers = s.receivers ∧
    (s.countNotices b x j r).sent = s.sent ∧ (s.countNotices b x j r).choices = s.choices := by
  unfold State.countNotices
  dsimp only
  repeat' split
  all_goals simp

@[simp] theorem State.completeJob_frame (s : State) (b : Nat) :
    (s.completeJob b).pending = s.pending ∧ (s.completeJob b).phase = s.phase ∧ (s.completeJob b).pins = s.pins ∧
    (s.completeJob b).valid = s.valid ∧ (s.completeJob b).clean = s.clean ∧ (s.completeJob b).slc = s.slc ∧
    (s.completeJob b).chu = s.chu ∧ (s.completeJob b).receivers = s.receivers ∧ (s.completeJob b).sent = s.sent ∧
    (s.completeJob b).choices = s.choices := by
  unfold State.completeJob
  dsimp only
  repeat' split
  all_goals simp

@[simp] theorem State.completePortion_frame (s : State) (n : Nat) (k : StationJob) :
    (s.completePortion n k).pending = s.pending ∧ (s.completePortion n k).phase = s.phase ∧
    (s.completePortion n k).pins = s.pins ∧ (s.completePortion n k).valid = s.valid ∧
    (s.completePortion n k).clean = s.clean ∧ (s.completePortion n k).slc = s.slc ∧ (s.completePortion n k).chu = s.chu ∧
    (s.completePortion n k).receivers = s.receivers ∧ (s.completePortion n k).sent = s.sent ∧
    (s.completePortion n k).choices = s.choices := by
  unfold State.completePortion
  try dsimp only
  repeat' split
  all_goals simp

@[simp] theorem State.tallyOr_frame (s : State) (b n d : Nat) (f : Counts → Counts) (m : Option Nat) (t : Vector Counts 12) :
    (s.tallyOr b n d f m t).pending = s.pending ∧ (s.tallyOr b n d f m t).phase = s.phase ∧
    (s.tallyOr b n d f m t).pins = s.pins ∧ (s.tallyOr b n d f m t).valid = s.valid ∧
    (s.tallyOr b n d f m t).clean = s.clean ∧ (s.tallyOr b n d f m t).st = s.st ∧ (s.tallyOr b n d f m t).tps = s.tps ∧
    (s.tallyOr b n d f m t).slc = s.slc ∧ (s.tallyOr b n d f m t).chu = s.chu ∧
    (s.tallyOr b n d f m t).receivers = s.receivers ∧ (s.tallyOr b n d f m t).choices = s.choices := by
  unfold State.tallyOr
  try dsimp only
  repeat' split
  all_goals simp

@[simp] theorem State.haltIf_frame (s : State) (n b : Nat) (w : Bool) (r : HoldReason) :
    (s.haltIf n b w r).pending = s.pending ∧ (s.haltIf n b w r).phase = s.phase ∧ (s.haltIf n b w r).pins = s.pins ∧
    (s.haltIf n b w r).valid = s.valid ∧ (s.haltIf n b w r).clean = s.clean ∧ (s.haltIf n b w r).st = s.st ∧
    (s.haltIf n b w r).tps = s.tps ∧ (s.haltIf n b w r).br = s.br ∧ (s.haltIf n b w r).slc = s.slc ∧
    (s.haltIf n b w r).chu = s.chu ∧ (s.haltIf n b w r).receivers = s.receivers ∧
    (s.haltIf n b w r).choices = s.choices := by
  unfold State.haltIf
  try dsimp only
  repeat' split
  all_goals simp

@[simp] theorem State.applyCounting_frame (s : State) (n : Nat) (k : StationJob) (j : CountJob) (r : StationRecord) :
    (s.applyCounting n k j r).pending = s.pending ∧ (s.applyCounting n k j r).phase = s.phase ∧
    (s.applyCounting n k j r).pins = s.pins ∧ (s.applyCounting n k j r).valid = s.valid ∧
    (s.applyCounting n k j r).clean = s.clean ∧ (s.applyCounting n k j r).slc = s.slc ∧
    (s.applyCounting n k j r).chu = s.chu ∧ (s.applyCounting n k j r).receivers = s.receivers ∧
    (s.applyCounting n k j r).choices = s.choices := by
  unfold State.applyCounting
  try dsimp only
  repeat' split
  all_goals simp

@[simp] theorem State.applyRecord_frame (s : State) (n : Nat) (r : StationRecord) :
    (s.applyRecord n r).pending = s.pending ∧ (s.applyRecord n r).phase = s.phase ∧ (s.applyRecord n r).pins = s.pins ∧
    (s.applyRecord n r).valid = s.valid ∧ (s.applyRecord n r).clean = s.clean ∧ (s.applyRecord n r).slc = s.slc ∧
    (s.applyRecord n r).chu = s.chu ∧ (s.applyRecord n r).receivers = s.receivers ∧
    (s.applyRecord n r).choices = s.choices := by
  unfold State.applyRecord
  try dsimp only
  repeat' split
  all_goals simp

@[simp] theorem State.drain_frame (k n : Nat) (s : State) :
    (State.drain k n s).pending = s.pending ∧ (State.drain k n s).phase = s.phase ∧ (State.drain k n s).pins = s.pins ∧
    (State.drain k n s).valid = s.valid ∧ (State.drain k n s).clean = s.clean ∧ (State.drain k n s).slc = s.slc ∧
    (State.drain k n s).chu = s.chu ∧ (State.drain k n s).receivers = s.receivers ∧
    (State.drain k n s).choices = s.choices := by
  induction k generalizing s with
  | zero => simp [State.drain]
  | succ k ih =>
    unfold State.drain
    repeat' split
    all_goals simp [ih]

@[simp] theorem State.enterIntake_frame (s : State) (n : Nat) (r : StationRecord) :
    (s.enterIntake n r).pending = s.pending ∧ (s.enterIntake n r).phase = s.phase ∧ (s.enterIntake n r).pins = s.pins ∧
    (s.enterIntake n r).valid = s.valid ∧ (s.enterIntake n r).clean = s.clean ∧ (s.enterIntake n r).slc = s.slc ∧
    (s.enterIntake n r).chu = s.chu ∧ (s.enterIntake n r).receivers = s.receivers ∧
    (s.enterIntake n r).choices = s.choices := by
  unfold State.enterIntake
  try dsimp only
  repeat' split
  all_goals simp

@[simp] theorem State.stationOnline_frame (s : State) (n : Nat) :
    (s.stationOnline n).pending = s.pending ∧ (s.stationOnline n).phase = s.phase ∧ (s.stationOnline n).pins = s.pins ∧
    (s.stationOnline n).valid = s.valid ∧ (s.stationOnline n).clean = s.clean ∧ (s.stationOnline n).st = s.st ∧
    (s.stationOnline n).tps = s.tps ∧ (s.stationOnline n).br = s.br ∧ (s.stationOnline n).slc = s.slc ∧
    (s.stationOnline n).chu = s.chu ∧ (s.stationOnline n).receivers = s.receivers ∧ (s.stationOnline n).sent = s.sent ∧
    (s.stationOnline n).choices = s.choices := by
  unfold State.stationOnline
  try dsimp only
  repeat' split
  all_goals simp

@[simp] theorem State.stationArrival_frame (s : State) (n : Nat) (r : StationRecord) :
    (s.stationArrival n r).pending = s.pending ∧ (s.stationArrival n r).phase = s.phase ∧
    (s.stationArrival n r).pins = s.pins ∧ (s.stationArrival n r).valid = s.valid ∧
    (s.stationArrival n r).clean = s.clean ∧ (s.stationArrival n r).slc = s.slc ∧ (s.stationArrival n r).chu = s.chu ∧
    (s.stationArrival n r).receivers = s.receivers ∧ (s.stationArrival n r).choices = s.choices := by
  unfold State.stationArrival
  try dsimp only
  repeat' split
  all_goals simp

@[simp] theorem State.endHold_frame (s : State) (n : Nat) :
    (s.endHold n).pending = s.pending ∧ (s.endHold n).phase = s.phase ∧ (s.endHold n).pins = s.pins ∧
    (s.endHold n).valid = s.valid ∧ (s.endHold n).clean = s.clean ∧ (s.endHold n).st = s.st ∧ (s.endHold n).tps = s.tps ∧
    (s.endHold n).br = s.br ∧ (s.endHold n).slc = s.slc ∧ (s.endHold n).chu = s.chu ∧
    (s.endHold n).receivers = s.receivers ∧ (s.endHold n).sent = s.sent ∧ (s.endHold n).choices = s.choices := by
  unfold State.endHold
  try dsimp only
  repeat' split
  all_goals simp

@[simp] theorem State.endHolds_frame (s : State) (b : Nat) :
    (s.endHolds b).pending = s.pending ∧ (s.endHolds b).phase = s.phase ∧ (s.endHolds b).pins = s.pins ∧
    (s.endHolds b).valid = s.valid ∧ (s.endHolds b).clean = s.clean ∧ (s.endHolds b).slc = s.slc ∧
    (s.endHolds b).chu = s.chu ∧ (s.endHolds b).receivers = s.receivers ∧
    (s.endHolds b).choices = s.choices := by
  simp [State.endHolds]

@[simp] theorem State.resolveJobs_frame (s : State) :
    (s.resolveJobs).pending = s.pending ∧ (s.resolveJobs).phase = s.phase ∧ (s.resolveJobs).pins = s.pins ∧
    (s.resolveJobs).valid = s.valid ∧ (s.resolveJobs).clean = s.clean ∧ (s.resolveJobs).st = s.st ∧
    (s.resolveJobs).tps = s.tps ∧ (s.resolveJobs).slc = s.slc ∧ (s.resolveJobs).chu = s.chu ∧
    (s.resolveJobs).receivers = s.receivers ∧ (s.resolveJobs).choices = s.choices := by
  unfold State.resolveJobs
  simp [apply_ite State.pending, apply_ite State.phase, apply_ite State.pins, apply_ite State.valid, apply_ite State.clean,
    apply_ite State.st, apply_ite State.tps, apply_ite State.slc, apply_ite State.chu, apply_ite State.receivers,
    apply_ite State.choices]

/-! ### The lock (R135 to R147) -/

@[simp] theorem State.lockNotice_frame (s : State) (c : LockCause) :
    (s.lockNotice c).pending = s.pending ∧ (s.lockNotice c).phase = s.phase ∧ (s.lockNotice c).pins = s.pins ∧
    (s.lockNotice c).valid = s.valid ∧ (s.lockNotice c).clean = s.clean ∧ (s.lockNotice c).st = s.st ∧
    (s.lockNotice c).tps = s.tps ∧ (s.lockNotice c).br = s.br ∧ (s.lockNotice c).csc = s.csc ∧
    (s.lockNotice c).slc = s.slc ∧ (s.lockNotice c).chu = s.chu ∧ (s.lockNotice c).receivers = s.receivers ∧
    (s.lockNotice c).sent = s.sent ∧ (s.lockNotice c).choices = s.choices := by
  simp [State.lockNotice]

@[simp] theorem State.enterLock_frame (s : State) (x : LockState) (o : Option Opening) (t : Option Nat) (c : LockCause) :
    (s.enterLock x o t c).pending = s.pending ∧ (s.enterLock x o t c).phase = s.phase ∧
    (s.enterLock x o t c).pins = s.pins ∧ (s.enterLock x o t c).valid = s.valid ∧ (s.enterLock x o t c).clean = s.clean ∧
    (s.enterLock x o t c).st = s.st ∧ (s.enterLock x o t c).tps = s.tps ∧ (s.enterLock x o t c).br = s.br ∧
    (s.enterLock x o t c).csc = s.csc ∧ (s.enterLock x o t c).chu = s.chu ∧ (s.enterLock x o t c).receivers = s.receivers ∧
    (s.enterLock x o t c).sent = s.sent ∧ (s.enterLock x o t c).choices = s.choices := by
  simp [State.enterLock]

@[simp] theorem State.tellWindow_frame (s : State) :
    (s.tellWindow).pending = s.pending ∧ (s.tellWindow).phase = s.phase ∧ (s.tellWindow).pins = s.pins ∧
    (s.tellWindow).valid = s.valid ∧ (s.tellWindow).clean = s.clean ∧ (s.tellWindow).hli = s.hli ∧
    (s.tellWindow).oc = s.oc ∧ (s.tellWindow).st = s.st ∧ (s.tellWindow).tps = s.tps ∧ (s.tellWindow).br = s.br ∧
    (s.tellWindow).csc = s.csc ∧ (s.tellWindow).slc = s.slc ∧ (s.tellWindow).receivers = s.receivers ∧
    (s.tellWindow).choices = s.choices := by
  unfold State.tellWindow
  try dsimp only
  repeat' split
  all_goals simp

@[simp] theorem State.enterWindow_frame (s : State) (o : Opening) (c : LockCause) :
    (s.enterWindow o c).pending = s.pending ∧ (s.enterWindow o c).phase = s.phase ∧ (s.enterWindow o c).pins = s.pins ∧
    (s.enterWindow o c).valid = s.valid ∧ (s.enterWindow o c).clean = s.clean ∧ (s.enterWindow o c).st = s.st ∧
    (s.enterWindow o c).tps = s.tps ∧ (s.enterWindow o c).br = s.br ∧ (s.enterWindow o c).csc = s.csc ∧
    (s.enterWindow o c).receivers = s.receivers ∧ (s.enterWindow o c).choices = s.choices := by
  unfold State.enterWindow
  by_cases h : o.mark = some .waiting <;> simp [h]

@[simp] theorem State.enterDelay_frame (s : State) (o : Opening) (c : LockCause) :
    (s.enterDelay o c).pending = s.pending ∧ (s.enterDelay o c).phase = s.phase ∧ (s.enterDelay o c).pins = s.pins ∧
    (s.enterDelay o c).valid = s.valid ∧ (s.enterDelay o c).clean = s.clean ∧ (s.enterDelay o c).st = s.st ∧
    (s.enterDelay o c).tps = s.tps ∧ (s.enterDelay o c).br = s.br ∧ (s.enterDelay o c).csc = s.csc ∧
    (s.enterDelay o c).receivers = s.receivers ∧ (s.enterDelay o c).choices = s.choices := by
  unfold State.enterDelay
  try dsimp only
  repeat' split
  all_goals simp

@[simp] theorem State.takeCollection_frame (s : State) :
    (s.takeCollection).pending = s.pending ∧ (s.takeCollection).phase = s.phase ∧ (s.takeCollection).pins = s.pins ∧
    (s.takeCollection).valid = s.valid ∧ (s.takeCollection).clean = s.clean ∧ (s.takeCollection).st = s.st ∧
    (s.takeCollection).tps = s.tps ∧ (s.takeCollection).br = s.br ∧ (s.takeCollection).csc = s.csc ∧
    (s.takeCollection).receivers = s.receivers ∧ (s.takeCollection).choices = s.choices := by
  simp [State.takeCollection]

@[simp] theorem State.boltConfirmed_frame (s : State) :
    (s.boltConfirmed).pending = s.pending ∧ (s.boltConfirmed).phase = s.phase ∧ (s.boltConfirmed).pins = s.pins ∧
    (s.boltConfirmed).valid = s.valid ∧ (s.boltConfirmed).clean = s.clean ∧ (s.boltConfirmed).st = s.st ∧
    (s.boltConfirmed).tps = s.tps ∧ (s.boltConfirmed).br = s.br ∧ (s.boltConfirmed).csc = s.csc ∧
    (s.boltConfirmed).receivers = s.receivers ∧ (s.boltConfirmed).choices = s.choices := by
  unfold State.boltConfirmed
  dsimp only
  repeat' split
  all_goals simp

@[simp] theorem State.enterSecuring_frame (s : State) (c : LockCause) :
    (s.enterSecuring c).pending = s.pending ∧ (s.enterSecuring c).phase = s.phase ∧ (s.enterSecuring c).pins = s.pins ∧
    (s.enterSecuring c).valid = s.valid ∧ (s.enterSecuring c).clean = s.clean ∧ (s.enterSecuring c).st = s.st ∧
    (s.enterSecuring c).tps = s.tps ∧ (s.enterSecuring c).br = s.br ∧ (s.enterSecuring c).csc = s.csc ∧
    (s.enterSecuring c).receivers = s.receivers ∧ (s.enterSecuring c).choices = s.choices := by
  unfold State.enterSecuring
  dsimp only
  repeat' split
  all_goals simp

@[simp] theorem State.collectionRequest_frame (s : State) :
    (s.collectionRequest.1).pending = s.pending ∧ (s.collectionRequest.1).phase = s.phase ∧
    (s.collectionRequest.1).pins = s.pins ∧ (s.collectionRequest.1).valid = s.valid ∧
    (s.collectionRequest.1).clean = s.clean ∧ (s.collectionRequest.1).st = s.st ∧ (s.collectionRequest.1).tps = s.tps ∧
    (s.collectionRequest.1).br = s.br ∧ (s.collectionRequest.1).csc = s.csc ∧
    (s.collectionRequest.1).receivers = s.receivers ∧ (s.collectionRequest.1).choices = s.choices := by
  unfold State.collectionRequest
  repeat' split
  all_goals simp

@[simp] theorem State.cancelCollection_frame (s : State) :
    (s.cancelCollection).pending = s.pending ∧ (s.cancelCollection).phase = s.phase ∧ (s.cancelCollection).pins = s.pins ∧
    (s.cancelCollection).valid = s.valid ∧ (s.cancelCollection).clean = s.clean ∧ (s.cancelCollection).st = s.st ∧
    (s.cancelCollection).tps = s.tps ∧ (s.cancelCollection).br = s.br ∧ (s.cancelCollection).csc = s.csc ∧
    (s.cancelCollection).chu = s.chu ∧ (s.cancelCollection).receivers = s.receivers ∧ (s.cancelCollection).sent = s.sent ∧
    (s.cancelCollection).choices = s.choices := by
  unfold State.cancelCollection
  dsimp only
  repeat' split
  all_goals simp

@[simp] theorem State.missedNotice_frame (s : State) (c : Nat) :
    (s.missedNotice c).pending = s.pending ∧ (s.missedNotice c).phase = s.phase ∧ (s.missedNotice c).pins = s.pins ∧
    (s.missedNotice c).valid = s.valid ∧ (s.missedNotice c).clean = s.clean ∧ (s.missedNotice c).st = s.st ∧
    (s.missedNotice c).tps = s.tps ∧ (s.missedNotice c).br = s.br ∧ (s.missedNotice c).csc = s.csc ∧
    (s.missedNotice c).slc = s.slc ∧ (s.missedNotice c).chu = s.chu ∧ (s.missedNotice c).receivers = s.receivers ∧
    (s.missedNotice c).sent = s.sent ∧ (s.missedNotice c).choices = s.choices := by
  simp [State.missedNotice]

@[simp] theorem State.missConsignment_frame (s : State) (c : Nat) :
    (s.missConsignment c).pending = s.pending ∧ (s.missConsignment c).phase = s.phase ∧
    (s.missConsignment c).pins = s.pins ∧ (s.missConsignment c).valid = s.valid ∧ (s.missConsignment c).clean = s.clean ∧
    (s.missConsignment c).st = s.st ∧ (s.missConsignment c).tps = s.tps ∧ (s.missConsignment c).br = s.br ∧
    (s.missConsignment c).csc = s.csc ∧ (s.missConsignment c).slc = s.slc ∧ (s.missConsignment c).receivers = s.receivers ∧
    (s.missConsignment c).sent = s.sent ∧ (s.missConsignment c).choices = s.choices := by
  unfold State.missConsignment
  try dsimp only
  repeat' split
  all_goals simp

@[simp] theorem State.abandonHandover_frame (s : State) (r : AbandonReason) :
    (s.abandonHandover r).pending = s.pending ∧ (s.abandonHandover r).phase = s.phase ∧
    (s.abandonHandover r).pins = s.pins ∧ (s.abandonHandover r).valid = s.valid ∧ (s.abandonHandover r).clean = s.clean ∧
    (s.abandonHandover r).st = s.st ∧ (s.abandonHandover r).tps = s.tps ∧ (s.abandonHandover r).csc = s.csc ∧
    (s.abandonHandover r).receivers = s.receivers ∧
    (s.abandonHandover r).choices = s.choices := by
  unfold State.abandonHandover
  dsimp only
  repeat' split
  all_goals simp

@[simp] theorem State.tellOpeningLost_frame (s : State) :
    (s.tellOpeningLost).pending = s.pending ∧ (s.tellOpeningLost).phase = s.phase ∧ (s.tellOpeningLost).pins = s.pins ∧
    (s.tellOpeningLost).valid = s.valid ∧ (s.tellOpeningLost).clean = s.clean ∧ (s.tellOpeningLost).st = s.st ∧
    (s.tellOpeningLost).tps = s.tps ∧ (s.tellOpeningLost).csc = s.csc ∧ (s.tellOpeningLost).receivers = s.receivers ∧
    (s.tellOpeningLost).choices = s.choices := by
  unfold State.tellOpeningLost
  try dsimp only
  repeat' split
  all_goals simp

@[simp] theorem State.raiseBoltFault_frame (s : State) :
    (s.raiseBoltFault).pending = s.pending ∧ (s.raiseBoltFault).phase = s.phase ∧ (s.raiseBoltFault).pins = s.pins ∧
    (s.raiseBoltFault).valid = s.valid ∧ (s.raiseBoltFault).clean = s.clean ∧ (s.raiseBoltFault).st = s.st ∧
    (s.raiseBoltFault).tps = s.tps ∧ (s.raiseBoltFault).csc = s.csc ∧ (s.raiseBoltFault).receivers = s.receivers ∧
    (s.raiseBoltFault).choices = s.choices := by
  unfold State.raiseBoltFault
  dsimp only
  split <;> simp

@[simp] theorem State.raiseForcedDoor_frame (s : State) :
    (s.raiseForcedDoor).pending = s.pending ∧ (s.raiseForcedDoor).phase = s.phase ∧ (s.raiseForcedDoor).pins = s.pins ∧
    (s.raiseForcedDoor).valid = s.valid ∧ (s.raiseForcedDoor).clean = s.clean ∧ (s.raiseForcedDoor).st = s.st ∧
    (s.raiseForcedDoor).tps = s.tps ∧ (s.raiseForcedDoor).csc = s.csc ∧ (s.raiseForcedDoor).receivers = s.receivers ∧
    (s.raiseForcedDoor).choices = s.choices := by
  unfold State.raiseForcedDoor
  dsimp only
  split <;> simp

@[simp] theorem State.doorEvent_frame (s : State) (x : DoorSense) :
    (s.doorEvent x).pending = s.pending ∧ (s.doorEvent x).phase = s.phase ∧ (s.doorEvent x).pins = s.pins ∧
    (s.doorEvent x).valid = s.valid ∧ (s.doorEvent x).clean = s.clean ∧ (s.doorEvent x).st = s.st ∧
    (s.doorEvent x).tps = s.tps ∧ (s.doorEvent x).csc = s.csc ∧ (s.doorEvent x).receivers = s.receivers ∧
    (s.doorEvent x).choices = s.choices := by
  unfold State.doorEvent
  dsimp only
  repeat' split
  all_goals simp

@[simp] theorem State.boltEvent_frame (s : State) (x : BoltSense) :
    (s.boltEvent x).pending = s.pending ∧ (s.boltEvent x).phase = s.phase ∧ (s.boltEvent x).pins = s.pins ∧
    (s.boltEvent x).valid = s.valid ∧ (s.boltEvent x).clean = s.clean ∧ (s.boltEvent x).st = s.st ∧
    (s.boltEvent x).tps = s.tps ∧ (s.boltEvent x).csc = s.csc ∧ (s.boltEvent x).receivers = s.receivers ∧
    (s.boltEvent x).choices = s.choices := by
  unfold State.boltEvent
  dsimp only
  repeat' split
  all_goals simp

@[simp] theorem State.slotEvent_frame (s : State) (x : SlotSense) :
    (s.slotEvent x).pending = s.pending ∧ (s.slotEvent x).phase = s.phase ∧ (s.slotEvent x).pins = s.pins ∧
    (s.slotEvent x).valid = s.valid ∧ (s.slotEvent x).clean = s.clean ∧ (s.slotEvent x).st = s.st ∧
    (s.slotEvent x).tps = s.tps ∧ (s.slotEvent x).csc = s.csc ∧ (s.slotEvent x).chu = s.chu ∧
    (s.slotEvent x).receivers = s.receivers ∧ (s.slotEvent x).sent = s.sent ∧ (s.slotEvent x).choices = s.choices := by
  cases x <;> simp [State.slotEvent]

@[simp] theorem State.recomputeLock_frame (s : State) :
    (s.recomputeLock).pending = s.pending ∧ (s.recomputeLock).phase = s.phase ∧ (s.recomputeLock).pins = s.pins ∧
    (s.recomputeLock).valid = s.valid ∧ (s.recomputeLock).clean = s.clean ∧ (s.recomputeLock).hli = s.hli ∧
    (s.recomputeLock).oc = s.oc ∧ (s.recomputeLock).st = s.st ∧ (s.recomputeLock).tps = s.tps ∧
    (s.recomputeLock).br = s.br ∧ (s.recomputeLock).csc = s.csc ∧ (s.recomputeLock).chu = s.chu ∧
    (s.recomputeLock).receivers = s.receivers ∧ (s.recomputeLock).sent = s.sent ∧
    (s.recomputeLock).choices = s.choices := by
  simp [State.recomputeLock]

@[simp] theorem State.readSenses_frame (s : State) :
    (s.readSenses).pending = s.pending ∧ (s.readSenses).phase = s.phase ∧ (s.readSenses).pins = s.pins ∧
    (s.readSenses).valid = s.valid ∧ (s.readSenses).clean = s.clean ∧ (s.readSenses).hli = s.hli ∧
    (s.readSenses).oc = s.oc ∧ (s.readSenses).st = s.st ∧ (s.readSenses).tps = s.tps ∧ (s.readSenses).br = s.br ∧
    (s.readSenses).csc = s.csc ∧ (s.readSenses).chu = s.chu ∧ (s.readSenses).receivers = s.receivers ∧
    (s.readSenses).sent = s.sent ∧ (s.readSenses).choices = s.choices := by
  simp [State.readSenses]

@[simp] theorem State.resolveLock_frame (s : State) :
    (s.resolveLock).pending = s.pending ∧ (s.resolveLock).phase = s.phase ∧ (s.resolveLock).pins = s.pins ∧
    (s.resolveLock).valid = s.valid ∧ (s.resolveLock).clean = s.clean ∧ (s.resolveLock).st = s.st ∧
    (s.resolveLock).tps = s.tps ∧ (s.resolveLock).br = s.br ∧ (s.resolveLock).csc = s.csc ∧ (s.resolveLock).chu = s.chu ∧
    (s.resolveLock).receivers = s.receivers ∧ (s.resolveLock).sent = s.sent ∧ (s.resolveLock).choices = s.choices := by
  unfold State.resolveLock
  dsimp only
  split <;> simp

/-! ### The end of an operation, the day, stop and start (R25, R38, R41, R111) -/

@[simp] theorem State.endPass_frame (s0 s : State) :
    (s0.endPass s).pending = s.pending ∧ (s0.endPass s).phase = s.phase ∧ (s0.endPass s).pins = s.pins ∧
    (s0.endPass s).valid = s.valid ∧ (s0.endPass s).clean = s.clean ∧ (s0.endPass s).hli = s.hli ∧
    (s0.endPass s).oc = s.oc ∧ (s0.endPass s).st = s.st ∧ (s0.endPass s).tps = s.tps ∧ (s0.endPass s).slc = s.slc ∧
    (s0.endPass s).chu = s.chu ∧ (s0.endPass s).receivers = s.receivers ∧ (s0.endPass s).choices = s.choices := by
  unfold State.endPass
  split <;> simp

@[simp] theorem State.closeDay_frame (s : State) :
    (s.closeDay).pending = s.pending ∧ (s.closeDay).phase = s.phase ∧ (s.closeDay).pins = s.pins ∧
    (s.closeDay).valid = s.valid ∧ (s.closeDay).clean = s.clean ∧ (s.closeDay).st = s.st ∧ (s.closeDay).csc = s.csc ∧
    (s.closeDay).receivers = s.receivers ∧ (s.closeDay).sent = s.sent ∧ (s.closeDay).choices = s.choices := by
  simp [State.closeDay]

@[simp] theorem State.closingTest_frame (s : State) :
    (s.closingTest).pending = s.pending ∧ (s.closingTest).phase = s.phase ∧ (s.closingTest).pins = s.pins ∧
    (s.closingTest).valid = s.valid ∧ (s.closingTest).clean = s.clean ∧ (s.closingTest).st = s.st ∧
    (s.closingTest).csc = s.csc ∧ (s.closingTest).receivers = s.receivers ∧ (s.closingTest).sent = s.sent ∧
    (s.closingTest).choices = s.choices := by
  unfold State.closingTest
  try dsimp only
  repeat' split
  all_goals simp

@[simp] theorem State.settle_frame (s0 s : State) :
    (s0.settle s).pending = s.pending ∧ (s0.settle s).phase = s.phase ∧ (s0.settle s).pins = s.pins ∧
    (s0.settle s).valid = s.valid ∧ (s0.settle s).clean = s.clean ∧ (s0.settle s).st = s.st ∧
    (s0.settle s).receivers = s.receivers ∧ (s0.settle s).choices = s.choices := by
  simp [State.settle]

@[simp] theorem State.tellMinute_frame (s : State) :
    (s.tellMinute).pending = s.pending ∧ (s.tellMinute).phase = s.phase ∧ (s.tellMinute).pins = s.pins ∧
    (s.tellMinute).valid = s.valid ∧ (s.tellMinute).clean = s.clean ∧ (s.tellMinute).st = s.st ∧ (s.tellMinute).br = s.br ∧
    (s.tellMinute).csc = s.csc ∧ (s.tellMinute).slc = s.slc ∧ (s.tellMinute).chu = s.chu ∧
    (s.tellMinute).receivers = s.receivers ∧ (s.tellMinute).sent = s.sent ∧ (s.tellMinute).choices = s.choices := by
  unfold State.tellMinute
  try dsimp only
  repeat' split
  all_goals simp

@[simp] theorem State.missReached_frame (s : State) :
    (s.missReached).pending = s.pending ∧ (s.missReached).phase = s.phase ∧ (s.missReached).pins = s.pins ∧
    (s.missReached).valid = s.valid ∧ (s.missReached).clean = s.clean ∧ (s.missReached).st = s.st ∧
    (s.missReached).tps = s.tps ∧ (s.missReached).br = s.br ∧ (s.missReached).csc = s.csc ∧ (s.missReached).slc = s.slc ∧
    (s.missReached).receivers = s.receivers ∧ (s.missReached).sent = s.sent ∧
    (s.missReached).choices = s.choices := by
  unfold State.missReached
  simp [apply_ite State.pending, apply_ite State.phase, apply_ite State.pins, apply_ite State.valid, apply_ite State.clean,
    apply_ite State.st, apply_ite State.tps, apply_ite State.br, apply_ite State.csc, apply_ite State.slc,
    apply_ite State.receivers, apply_ite State.sent, apply_ite State.choices]

@[simp] theorem State.releaseDeferred_frame (s : State) :
    (s.releaseDeferred).pending = s.pending ∧ (s.releaseDeferred).phase = s.phase ∧ (s.releaseDeferred).pins = s.pins ∧
    (s.releaseDeferred).valid = s.valid ∧ (s.releaseDeferred).clean = s.clean ∧ (s.releaseDeferred).st = s.st ∧
    (s.releaseDeferred).tps = s.tps ∧ (s.releaseDeferred).br = s.br ∧ (s.releaseDeferred).csc = s.csc ∧
    (s.releaseDeferred).slc = s.slc ∧ (s.releaseDeferred).chu = s.chu ∧ (s.releaseDeferred).receivers = s.receivers ∧
    (s.releaseDeferred).sent = s.sent ∧ (s.releaseDeferred).choices = s.choices := by
  simp [State.releaseDeferred]

/-! ### The dock (R160 to R167) -/

@[simp] theorem State.dockRefuse_frame (s : State) (c : Code) :
    (s.dockRefuse c).pending = s.pending ∧ (s.dockRefuse c).phase = s.phase ∧ (s.dockRefuse c).pins = s.pins ∧
    (s.dockRefuse c).valid = s.valid ∧ (s.dockRefuse c).clean = s.clean ∧ (s.dockRefuse c).hli = s.hli ∧
    (s.dockRefuse c).oc = s.oc ∧ (s.dockRefuse c).st = s.st ∧ (s.dockRefuse c).tps = s.tps ∧ (s.dockRefuse c).br = s.br ∧
    (s.dockRefuse c).csc = s.csc ∧ (s.dockRefuse c).slc = s.slc ∧ (s.dockRefuse c).chu = s.chu ∧
    (s.dockRefuse c).receivers = s.receivers ∧ (s.dockRefuse c).choices = s.choices := by
  simp [State.dockRefuse]

@[simp] theorem State.beginHandover_frame (s : State) (c u : Nat) (a : CollectionAnswer) :
    (s.beginHandover c u a).pending = s.pending ∧ (s.beginHandover c u a).phase = s.phase ∧
    (s.beginHandover c u a).pins = s.pins ∧ (s.beginHandover c u a).valid = s.valid ∧
    (s.beginHandover c u a).clean = s.clean ∧ (s.beginHandover c u a).hli = s.hli ∧ (s.beginHandover c u a).oc = s.oc ∧
    (s.beginHandover c u a).st = s.st ∧ (s.beginHandover c u a).tps = s.tps ∧ (s.beginHandover c u a).br = s.br ∧
    (s.beginHandover c u a).csc = s.csc ∧ (s.beginHandover c u a).slc = s.slc ∧
    (s.beginHandover c u a).receivers = s.receivers ∧ (s.beginHandover c u a).choices = s.choices := by
  simp [State.beginHandover]

@[simp] theorem State.dockPresent_frame (s : State) (u r : Nat) :
    (s.dockPresent u r).pending = s.pending ∧ (s.dockPresent u r).phase = s.phase ∧ (s.dockPresent u r).pins = s.pins ∧
    (s.dockPresent u r).valid = s.valid ∧ (s.dockPresent u r).clean = s.clean ∧ (s.dockPresent u r).st = s.st ∧
    (s.dockPresent u r).tps = s.tps ∧ (s.dockPresent u r).br = s.br ∧ (s.dockPresent u r).csc = s.csc ∧
    (s.dockPresent u r).receivers = s.receivers ∧ (s.dockPresent u r).choices = s.choices := by
  unfold State.dockPresent
  dsimp only
  repeat' split
  all_goals simp

@[simp] theorem State.foreignScan_frame (s : State) (h : Handover) :
    (s.foreignScan h).pending = s.pending ∧ (s.foreignScan h).phase = s.phase ∧ (s.foreignScan h).pins = s.pins ∧
    (s.foreignScan h).valid = s.valid ∧ (s.foreignScan h).clean = s.clean ∧ (s.foreignScan h).st = s.st ∧
    (s.foreignScan h).tps = s.tps ∧ (s.foreignScan h).csc = s.csc ∧ (s.foreignScan h).receivers = s.receivers ∧
    (s.foreignScan h).choices = s.choices := by
  unfold State.foreignScan
  dsimp only
  split <;> simp

@[simp] theorem State.dockScan_frame (s : State) (h : Handover) (q : Nat) :
    (s.dockScan h q).pending = s.pending ∧ (s.dockScan h q).phase = s.phase ∧ (s.dockScan h q).pins = s.pins ∧
    (s.dockScan h q).valid = s.valid ∧ (s.dockScan h q).clean = s.clean ∧ (s.dockScan h q).st = s.st ∧
    (s.dockScan h q).tps = s.tps ∧ (s.dockScan h q).csc = s.csc ∧ (s.dockScan h q).receivers = s.receivers ∧
    (s.dockScan h q).choices = s.choices := by
  unfold State.dockScan
  dsimp only
  repeat' split
  all_goals simp

@[simp] theorem State.leaveDispatch_frame (s : State) (ls : List ContentLine) :
    (s.leaveDispatch ls).pending = s.pending ∧ (s.leaveDispatch ls).phase = s.phase ∧ (s.leaveDispatch ls).pins = s.pins ∧
    (s.leaveDispatch ls).valid = s.valid ∧ (s.leaveDispatch ls).clean = s.clean ∧ (s.leaveDispatch ls).hli = s.hli ∧
    (s.leaveDispatch ls).oc = s.oc ∧ (s.leaveDispatch ls).tps = s.tps ∧ (s.leaveDispatch ls).br = s.br ∧
    (s.leaveDispatch ls).csc = s.csc ∧ (s.leaveDispatch ls).slc = s.slc ∧ (s.leaveDispatch ls).chu = s.chu ∧
    (s.leaveDispatch ls).receivers = s.receivers ∧ (s.leaveDispatch ls).sent = s.sent ∧
    (s.leaveDispatch ls).choices = s.choices := by
  simp [State.leaveDispatch]

@[simp] theorem State.handOverBag_frame (s : State) (b : Nat) :
    (s.handOverBag b).pending = s.pending ∧ (s.handOverBag b).phase = s.phase ∧ (s.handOverBag b).pins = s.pins ∧
    (s.handOverBag b).valid = s.valid ∧ (s.handOverBag b).clean = s.clean ∧ (s.handOverBag b).hli = s.hli ∧
    (s.handOverBag b).oc = s.oc ∧ (s.handOverBag b).tps = s.tps ∧ (s.handOverBag b).csc = s.csc ∧
    (s.handOverBag b).slc = s.slc ∧ (s.handOverBag b).chu = s.chu ∧ (s.handOverBag b).receivers = s.receivers ∧
    (s.handOverBag b).sent = s.sent ∧ (s.handOverBag b).choices = s.choices := by
  simp [State.handOverBag]

@[simp] theorem State.completeHandover_frame (s : State) (h : Handover) :
    (s.completeHandover h).pending = s.pending ∧ (s.completeHandover h).phase = s.phase ∧
    (s.completeHandover h).pins = s.pins ∧ (s.completeHandover h).valid = s.valid ∧
    (s.completeHandover h).clean = s.clean ∧ (s.completeHandover h).tps = s.tps ∧ (s.completeHandover h).csc = s.csc ∧
    (s.completeHandover h).slc = s.slc ∧ (s.completeHandover h).receivers = s.receivers ∧
    (s.completeHandover h).choices = s.choices := by
  unfold State.completeHandover
  dsimp only
  split <;> simp

@[simp] theorem State.dockConfirm_frame (s : State) (h : Handover) :
    (s.dockConfirm h).pending = s.pending ∧ (s.dockConfirm h).phase = s.phase ∧ (s.dockConfirm h).pins = s.pins ∧
    (s.dockConfirm h).valid = s.valid ∧ (s.dockConfirm h).clean = s.clean ∧ (s.dockConfirm h).tps = s.tps ∧
    (s.dockConfirm h).csc = s.csc ∧ (s.dockConfirm h).slc = s.slc ∧ (s.dockConfirm h).receivers = s.receivers ∧
    (s.dockConfirm h).choices = s.choices := by
  unfold State.dockConfirm
  try dsimp only
  repeat' split
  all_goals simp

@[simp] theorem State.dockRecord_frame (s : State) (r : DockRecord) :
    (s.dockRecord r).pending = s.pending ∧ (s.dockRecord r).phase = s.phase ∧ (s.dockRecord r).pins = s.pins ∧
    (s.dockRecord r).valid = s.valid ∧ (s.dockRecord r).clean = s.clean ∧ (s.dockRecord r).tps = s.tps ∧
    (s.dockRecord r).csc = s.csc ∧ (s.dockRecord r).receivers = s.receivers ∧ (s.dockRecord r).choices = s.choices := by
  unfold State.dockRecord
  try dsimp only
  repeat' split
  all_goals simp

/-! ### The other lines (R108, R169 to R171, R180) -/

@[simp] theorem State.answerFrame_frame (s : State) (tag kind : Nat) (c : Code) :
    (s.answerFrame tag kind c).pending = s.pending ∧ (s.answerFrame tag kind c).phase = s.phase ∧
    (s.answerFrame tag kind c).pins = s.pins ∧ (s.answerFrame tag kind c).valid = s.valid ∧
    (s.answerFrame tag kind c).clean = s.clean ∧ (s.answerFrame tag kind c).oc = s.oc ∧
    (s.answerFrame tag kind c).st = s.st ∧ (s.answerFrame tag kind c).tps = s.tps ∧ (s.answerFrame tag kind c).br = s.br ∧
    (s.answerFrame tag kind c).csc = s.csc ∧ (s.answerFrame tag kind c).slc = s.slc ∧
    (s.answerFrame tag kind c).chu = s.chu ∧ (s.answerFrame tag kind c).receivers = s.receivers ∧
    (s.answerFrame tag kind c).sent = s.sent ∧ (s.answerFrame tag kind c).choices = s.choices := by
  simp [State.answerFrame]

@[simp] theorem State.rejectFrame_frame (s : State) :
    (s.rejectFrame).pending = s.pending ∧ (s.rejectFrame).phase = s.phase ∧ (s.rejectFrame).pins = s.pins ∧
    (s.rejectFrame).valid = s.valid ∧ (s.rejectFrame).clean = s.clean ∧ (s.rejectFrame).oc = s.oc ∧
    (s.rejectFrame).st = s.st ∧ (s.rejectFrame).tps = s.tps ∧ (s.rejectFrame).br = s.br ∧ (s.rejectFrame).csc = s.csc ∧
    (s.rejectFrame).slc = s.slc ∧ (s.rejectFrame).chu = s.chu ∧ (s.rejectFrame).receivers = s.receivers ∧
    (s.rejectFrame).sent = s.sent ∧ (s.rejectFrame).choices = s.choices := by
  simp [State.rejectFrame, State.setRx]

@[simp] theorem State.takeFrame_frame (s : State) (k t : Nat) (body : List Byte) :
    (s.takeFrame k t body).pending = s.pending ∧ (s.takeFrame k t body).phase = s.phase ∧
    (s.takeFrame k t body).pins = s.pins ∧ (s.takeFrame k t body).valid = s.valid ∧
    (s.takeFrame k t body).clean = s.clean ∧ (s.takeFrame k t body).oc = s.oc ∧ (s.takeFrame k t body).st = s.st ∧
    (s.takeFrame k t body).tps = s.tps ∧ (s.takeFrame k t body).br = s.br ∧ (s.takeFrame k t body).csc = s.csc ∧
    (s.takeFrame k t body).slc = s.slc ∧ (s.takeFrame k t body).chu = s.chu ∧
    (s.takeFrame k t body).receivers = s.receivers ∧ (s.takeFrame k t body).sent = s.sent ∧
    (s.takeFrame k t body).choices = s.choices := by
  unfold State.takeFrame
  try dsimp only
  repeat' split
  all_goals simp

@[simp] theorem State.endFrame_frame (s : State) (bs : List Byte) :
    (s.endFrame bs).pending = s.pending ∧ (s.endFrame bs).phase = s.phase ∧ (s.endFrame bs).pins = s.pins ∧
    (s.endFrame bs).valid = s.valid ∧ (s.endFrame bs).clean = s.clean ∧ (s.endFrame bs).oc = s.oc ∧
    (s.endFrame bs).st = s.st ∧ (s.endFrame bs).tps = s.tps ∧ (s.endFrame bs).br = s.br ∧ (s.endFrame bs).csc = s.csc ∧
    (s.endFrame bs).slc = s.slc ∧ (s.endFrame bs).chu = s.chu ∧ (s.endFrame bs).receivers = s.receivers ∧
    (s.endFrame bs).sent = s.sent ∧ (s.endFrame bs).choices = s.choices := by
  unfold State.endFrame
  dsimp only
  split <;> simp [State.setRx]

@[simp] theorem State.takeByte_frame (s : State) (b : Byte) :
    (s.takeByte b).pending = s.pending ∧ (s.takeByte b).phase = s.phase ∧ (s.takeByte b).pins = s.pins ∧
    (s.takeByte b).valid = s.valid ∧ (s.takeByte b).clean = s.clean ∧ (s.takeByte b).oc = s.oc ∧ (s.takeByte b).st = s.st ∧
    (s.takeByte b).tps = s.tps ∧ (s.takeByte b).br = s.br ∧ (s.takeByte b).csc = s.csc ∧ (s.takeByte b).slc = s.slc ∧
    (s.takeByte b).chu = s.chu ∧ (s.takeByte b).receivers = s.receivers ∧ (s.takeByte b).sent = s.sent ∧
    (s.takeByte b).choices = s.choices := by
  unfold State.takeByte
  dsimp only
  repeat' split
  all_goals simp [State.setRx]

@[simp] theorem State.setReceiver_frame (s : State) (l : PartnerLine) (r : Receiver) :
    (s.setReceiver l r).pending = s.pending ∧ (s.setReceiver l r).phase = s.phase ∧ (s.setReceiver l r).pins = s.pins ∧
    (s.setReceiver l r).valid = s.valid ∧ (s.setReceiver l r).clean = s.clean ∧ (s.setReceiver l r).hli = s.hli ∧
    (s.setReceiver l r).oc = s.oc ∧ (s.setReceiver l r).st = s.st ∧ (s.setReceiver l r).tps = s.tps ∧
    (s.setReceiver l r).br = s.br ∧ (s.setReceiver l r).csc = s.csc ∧ (s.setReceiver l r).slc = s.slc ∧
    (s.setReceiver l r).chu = s.chu ∧ (s.setReceiver l r).sent = s.sent ∧ (s.setReceiver l r).choices = s.choices := by
  cases l <;> simp [State.setReceiver]

@[simp] theorem State.failFrame_frame (s : State) (l : PartnerLine) :
    (s.failFrame l).pending = s.pending ∧ (s.failFrame l).phase = s.phase ∧ (s.failFrame l).pins = s.pins ∧
    (s.failFrame l).valid = s.valid ∧ (s.failFrame l).clean = s.clean ∧ (s.failFrame l).hli = s.hli ∧
    (s.failFrame l).oc = s.oc ∧ (s.failFrame l).st = s.st ∧ (s.failFrame l).tps = s.tps ∧ (s.failFrame l).br = s.br ∧
    (s.failFrame l).csc = s.csc ∧ (s.failFrame l).slc = s.slc ∧ (s.failFrame l).chu = s.chu ∧
    (s.failFrame l).receivers = s.receivers ∧ (s.failFrame l).choices = s.choices := by
  cases l <;> simp [State.failFrame]

@[simp] theorem State.takePartnerFrame_frame (s : State) (l : PartnerLine) (ty : Nat) (body : List Byte) :
    (s.takePartnerFrame l ty body).pending = s.pending ∧ (s.takePartnerFrame l ty body).phase = s.phase ∧
    (s.takePartnerFrame l ty body).pins = s.pins ∧ (s.takePartnerFrame l ty body).valid = s.valid ∧
    (s.takePartnerFrame l ty body).clean = s.clean ∧ (s.takePartnerFrame l ty body).receivers = s.receivers ∧
    (s.takePartnerFrame l ty body).choices = s.choices := by
  unfold State.takePartnerFrame
  repeat' split
  all_goals simp

@[simp] theorem State.partnerByte_frame (l : PartnerLine) (s : State) (b : Byte) :
    (State.partnerByte l s b).pending = s.pending ∧ (State.partnerByte l s b).phase = s.phase ∧
    (State.partnerByte l s b).pins = s.pins ∧ (State.partnerByte l s b).valid = s.valid ∧
    (State.partnerByte l s b).clean = s.clean ∧ (State.partnerByte l s b).choices = s.choices := by
  unfold State.partnerByte
  dsimp only
  split <;> simp

@[simp] theorem State.partnerGap_frame (s : State) (l : PartnerLine) :
    (s.partnerGap l).pending = s.pending ∧ (s.partnerGap l).phase = s.phase ∧ (s.partnerGap l).pins = s.pins ∧
    (s.partnerGap l).valid = s.valid ∧ (s.partnerGap l).clean = s.clean ∧ (s.partnerGap l).hli = s.hli ∧
    (s.partnerGap l).oc = s.oc ∧ (s.partnerGap l).st = s.st ∧ (s.partnerGap l).tps = s.tps ∧ (s.partnerGap l).br = s.br ∧
    (s.partnerGap l).csc = s.csc ∧ (s.partnerGap l).slc = s.slc ∧ (s.partnerGap l).chu = s.chu ∧
    (s.partnerGap l).choices = s.choices := by
  unfold State.partnerGap
  split <;> simp

/-! ### The cold start (R40) -/

theorem State.stopWaits_eq_true (s : State) :
    s.stopWaits = true ↔ ∃ cs, s.pending = .resetAssert :: cs ∨ s.pending = .powerLoss :: cs := by
  unfold State.stopWaits
  split <;> simp_all

/-- A cold start counts no choice of its own: another counter stays another counter. -/
theorem State.coldStart_choices (s : State) (k : Nat) :
    ({ s with choices := k } : State).coldStart = { s.coldStart with choices := k } := rfl

/-- What a cold start as the part performs it can do: it is made whole, or, where the reset input or the loss of the supply
comes next, it may leave the validity mark absent, the part not running and every record as it stood. -/
theorem State.performColdStart_cases (s : State) :
    (s.stopWaits = false ∧ s.performColdStart = s.coldStart) ∨
    (s.stopWaits = true ∧ Config.coldStartCut s.choices = false ∧
      s.performColdStart = { s.coldStart with choices := s.choices + 1 }) ∨
    (s.stopWaits = true ∧ Config.coldStartCut s.choices = true ∧
      s.performColdStart = { s with choices := s.choices + 1, valid := false, phase := .starting }) := by
  unfold State.performColdStart
  split
  · rename_i h
    cases hc : Config.coldStartCut s.choices
    · exact .inr (.inl ⟨h, rfl, by simp [State.coldStart_choices]⟩)
    · exact .inr (.inr ⟨h, rfl, by simp⟩)
  · rename_i h
    exact .inl ⟨Bool.eq_false_iff.mpr h, rfl⟩

end Sys2Proof.Machine
end

