-- ==== Sys2Proof/Laws/Answers.lean ====
section
/-! SUPPORT. How a request, an event and what happens on a line are taken, said once for every command; what a placed
notice, a decided shutter and the marks of the receive buffer come to. -/

namespace Sys2Proof.Machine

/-! ### Requests and events (R21, R111, R172, R173) -/

/-- An accepted request leaves the owner's state with its reply. -/
theorem takeRequest_accept {i : Instr} {op : State → Answer} {s t : State} {d : List Datum} (h : s.phase = .running)
    (ho : op s = .accept t d) : takeRequest i op s = .next (t.formReply i none d).startTx := by
  simp [takeRequest, h, ho]

/-- A refused request leaves every record but those of the host line. -/
theorem takeRequest_refuse {i : Instr} {op : State → Answer} {s : State} {c : Code} {d : List Datum} (h : s.phase = .running)
    (ho : op s = .refuse c d) : takeRequest i op s = .next (s.formReply i (some c) d).startTx := by
  simp [takeRequest, h, ho]

/-- A part that does not run takes no request. -/
theorem takeRequest_stopped {i : Instr} {op : State → Answer} {s : State} (h : s.phase ≠ .running) :
    takeRequest i op s = .next s := by
  simp [takeRequest, h]

/-- An event leaves its own effect and the end of its operation. -/
theorem takeEvent_running {f : State → State} {s : State} (h : s.phase = .running) :
    takeEvent f s = .next (s.settle (f s)).startTx := by
  simp [takeEvent, h]

/-- A part that does not run takes no event. -/
theorem takeEvent_stopped {f : State → State} {s : State} (h : s.phase ≠ .running) : takeEvent f s = .next s := by
  simp [takeEvent, h]

/-- What happens on a line leaves its own effect. -/
theorem takeLineEvent_running {f : State → State} {s : State} (h : s.phase = .running) :
    takeLineEvent f s = .next (f s).startTx := by
  simp [takeLineEvent, h]

/-- A part that does not run takes nothing from its lines. -/
theorem takeLineEvent_stopped {f : State → State} {s : State} (h : s.phase ≠ .running) : takeLineEvent f s = .next s := by
  simp [takeLineEvent, h]

/-- A request always answers a next state: it is never a fault and never a refusal of the model. -/
theorem takeRequest_next (i : Instr) (op : State → Answer) (s : State) : ∃ t, takeRequest i op s = .next t := by
  unfold takeRequest
  split
  · split <;> exact ⟨_, rfl⟩
  · exact ⟨_, rfl⟩

/-- An event always answers a next state. -/
theorem takeEvent_next (f : State → State) (s : State) : ∃ t, takeEvent f s = .next t := by
  unfold takeEvent
  split <;> exact ⟨_, rfl⟩

/-- What happens on a line always answers a next state. -/
theorem takeLineEvent_next (f : State → State) (s : State) : ∃ t, takeLineEvent f s = .next t := by
  unfold takeLineEvent
  split <;> exact ⟨_, rfl⟩

theorem settled_accept {op : State → Answer} {s t : State} {d : List Datum} (h : op s = .accept t d) :
    settled op s = .accept (s.settle t) d := by
  simp [settled, h]

theorem settled_refuse {op : State → Answer} {s : State} {c : Code} {d : List Datum} (h : op s = .refuse c d) :
    settled op s = .refuse c d := by
  simp [settled, h]

theorem unlessHeld_held {op : State → Answer} {s : State} (h : s.oc.state = .held) : unlessHeld op s = .refuse .held [] := by
  simp [unlessHeld, h]

theorem unlessHeld_open {op : State → Answer} {s : State} (h : s.oc.state ≠ .held) : unlessHeld op s = op s := by
  simp [unlessHeld, h]

/-! ### Notices (R41, R175) -/

/-- In a part that runs a notice goes to the notice queue, and OC is left alone. -/
theorem State.place_running (s : State) (k : NoticeKind) (ds : List Datum) (h : s.phase = .running) :
    s.place k ds = s.queueNotice { kind := k, time := s.oc.clock, fields := ds } := by
  simp [State.place, h]

@[simp] theorem State.place_oc_running (s : State) (k : NoticeKind) (ds : List Datum) (h : s.phase = .running) :
    (s.place k ds).oc = s.oc := by
  rw [s.place_running k ds h]
  simp

/-- Of OC a placed notice changes the deferred-notice list and its overflow mark alone. -/
theorem State.place_oc (s : State) (k : NoticeKind) (ds : List Datum) :
    (s.place k ds).oc =
      { s.oc with deferred := (s.place k ds).oc.deferred, deferredOver := (s.place k ds).oc.deferredOver } := by
  unfold State.place State.queueNotice State.deferNotice
  split <;> split <;> (try split) <;> rfl

/-- Of HLI a placed notice changes the notice queue and the notices-lost flag alone. -/
theorem State.place_hli (s : State) (k : NoticeKind) (ds : List Datum) :
    (s.place k ds).hli = { s.hli with notices := (s.place k ds).hli.notices, lost := (s.place k ds).hli.lost } := by
  unfold State.place State.queueNotice State.deferNotice
  split <;> split <;> (try split) <;> rfl

/-- A notice never leaves the queue by a placing, and the queue never passes 32. -/
theorem State.queueNotice_length (s : State) (n : Notice) (h : s.hli.notices.length ≤ 32) :
    s.hli.notices.length ≤ (s.queueNotice n).hli.notices.length ∧ (s.queueNotice n).hli.notices.length ≤ 32 := by
  unfold State.queueNotice
  split
  · exact ⟨Nat.le_refl _, h⟩
  · split
    · simp only [List.length_append, List.length_cons, List.length_nil]
      omega
    · exact ⟨Nat.le_refl _, h⟩

/-! ### The shutter (R95) -/

/-- Deciding the shutter sets the drive by the first failing condition, and changes nothing else of SLC. -/
theorem State.decideShutter_slc (s : State) :
    s.decideShutter.slc = { s.slc with shutter := if s.shutterFault = none then .opened else .closed } := by
  unfold State.decideShutter
  split
  · rename_i h
    rw [h]
    split
    · rename_i ho
      simp only [↓reduceIte, ← ho]
    · simp
  · rename_i f h
    rw [h]
    split
    · rename_i hc
      simp only [reduceCtorEq, ↓reduceIte, ← hc]
    · simp

/-! ### The receive buffer (R171, R172) -/

@[simp] theorem markTaken_length (es : List BufferEntry) : (markTaken es).length = es.length := by
  induction es with
  | nil => rfl
  | cons e es ih =>
    unfold markTaken
    split <;> simp [ih]

/-- Taking a request changes no place of the buffer but its mark. -/
theorem markTaken_requests (es : List BufferEntry) :
    (markTaken es).map BufferEntry.request = es.map BufferEntry.request := by
  induction es with
  | nil => rfl
  | cons e es ih =>
    unfold markTaken
    split <;> simp [ih]

/-! ### Replies that are lists (R173) -/

/-- What a reply gives of a list is a part from its head. -/
theorem fitting_prefix (room : Nat) (es : List (List Datum)) : fitting room es <+: es := by
  induction es generalizing room with
  | nil => simp [fitting]
  | cons e es ih =>
    unfold fitting
    split
    · simpa using ih _
    · simp

/-- What a reply gives of a list fits its room. -/
theorem fitting_size (room : Nat) (es : List (List Datum)) : ((fitting room es).map entrySize).sum ≤ room := by
  induction es generalizing room with
  | nil => simp [fitting]
  | cons e es ih =>
    unfold fitting
    split
    · have := ih (room - entrySize e)
      simp only [List.map_cons, List.sum_cons]
      omega
    · simp

/-! ### Figures -/

theorem clampTo_range (lo hi x : Nat) (h : lo ≤ hi) : lo ≤ clampTo lo hi x ∧ clampTo lo hi x ≤ hi := by
  unfold clampTo
  split <;> (try split) <;> omega

/-- Holding a figure between limits leaves one that lies between them. -/
theorem clampTo_of_mem (lo hi x : Nat) (h1 : lo ≤ x) (h2 : x ≤ hi) : clampTo lo hi x = x := by
  unfold clampTo
  split <;> (try split) <;> omega

/-- The drives follow the lock state: only WINDOW and OPEN draw the bolt (R135). -/
theorem LockState.drive_eq_retract (x : LockState) : x.drive = .retract ↔ x = .window ∨ x = .opened := by
  cases x <;> simp [LockState.drive]

/-- The lock record entered in a state holds that state's drive. -/
@[simp] theorem Slc.enter_drive (l : Slc) (x : LockState) (o : Option Opening) (t : Option Nat) :
    (l.enter x o t).boltDrive = (l.enter x o t).state.drive := rfl

end Sys2Proof.Machine
end

