-- ==== Sys2Proof/Laws/Lines.lean ====
section
/-! SUPPORT. The receivers of the partner lines (R180): what a byte and what a whole frame come to, said once, and the
numbers of a body read back. -/

namespace Sys2Proof

/-! ### Numbers and bytes -/

@[simp] theorem bytesOfNat_length (k n : Nat) : (bytesOfNat k n).length = k := by
  induction k with
  | zero => rfl
  | succ k ih => simp [bytesOfNat, ih]

@[simp] theorem natOfBytes_nil : natOfBytes [] = 0 := rfl

/-- Reading goes on from a first number. -/
theorem foldl_byte (bs : List Byte) (n : Nat) :
    bs.foldl (fun n b => n * 256 + b.toNat) n = n * 256 ^ bs.length + natOfBytes bs := by
  induction bs generalizing n with
  | nil => simp
  | cons b bs ih =>
    have h : natOfBytes (b :: bs) = b.toNat * 256 ^ bs.length + natOfBytes bs := by
      rw [natOfBytes, List.foldl_cons, ih]
      simp
    rw [List.foldl_cons, ih, h, List.length_cons, Nat.pow_succ]
    ring

theorem natOfBytes_cons (b : Byte) (bs : List Byte) : natOfBytes (b :: bs) = b.toNat * 256 ^ bs.length + natOfBytes bs := by
  rw [natOfBytes, List.foldl_cons, foldl_byte]
  simp

/-- A number that its bytes hold is read back. -/
@[simp] theorem natOfBytes_bytesOfNat (k n : Nat) : natOfBytes (bytesOfNat k n) = n % 256 ^ k := by
  induction k with
  | zero => simp [bytesOfNat, Nat.mod_one]
  | succ k ih =>
    rw [bytesOfNat, natOfBytes_cons, ih, bytesOfNat_length, Nat.pow_succ, Nat.mod_mul, BitVec.toNat_ofNat]
    have : (2 : Nat) ^ 8 = 256 := rfl
    rw [this]
    ring

theorem natOfBytes_bytesOfNat_of_lt (k n : Nat) (h : n < 256 ^ k) : natOfBytes (bytesOfNat k n) = n := by
  rw [natOfBytes_bytesOfNat, Nat.mod_eq_of_lt h]

@[simp] theorem crcBytes_length (bs : List Byte) : (crcBytes bs).length = 2 := by simp [crcBytes]

/-- A partner frame is marker, length, type, body and two bytes of CRC. -/
theorem partnerFrameBytes_eq (type : Nat) (body : List Byte) :
    partnerFrameBytes type body = startMarker :: BitVec.ofNat 8 body.length :: BitVec.ofNat 8 type ::
      (body ++ crcBytes (BitVec.ofNat 8 body.length :: BitVec.ofNat 8 type :: body)) := by
  simp [partnerFrameBytes, bytesOfNat]

namespace Machine

/-! ### Receivers read back -/

@[simp] theorem State.receiver_setReceiver_same (s : State) (l : PartnerLine) (r : Receiver) :
    (s.setReceiver l r).receiver l = r := by
  cases l with
  | station n => exact nth_putNth_same _ _ _ _ (by cases n <;> decide) (by cases n <;> decide)
  | dock => rfl
  | slotReader => rfl

@[simp] theorem State.setReceiver_setReceiver (s : State) (l : PartnerLine) (q r : Receiver) :
    (s.setReceiver l q).setReceiver l r = s.setReceiver l r := by
  cases l <;> simp [State.setReceiver]

/-- A receiver of another line is left alone. -/
theorem State.receiver_setReceiver_other (s : State) (l m : PartnerLine) (r : Receiver) (h : m ≠ l) :
    (s.setReceiver l r).receiver m = s.receiver m := by
  cases l <;> cases m <;> simp_all [State.setReceiver, State.receiver]
  rename_i a b
  exact nth_putNth_other _ _ _ _ _ (by cases a <;> cases b <;> simp_all [StationLine.num])

/-! ### A whole frame -/

/-- A receiver that has taken the beginning of a frame takes the rest of it: the frame passes its check, and its record is
one operation (R180). -/
theorem partnerByte_frame_from (l : PartnerLine) (type : Nat) (body : List Byte) (ht : type < 256)
    (hl : body.length ≤ l.maxLength) (ha : acceptsFrame l type body = true) (post : List Byte) :
    ∀ (pre : List Byte) (s : State), pre ≠ [] → post ≠ [] → pre ++ post = partnerFrameBytes type body →
      s.receiver l = { bytes := pre, hunting := false } →
      post.foldl (State.partnerByte l) s =
        (s.setReceiver l Receiver.rest).settle ((s.setReceiver l Receiver.rest).takePartnerFrame l type body) := by
  have h108 : l.maxLength ≤ 108 := by cases l <;> simp [PartnerLine.maxLength]
  induction post with
  | nil => intro _ _ _ h; exact absurd rfl h
  | cons b post ih =>
    intro pre s hpre _ heq hr
    have hlen : (pre ++ b :: post).length = 5 + body.length := by
      rw [heq, partnerFrameBytes_eq]; simp; omega
    obtain ⟨c, cs, rfl⟩ := List.exists_cons_of_ne_nil hpre
    have hbs : c :: (cs ++ [b]) = (partnerFrameBytes type body).take (cs.length + 2) := by
      rw [← heq]; simp [List.take_append]
    simp only [List.length_append, List.length_cons] at hlen
    cases post with
    | nil =>
      have hfull : c :: (cs ++ [b]) = partnerFrameBytes type body := by rw [← heq]; simp
      have hlast : (s.receiver l).take l b = (Receiver.rest, .frame type body) := by
        rw [hr]
        simp only [Receiver.take, hfull]
        rw [partnerFrameBytes_eq]
        simp only [List.length_cons, List.length_append, crcBytes_length, List.drop_succ_cons, List.drop_zero,
          List.take_succ_cons, List.take_zero, natOfBytes, List.foldl_cons, List.foldl_nil, BitVec.toNat_ofNat, Nat.zero_mul,
          Nat.zero_add, Nat.reducePow, Nat.mod_eq_of_lt ht, Nat.mod_eq_of_lt (show body.length < 256 by omega),
          Nat.add_comm 3, Nat.add_comm 2, List.take_left', List.drop_left']
        rw [if_neg (by omega), if_neg (by omega), if_neg (by omega), if_pos ⟨by simp [List.take_of_length_le], ha⟩]
      rw [List.foldl_cons, List.foldl_nil]
      simp only [State.partnerByte, hlast]
    | cons b2 post =>
      have hstep : (s.receiver l).take l b = ({ bytes := c :: (cs ++ [b]), hunting := false }, .nothing) := by
        rw [hr]
        simp only [Receiver.take]
        by_cases h3 : (c :: (cs ++ [b])).length < 3
        · rw [if_pos h3]
        · rw [if_neg h3]
          obtain ⟨k, hk⟩ : ∃ k, cs.length = k + 1 := ⟨cs.length - 1, by simp at h3; omega⟩
          rw [hbs, hk, partnerFrameBytes_eq]
          simp only [List.length_cons, hk] at hlen
          simp [natOfBytes, Nat.mod_eq_of_lt (show body.length < 256 by omega), show ¬ l.maxLength < body.length by omega,
            show min (k) (body.length + 2) + 1 + 1 + 1 < 5 + body.length by omega]
      rw [List.foldl_cons]
      have hs1 : State.partnerByte l s b = s.setReceiver l { bytes := c :: (cs ++ [b]), hunting := false } := by
        simp only [State.partnerByte, hstep]
      rw [hs1, ih (c :: (cs ++ [b])) _ (by simp) (by simp) (by rw [← heq]; simp) (by simp)]
      simp

/-- A record read and written back leaves the table. -/
theorem putNth_nth {α : Type} {n : Nat} (d : α) (v : Vector α n) (k : Nat) (h1 : 1 ≤ k) :
    putNth v k (nth d v k) = v := by
  have hk : k ≠ 0 := by omega
  ext i hi
  simp only [putNth, nth, hk, if_false, Vector.getElem_setIfInBounds]
  split
  · rename_i h
    subst h
    simp [show k - 1 < n by omega]
  · rfl

@[simp] theorem State.setReceiver_receiver (s : State) (l : PartnerLine) : s.setReceiver l (s.receiver l) = s := by
  cases l with
  | station n =>
    simp only [State.setReceiver, State.receiver]
    rw [putNth_nth _ _ _ (by cases n <;> decide)]
  | dock => rfl
  | slotReader => rfl

/-- A sound frame at a receiver with no frame in progress, hunting or not: its record is one operation (R180). -/
theorem partnerByte_frame (l : PartnerLine) (type : Nat) (body : List Byte) (s : State) (ht : type < 256)
    (hl : body.length ≤ l.maxLength) (ha : acceptsFrame l type body = true) (hr : (s.receiver l).bytes = []) :
    (partnerFrameBytes type body).foldl (State.partnerByte l) s =
      (s.setReceiver l Receiver.rest).settle ((s.setReceiver l Receiver.rest).takePartnerFrame l type body) := by
  have hfirst : State.partnerByte l s startMarker = s.setReceiver l { bytes := [startMarker], hunting := false } := by
    simp [State.partnerByte, Receiver.take, hr]
  have h := partnerByte_frame_from l type body ht hl ha
    (BitVec.ofNat 8 body.length :: BitVec.ofNat 8 type ::
      (body ++ crcBytes (BitVec.ofNat 8 body.length :: BitVec.ofNat 8 type :: body)))
    [startMarker] (s.setReceiver l { bytes := [startMarker], hunting := false }) (by simp) (by simp)
    (by rw [partnerFrameBytes_eq]; rfl) (by simp)
  rw [partnerFrameBytes_eq, List.foldl_cons, hfirst, h]
  simp

/-- What a sound frame on a partner line comes to, where its receiver has no frame in progress. -/
theorem takePartner_sound (l : PartnerLine) (type : Nat) (body : List Byte) (s : State) (hp : s.phase = .running)
    (ht : type < 256) (hl : body.length ≤ l.maxLength) (ha : acceptsFrame l type body = true)
    (hr : s.receiver l = Receiver.rest) :
    takePartner l (partnerFrameBytes type body) s = .next (s.settle (s.takePartnerFrame l type body)).startTx := by
  have hs : s.setReceiver l Receiver.rest = s := by rw [← hr, State.setReceiver_receiver]
  rw [takePartner, takeLineEvent_running hp]
  rw [partnerByte_frame l type body s ht hl ha (by rw [hr]; rfl), hs]

/-- Bytes on a partner line always answer a next state. -/
theorem takePartner_next (l : PartnerLine) (bs : List Byte) (s : State) : ∃ t, takePartner l bs s = .next t :=
  takeLineEvent_next _ s

/-! ### The totals of END read back -/

/-- The nine bytes of one slot of END. -/
theorem countsRow_drop (l : List Counts) (i : Nat) :
    (l.flatMap fun c => bytesOfNat 3 c.good ++ bytesOfNat 3 c.unfit ++ bytesOfNat 3 c.suspect).drop (9 * i) =
      (l.drop i).flatMap fun c => bytesOfNat 3 c.good ++ bytesOfNat 3 c.unfit ++ bytesOfNat 3 c.suspect := by
  induction l generalizing i with
  | nil => simp
  | cons c cs ih =>
    cases i with
    | zero => rfl
    | succ i =>
      rw [List.flatMap_cons, List.drop_succ_cons, ← ih i, Nat.mul_succ, Nat.add_comm, ← List.drop_drop,
        List.drop_left' (by simp)]

/-- The body of END takes 108 bytes (Table 10.4). -/
@[simp] theorem countsBytes_length (t : Vector Counts 12) : (countsBytes t).length = 108 := by
  have h : ∀ l : List Counts,
      (l.flatMap fun c => bytesOfNat 3 c.good ++ bytesOfNat 3 c.unfit ++ bytesOfNat 3 c.suspect).length = 9 * l.length := by
    intro l
    induction l with
    | nil => rfl
    | cons c cs ih => simp only [List.flatMap_cons, List.length_append, ih, bytesOfNat_length, List.length_cons]; omega
  rw [countsBytes, h]
  simp

/-- Totals that their bytes hold are read back (Table 10.4). -/
theorem countsOfBytes_countsBytes (t : Vector Counts 12) (h : t.toList.all Counts.fits = true) :
    countsOfBytes (countsBytes t) = t := by
  ext i hi
  have hf : (t[i]).good < 256 ^ 3 ∧ (t[i]).unfit < 256 ^ 3 ∧ (t[i]).suspect < 256 ^ 3 := by
    have := List.all_eq_true.mp h t[i] (by simp)
    simp only [Counts.fits, fits, Bool.and_eq_true, decide_eq_true_eq] at this
    exact ⟨this.1.1, this.1.2, this.2⟩
  obtain ⟨r, hd⟩ : ∃ r, (countsBytes t).drop (9 * i) =
      bytesOfNat 3 (t[i]).good ++ (bytesOfNat 3 (t[i]).unfit ++ (bytesOfNat 3 (t[i]).suspect ++ r)) := by
    rw [countsBytes, countsRow_drop, List.drop_eq_getElem_cons (by simpa using hi), List.flatMap_cons]
    exact ⟨_, by rw [List.append_assoc, List.append_assoc, Vector.getElem_toList]⟩
  have h3 : (countsBytes t).drop (9 * i + 3) = ((countsBytes t).drop (9 * i)).drop 3 := by simp
  have h6 : (countsBytes t).drop (9 * i + 6) = (((countsBytes t).drop (9 * i)).drop 3).drop 3 := by simp
  rw [countsOfBytes, Vector.getElem_ofFn]
  simp only [h3, h6, hd]
  rw [List.drop_left' (by simp), List.drop_left' (by simp), List.take_left' (by simp), List.take_left' (by simp),
    List.take_left' (by simp), natOfBytes_bytesOfNat_of_lt _ _ hf.1, natOfBytes_bytesOfNat_of_lt _ _ hf.2.1,
    natOfBytes_bytesOfNat_of_lt _ _ hf.2.2]

/-! ### The record of each command -/

/-- A record of a station, whole and sound, reaches its station (R108, Table 10.4). -/
theorem exec_stationCommand (l : StationLine) (r : StationRecord) (s : State) (h : s.Hears (.station l))
    (hw : WellFormed (stationCommand l r) = true) : Leaves (stationCommand l r) s (s.stationArrival l.num r) := by
  have step : ∀ (type : Nat) (body : List Byte), type < 256 → body.length ≤ 108 →
      (PartnerLine.station l).lengthOk type body.length = true → stationRecordOf type body = some r →
      takePartner (.station l) (partnerFrameBytes type body) s = .next (s.settle (s.stationArrival l.num r)).startTx := by
    intro type body ht hl hk hr
    rw [takePartner_sound _ _ _ _ h.1 ht hl (by simp [acceptsFrame, hk, hr]) h.2]
    simp [State.takePartnerFrame, hr]
  cases r with
  | ready => exact step 16 [] (by omega) (by simp) rfl rfl
  | sealRead q =>
    refine step 17 (bytesOfNat 4 q) (by omega) (by simp) (by rw [bytesOfNat_length]; rfl) ?_
    simp only [stationCommand, WellFormed, decide_eq_true_eq] at hw
    simpa [stationRecordOf] using hw
  | strap d n good =>
    simp only [stationCommand, WellFormed, Bool.and_eq_true, decide_eq_true_eq] at hw
    refine step 18 _ (by omega) (by simp) rfl ?_
    cases good <;> simp_all [stationRecordOf, bytesOfNat]
  | suspect d =>
    simp only [stationCommand, WellFormed, decide_eq_true_eq] at hw
    refine step 19 (bytesOfNat 1 d) (by omega) (by simp) (by rw [bytesOfNat_length]; rfl) ?_
    simpa [stationRecordOf, bytesOfNat] using hw
  | doubt d =>
    simp only [stationCommand, WellFormed, decide_eq_true_eq] at hw
    refine step 20 (bytesOfNat 1 d) (by omega) (by simp) (by rw [bytesOfNat_length]; rfl) ?_
    simpa [stationRecordOf, bytesOfNat] using hw
  | doubtCleared accepted => cases accepted <;> exact step 21 _ (by omega) (by simp) rfl (by rfl)
  | jam => exact step 22 [] (by omega) (by simp) rfl rfl
  | totals t =>
    refine step 23 (countsBytes t) (by omega) (by simp) (by rw [countsBytes_length]; rfl) ?_
    simp [stationRecordOf, countsOfBytes_countsBytes t hw]

/-- A SEAL READ of the slot reader, whole and sound, resolves the oldest pending drop (R92). -/
theorem exec_slotSealRead (q : Nat) (s : State) (h : s.Hears .slotReader) (hq : q < 4294967296) :
    Leaves (.slotSealRead q .sound) s (s.resolveOldest (if q = 0 then none else some q)) := by
  have hb : natOfBytes (bytesOfNat 4 q) = q := natOfBytes_bytesOfNat_of_lt 4 q (by omega)
  show takePartner .slotReader (partnerFrameBytes 64 (bytesOfNat 4 q)) s = _
  rw [takePartner_sound _ _ _ _ h.1 (by omega) (by simp [PartnerLine.maxLength])
    (by simp [acceptsFrame, PartnerLine.lengthOk, PartnerLine.typeLength]) h.2]
  simp only [State.takePartnerFrame, hb]

/-- A record of the handset, whole and sound, reaches CHU (R160, Table 10.5). -/
theorem exec_dockRecord (r : DockRecord) (type : Nat) (body : List Byte) (s : State) (h : s.Hears .dock) (ht : type < 256)
    (hl : body.length ≤ 8) (hk : PartnerLine.dock.lengthOk type body.length = true) (hr : dockRecordOf type body = some r) :
    takePartner .dock (partnerFrameBytes type body) s = .next (s.settle (s.dockRecord r)).startTx := by
  rw [takePartner_sound _ _ _ _ h.1 ht hl (by simp [acceptsFrame, hk]) h.2]
  simp [State.takePartnerFrame, hr]

theorem exec_present (u r : Nat) (s : State) (h : s.Hears .dock) (hu : u < 65536) (hr : r < 65536) :
    Leaves (.present u r .sound) s (s.dockRecord (.present u r)) := by
  refine exec_dockRecord _ 32 (bytesOfNat 2 u ++ bytesOfNat 2 r) s h (by omega) (by simp) (by rfl) ?_
  rw [dockRecordOf, List.take_left' (by simp), List.drop_left' (by simp), natOfBytes_bytesOfNat_of_lt 2 u (by omega),
    natOfBytes_bytesOfNat_of_lt 2 r (by omega)]

theorem exec_scan (q : Nat) (s : State) (h : s.Hears .dock) (hq : q < 4294967296) :
    Leaves (.scan q .sound) s (s.dockRecord (.scan q)) := by
  refine exec_dockRecord _ 33 (bytesOfNat 4 q) s h (by omega) (by simp) (by rfl) ?_
  rw [dockRecordOf, natOfBytes_bytesOfNat_of_lt 4 q (by omega)]

theorem exec_confirm (s : State) (h : s.Hears .dock) : Leaves (.confirm .sound) s (s.dockRecord .confirm) :=
  exec_dockRecord _ 34 [] s h (by omega) (by simp) rfl rfl

theorem exec_abandon (s : State) (h : s.Hears .dock) : Leaves (.abandon .sound) s (s.dockRecord .abandon) :=
  exec_dockRecord _ 35 [] s h (by omega) (by simp) rfl rfl

end Machine

end Sys2Proof
end

