-- ==== Sys2Proof/Laws/Lists.lean ====
section
/-! SUPPORT. The lists of replies sent in part: what `fitting` and `listing` come to, said once. -/

namespace Sys2Proof.Machine

/-- What fits in a room is a first part of the entries: it takes no more than the room, and one entry more would. -/
theorem fitting_take (room : Nat) (es : List (List Datum)) :
    ∃ k, k ≤ es.length ∧ fitting room es = es.take k ∧ ((es.take k).map entrySize).sum ≤ room ∧
      (k < es.length → room < ((es.take (k + 1)).map entrySize).sum) := by
  induction es generalizing room with
  | nil => exact ⟨0, by simp [fitting]⟩
  | cons e es ih =>
    by_cases h : entrySize e ≤ room
    · obtain ⟨k, hk, hf, hs, hn⟩ := ih (room - entrySize e)
      refine ⟨k + 1, by simpa using hk, by simp [fitting, h, hf], ?_, fun hlt => ?_⟩
      · rw [List.take_succ_cons, List.map_cons, List.sum_cons]; omega
      · have := hn (by simpa using hlt)
        rw [List.take_succ_cons, List.map_cons, List.sum_cons]; omega
    · exact ⟨0, by simp, by simp [fitting, h], by simp, fun _ => by simpa using h⟩

/-- Entries one after another take what they take each. -/
theorem size_flatten (es : List (List Datum)) : (es.flatten.map Datum.size).sum = (es.map entrySize).sum := by
  induction es with
  | nil => rfl
  | cons e es ih => rw [List.flatten_cons, List.map_append, List.sum_append, ih, List.map_cons, List.sum_cons, entrySize]

/-- A list sent in part gives as many whole entries as the reply holds beside its other bytes (R173, Table 10.3). -/
theorem listing_givesPart {other beside : Nat} (es : List (List Datum)) {total : List Datum} (ho : other ≤ 478)
    (h : other + 1 = beside + (total.map Datum.size).sum) : GivesPart beside es total (listing other es total) := by
  obtain ⟨k, hk, hf, hs, hn⟩ := fitting_take (478 - other) es
  have size : ∀ n, beside + (((es.take n).flatten ++ .count n :: total).map Datum.size).sum =
      ((es.take n).map entrySize).sum + (other + 2) := by
    intro n
    rw [List.map_append, List.sum_append, size_flatten, List.map_cons, List.sum_cons, Datum.size]; omega
  have e : listing other es total = (es.take k).flatten ++ .count k :: total := by
    simp [listing, hf, Nat.min_eq_left hk]
  refine ⟨k, hk, e, ?_, fun hlt => ?_⟩
  · rw [e, size]; omega
  · have := hn hlt
    rw [size]; omega
end Sys2Proof.Machine
end

