-- ==== Sys2Proof/Laws/PerInstr.lean ====
section
/-! SUPPORT. A statement about every command as syntax, command by command: the kind code lies in 0 to 58, a request is
spelled by its own kind and fields, and it has as many fields as its kind lists. -/

namespace Sys2Proof.Laws.requestCode

theorem denomEntry_ofRow : (DenomEntry.ofRow ∘ fun e : DenomEntry => [e.value, e.kind]) = id := rfl

theorem stockLine_ofRow : (StockLine.ofRow ∘ fun l : StockLine => [l.slot, l.pieces]) = id := rfl

theorem assemblyLine_ofRow : (AssemblyLine.ofRow ∘ fun l : AssemblyLine => [l.slot, l.pieces, l.source]) = id := rfl

theorem profileItem_ofRow : (ProfileItem.ofRow ∘ fun p : ProfileItem => [p.field, p.cls, p.slot, p.value]) = id := rfl

/-- A request (kind codes 1 to 58) is the one that its kind and its fields spell, and has the fields that its kind lists; a
command that is no request has kind 0 and no fields (R170, R179). -/
def Statement (i : Instr) : Prop :=
  requestKind i ≤ 58 ∧
    (requestKind i ≠ 0 →
      requestOfVals (requestKind i) (requestVals i) = some i ∧
      (requestShape (requestKind i)).map List.length = some (requestVals i).length) ∧
    (requestKind i = 0 → requestVals i = [])

theorem defineDenominations (entries : List DenomEntry) : Statement (.defineDenominations entries) :=
  ⟨(by decide : 1 ≤ 58),
    fun _ => ⟨congrArg (fun es => some (Instr.defineDenominations es)) (by rw [List.map_map, denomEntry_ofRow, List.map_id]), rfl⟩,
    fun h => nomatch h⟩

theorem transferStock (op1 op2 direction : Nat) (lines : List StockLine) :
    Statement (.transferStock op1 op2 direction lines) :=
  ⟨(by decide : 2 ≤ 58),
    fun _ => ⟨congrArg (fun es => some (Instr.transferStock op1 op2 direction es)) (by rw [List.map_map, stockLine_ofRow, List.map_id]), rfl⟩,
    fun h => nomatch h⟩

theorem openDay : Statement .openDay := ⟨by decide, fun _ => ⟨rfl, rfl⟩, by decide⟩

theorem closeDay : Statement .closeDay := ⟨by decide, fun _ => ⟨rfl, rfl⟩, by decide⟩

theorem cancelClose : Statement .cancelClose := ⟨by decide, fun _ => ⟨rfl, rfl⟩, by decide⟩

theorem resume : Statement .resume := ⟨by decide, fun _ => ⟨rfl, rfl⟩, by decide⟩

theorem setClock (time : OfficeTime) : Statement (.setClock time) :=
  ⟨(by decide : 7 ≤ 58), fun _ => ⟨rfl, rfl⟩, fun h => nomatch h⟩

theorem enrolOperator (op : Nat) (role : Nat) : Statement (.enrolOperator op role) :=
  ⟨(by decide : 8 ≤ 58), fun _ => ⟨rfl, rfl⟩, fun h => nomatch h⟩

theorem withdrawOperator (op : Nat) : Statement (.withdrawOperator op) :=
  ⟨(by decide : 9 ≤ 58), fun _ => ⟨rfl, rfl⟩, fun h => nomatch h⟩

theorem writeProfile (set : Nat) (items : List ProfileItem) : Statement (.writeProfile set items) :=
  ⟨(by decide : 10 ≤ 58),
    fun _ => ⟨congrArg (fun es => some (Instr.writeProfile set es)) (by rw [List.map_map, profileItem_ofRow, List.map_id]), rfl⟩,
    fun h => nomatch h⟩

theorem selectProfile (set : Nat) (op : Nat) : Statement (.selectProfile set op) :=
  ⟨(by decide : 11 ≤ 58), fun _ => ⟨rfl, rfl⟩, fun h => nomatch h⟩

theorem eraseRecords (op1 : Nat) (op2 : Nat) : Statement (.eraseRecords op1 op2) :=
  ⟨(by decide : 12 ≤ 58), fun _ => ⟨rfl, rfl⟩, fun h => nomatch h⟩

theorem setTill (till : Nat) (cls : Nat) (enabled : Nat) : Statement (.setTill till cls enabled) :=
  ⟨(by decide : 13 ≤ 58), fun _ => ⟨rfl, rfl⟩, fun h => nomatch h⟩

theorem openTill (till : Nat) (amount : Nat) (reduce : Nat) : Statement (.openTill till amount reduce) :=
  ⟨(by decide : 14 ≤ 58), fun _ => ⟨rfl, rfl⟩, fun h => nomatch h⟩

theorem confirmFloat (till : Nat) : Statement (.confirmFloat till) :=
  ⟨(by decide : 15 ≤ 58), fun _ => ⟨rfl, rfl⟩, fun h => nomatch h⟩

theorem cancelFloat (till : Nat) : Statement (.cancelFloat till) :=
  ⟨(by decide : 16 ≤ 58), fun _ => ⟨rfl, rfl⟩, fun h => nomatch h⟩

theorem topUp (till : Nat) (lines : List StockLine) : Statement (.topUp till lines) :=
  ⟨(by decide : 17 ≤ 58),
    fun _ => ⟨congrArg (fun es => some (Instr.topUp till es)) (by rw [List.map_map, stockLine_ofRow, List.map_id]), rfl⟩,
    fun h => nomatch h⟩

theorem reportTakings (till : Nat) (takings : Nat) : Statement (.reportTakings till takings) :=
  ⟨(by decide : 18 ≤ 58), fun _ => ⟨rfl, rfl⟩, fun h => nomatch h⟩

theorem declarePickup (till : Nat) (sealNo : Nat) (amount : Nat) : Statement (.declarePickup till sealNo amount) :=
  ⟨(by decide : 19 ≤ 58), fun _ => ⟨rfl, rfl⟩, fun h => nomatch h⟩

theorem closeTill (till : Nat) (sealNo : Nat) (amount : Nat) (takings : Nat) :
    Statement (.closeTill till sealNo amount takings) :=
  ⟨(by decide : 20 ≤ 58), fun _ => ⟨rfl, rfl⟩, fun h => nomatch h⟩

theorem declareOfficeBag (sealNo : Nat) (value : Nat) : Statement (.declareOfficeBag sealNo value) :=
  ⟨(by decide : 21 ≤ 58), fun _ => ⟨rfl, rfl⟩, fun h => nomatch h⟩

theorem adoptBag (slot : Nat) (kind : Nat) (till : Option Nat) (value : Nat) (sealNo : Nat) :
    Statement (.adoptBag slot kind till value sealNo) :=
  ⟨(by decide : 22 ≤ 58), fun _ => ⟨rfl, rfl⟩, fun h => nomatch h⟩

theorem writeOffBag (slot : Nat) (op : Nat) : Statement (.writeOffBag slot op) :=
  ⟨(by decide : 23 ≤ 58), fun _ => ⟨rfl, rfl⟩, fun h => nomatch h⟩

theorem recountBag (slot : Nat) : Statement (.recountBag slot) :=
  ⟨(by decide : 24 ≤ 58), fun _ => ⟨rfl, rfl⟩, fun h => nomatch h⟩

theorem clearStation (station : Nat) : Statement (.clearStation station) :=
  ⟨(by decide : 25 ≤ 58), fun _ => ⟨rfl, rfl⟩, fun h => nomatch h⟩

theorem enableStation (station : Nat) : Statement (.enableStation station) :=
  ⟨(by decide : 26 ≤ 58), fun _ => ⟨rfl, rfl⟩, fun h => nomatch h⟩

theorem disableStation (station : Nat) : Statement (.disableStation station) :=
  ⟨(by decide : 27 ≤ 58), fun _ => ⟨rfl, rfl⟩, fun h => nomatch h⟩

theorem requestOpening (op1 : Nat) (op2 : Nat) (windows : Nat) : Statement (.requestOpening op1 op2 windows) :=
  ⟨(by decide : 28 ≤ 58), fun _ => ⟨rfl, rfl⟩, fun h => nomatch h⟩

theorem cancelOpening : Statement .cancelOpening := ⟨by decide, fun _ => ⟨rfl, rfl⟩, by decide⟩

theorem clearAlarm (op : Nat) : Statement (.clearAlarm op) :=
  ⟨(by decide : 30 ≤ 58), fun _ => ⟨rfl, rfl⟩, fun h => nomatch h⟩

theorem newConsignment : Statement .newConsignment := ⟨by decide, fun _ => ⟨rfl, rfl⟩, by decide⟩

theorem assembleBag (consignment : Nat) (lines : List AssemblyLine) : Statement (.assembleBag consignment lines) :=
  ⟨(by decide : 32 ≤ 58),
    fun _ => ⟨congrArg (fun es => some (Instr.assembleBag consignment es)) (by rw [List.map_map, assemblyLine_ofRow, List.map_id]), rfl⟩,
    fun h => nomatch h⟩

theorem sealBag (slot : Nat) (sealNo : Nat) : Statement (.sealBag slot sealNo) :=
  ⟨(by decide : 33 ≤ 58), fun _ => ⟨rfl, rfl⟩, fun h => nomatch h⟩

theorem discardBag (slot : Nat) : Statement (.discardBag slot) :=
  ⟨(by decide : 34 ≤ 58), fun _ => ⟨rfl, rfl⟩, fun h => nomatch h⟩

theorem unsealBag (slot : Nat) (op : Nat) : Statement (.unsealBag slot op) :=
  ⟨(by decide : 35 ≤ 58), fun _ => ⟨rfl, rfl⟩, fun h => nomatch h⟩

theorem attachBag (slot : Nat) (consignment : Nat) : Statement (.attachBag slot consignment) :=
  ⟨(by decide : 36 ≤ 58), fun _ => ⟨rfl, rfl⟩, fun h => nomatch h⟩

theorem expectDelivery (consignment : Nat) (sealNo : Nat) (value : Nat) :
    Statement (.expectDelivery consignment sealNo value) :=
  ⟨(by decide : 37 ≤ 58), fun _ => ⟨rfl, rfl⟩, fun h => nomatch h⟩

theorem scheduleCollection (consignment : Nat) (courier : Nat) (route : Nat) (earliest : OfficeTime) (latest : OfficeTime) :
    Statement (.scheduleCollection consignment courier route earliest latest) :=
  ⟨(by decide : 38 ≤ 58), fun _ => ⟨rfl, rfl⟩, fun h => nomatch h⟩

theorem cancelConsignment (consignment : Nat) : Statement (.cancelConsignment consignment) :=
  ⟨(by decide : 39 ≤ 58), fun _ => ⟨rfl, rfl⟩, fun h => nomatch h⟩

theorem setNotices (mask : Nat) : Statement (.setNotices mask) :=
  ⟨(by decide : 40 ≤ 58), fun _ => ⟨rfl, rfl⟩, fun h => nomatch h⟩

theorem readStock : Statement .readStock := ⟨by decide, fun _ => ⟨rfl, rfl⟩, by decide⟩

theorem readReservations (index : Nat) : Statement (.readReservations index) :=
  ⟨(by decide : 42 ≤ 58), fun _ => ⟨rfl, rfl⟩, fun h => nomatch h⟩

theorem readOffice : Statement .readOffice := ⟨by decide, fun _ => ⟨rfl, rfl⟩, by decide⟩

theorem readDaySummary : Statement .readDaySummary := ⟨by decide, fun _ => ⟨rfl, rfl⟩, by decide⟩

theorem readOperators : Statement .readOperators := ⟨by decide, fun _ => ⟨rfl, rfl⟩, by decide⟩

theorem readProfile (set : Nat) : Statement (.readProfile set) :=
  ⟨(by decide : 46 ≤ 58), fun _ => ⟨rfl, rfl⟩, fun h => nomatch h⟩

theorem readTill (till : Nat) : Statement (.readTill till) :=
  ⟨(by decide : 47 ≤ 58), fun _ => ⟨rfl, rfl⟩, fun h => nomatch h⟩

theorem readTills (till : Nat) : Statement (.readTills till) :=
  ⟨(by decide : 48 ≤ 58), fun _ => ⟨rfl, rfl⟩, fun h => nomatch h⟩

theorem readPickupList (index : Nat) : Statement (.readPickupList index) :=
  ⟨(by decide : 49 ≤ 58), fun _ => ⟨rfl, rfl⟩, fun h => nomatch h⟩

theorem readCountQueue (index : Nat) : Statement (.readCountQueue index) :=
  ⟨(by decide : 50 ≤ 58), fun _ => ⟨rfl, rfl⟩, fun h => nomatch h⟩

theorem readBag (slot : Nat) : Statement (.readBag slot) := ⟨(by decide : 51 ≤ 58), fun _ => ⟨rfl, rfl⟩, fun h => nomatch h⟩

theorem readSeal (sealNo : Nat) : Statement (.readSeal sealNo) :=
  ⟨(by decide : 52 ≤ 58), fun _ => ⟨rfl, rfl⟩, fun h => nomatch h⟩

theorem readOrphans : Statement .readOrphans := ⟨by decide, fun _ => ⟨rfl, rfl⟩, by decide⟩

theorem readStations : Statement .readStations := ⟨by decide, fun _ => ⟨rfl, rfl⟩, by decide⟩

theorem readLock : Statement .readLock := ⟨by decide, fun _ => ⟨rfl, rfl⟩, by decide⟩

theorem readConsignment (consignment : Nat) : Statement (.readConsignment consignment) :=
  ⟨(by decide : 56 ≤ 58), fun _ => ⟨rfl, rfl⟩, fun h => nomatch h⟩

theorem readHandover : Statement .readHandover := ⟨by decide, fun _ => ⟨rfl, rfl⟩, by decide⟩

theorem readUnattached : Statement .readUnattached := ⟨by decide, fun _ => ⟨rfl, rfl⟩, by decide⟩

theorem hostFrame (bytes : List Byte) : Statement (.hostFrame bytes) :=
  ⟨Nat.zero_le 58, fun h => absurd rfl h, fun _ => rfl⟩

theorem hostByteGapTimeout : Statement .hostByteGapTimeout := ⟨Nat.zero_le 58, fun h => absurd rfl h, fun _ => rfl⟩

theorem lineBreak : Statement .lineBreak := ⟨Nat.zero_le 58, fun h => absurd rfl h, fun _ => rfl⟩

theorem replySent : Statement .replySent := ⟨Nat.zero_le 58, fun h => absurd rfl h, fun _ => rfl⟩

theorem noticeSent : Statement .noticeSent := ⟨Nat.zero_le 58, fun h => absurd rfl h, fun _ => rfl⟩

theorem minuteEvent : Statement .minuteEvent := ⟨Nat.zero_le 58, fun h => absurd rfl h, fun _ => rfl⟩

theorem floatExpiry (till : Nat) : Statement (.floatExpiry till) := ⟨Nat.zero_le 58, fun h => absurd rfl h, fun _ => rfl⟩

theorem latestReached (consignment : Nat) : Statement (.latestReached consignment) :=
  ⟨Nat.zero_le 58, fun h => absurd rfl h, fun _ => rfl⟩

theorem stationReady (line : StationLine) (wire : Wire) : Statement (.stationReady line wire) :=
  ⟨Nat.zero_le 58, fun h => absurd rfl h, fun _ => rfl⟩

theorem stationSealRead (line : StationLine) (sealNo : Nat) (wire : Wire) : Statement (.stationSealRead line sealNo wire) :=
  ⟨Nat.zero_le 58, fun h => absurd rfl h, fun _ => rfl⟩

theorem strap (line : StationLine) (slot : Nat) (pieces : Nat) (cls : Nat) (wire : Wire) :
    Statement (.strap line slot pieces cls wire) :=
  ⟨Nat.zero_le 58, fun h => absurd rfl h, fun _ => rfl⟩

theorem suspect (line : StationLine) (slot : Nat) (wire : Wire) : Statement (.suspect line slot wire) :=
  ⟨Nat.zero_le 58, fun h => absurd rfl h, fun _ => rfl⟩

theorem doubt (line : StationLine) (slot : Nat) (wire : Wire) : Statement (.doubt line slot wire) :=
  ⟨Nat.zero_le 58, fun h => absurd rfl h, fun _ => rfl⟩

theorem doubtCleared (line : StationLine) (verdict : Nat) (wire : Wire) : Statement (.doubtCleared line verdict wire) :=
  ⟨Nat.zero_le 58, fun h => absurd rfl h, fun _ => rfl⟩

theorem jam (line : StationLine) (wire : Wire) : Statement (.jam line wire) :=
  ⟨Nat.zero_le 58, fun h => absurd rfl h, fun _ => rfl⟩

theorem endTotals (line : StationLine) (totals : Vector Counts 12) (wire : Wire) :
    Statement (.endTotals line totals wire) :=
  ⟨Nat.zero_le 58, fun h => absurd rfl h, fun _ => rfl⟩

theorem linkSilenceExpiry (line : StationLine) : Statement (.linkSilenceExpiry line) :=
  ⟨Nat.zero_le 58, fun h => absurd rfl h, fun _ => rfl⟩

theorem partnerByteGapTimeout (line : PartnerLine) : Statement (.partnerByteGapTimeout line) :=
  ⟨Nat.zero_le 58, fun h => absurd rfl h, fun _ => rfl⟩

theorem slotSealRead (sealNo : Nat) (wire : Wire) : Statement (.slotSealRead sealNo wire) :=
  ⟨Nat.zero_le 58, fun h => absurd rfl h, fun _ => rfl⟩

theorem readWaitExpiry : Statement .readWaitExpiry := ⟨Nat.zero_le 58, fun h => absurd rfl h, fun _ => rfl⟩

theorem doorSenseChange (level : DoorSense) : Statement (.doorSenseChange level) :=
  ⟨Nat.zero_le 58, fun h => absurd rfl h, fun _ => rfl⟩

theorem boltSenseChange (level : BoltSense) : Statement (.boltSenseChange level) :=
  ⟨Nat.zero_le 58, fun h => absurd rfl h, fun _ => rfl⟩

theorem slotSenseChange (level : SlotSense) : Statement (.slotSenseChange level) :=
  ⟨Nat.zero_le 58, fun h => absurd rfl h, fun _ => rfl⟩

theorem delayExpiry : Statement .delayExpiry := ⟨Nat.zero_le 58, fun h => absurd rfl h, fun _ => rfl⟩

theorem windowExpiry : Statement .windowExpiry := ⟨Nat.zero_le 58, fun h => absurd rfl h, fun _ => rfl⟩

theorem boltConfirmationExpiry : Statement .boltConfirmationExpiry := ⟨Nat.zero_le 58, fun h => absurd rfl h, fun _ => rfl⟩

theorem present (courier : Nat) (route : Nat) (wire : Wire) : Statement (.present courier route wire) :=
  ⟨Nat.zero_le 58, fun h => absurd rfl h, fun _ => rfl⟩

theorem scan (sealNo : Nat) (wire : Wire) : Statement (.scan sealNo wire) :=
  ⟨Nat.zero_le 58, fun h => absurd rfl h, fun _ => rfl⟩

theorem confirm (wire : Wire) : Statement (.confirm wire) := ⟨Nat.zero_le 58, fun h => absurd rfl h, fun _ => rfl⟩

theorem abandon (wire : Wire) : Statement (.abandon wire) := ⟨Nat.zero_le 58, fun h => absurd rfl h, fun _ => rfl⟩

theorem stepTimerExpiry : Statement .stepTimerExpiry := ⟨Nat.zero_le 58, fun h => absurd rfl h, fun _ => rfl⟩

theorem overallTimerExpiry : Statement .overallTimerExpiry := ⟨Nat.zero_le 58, fun h => absurd rfl h, fun _ => rfl⟩

theorem controlledStop : Statement .controlledStop := ⟨Nat.zero_le 58, fun h => absurd rfl h, fun _ => rfl⟩

theorem powerFailDeassert : Statement .powerFailDeassert := ⟨Nat.zero_le 58, fun h => absurd rfl h, fun _ => rfl⟩

theorem resetAssert : Statement .resetAssert := ⟨Nat.zero_le 58, fun h => absurd rfl h, fun _ => rfl⟩

theorem resetRelease : Statement .resetRelease := ⟨Nat.zero_le 58, fun h => absurd rfl h, fun _ => rfl⟩

theorem powerUp : Statement .powerUp := ⟨Nat.zero_le 58, fun h => absurd rfl h, fun _ => rfl⟩

theorem coldStart : Statement .coldStart := ⟨Nat.zero_le 58, fun h => absurd rfl h, fun _ => rfl⟩

theorem warmRestart : Statement .warmRestart := ⟨Nat.zero_le 58, fun h => absurd rfl h, fun _ => rfl⟩

theorem lineReturnsToMark : Statement .lineReturnsToMark := ⟨Nat.zero_le 58, fun h => absurd rfl h, fun _ => rfl⟩

theorem powerLoss : Statement .powerLoss := ⟨Nat.zero_le 58, fun h => absurd rfl h, fun _ => rfl⟩

theorem dockFrameCheckFailed (type : Nat) (body : List Byte) (wire : Wire) :
    Statement (.dockFrameCheckFailed type body wire) :=
  ⟨Nat.zero_le 58, fun h => absurd rfl h, fun _ => rfl⟩

end Sys2Proof.Laws.requestCode
end

