-- ==== Sys2Proof/Machine/Frames.lean ====
section
/-! DEFINITION. The frames the part sends as bytes of their lines: replies and notices (R173, R175, R179, Tables 10.1 to
10.3), the records to stations and handset and the partner frame (R180, Tables 10.4, 10.5). State keeps the records
themselves; this is how each stands on its line. -/

namespace Sys2Proof.Machine

/-- The status byte of a reply: 0 ACCEPTED, 1 to 13 the codes of Table 5 (Table 10.3). -/
def statusByte (status : Option Code) : List Byte := bytesOfNat 1 ((status.map Code.num).getD 0)

/-- A reply as a frame of the host line: the status, then the detail (Table 10.3). -/
def Reply.bytes (r : Reply) : List Byte := hostFrameBytes r.kind r.tag (statusByte r.status ++ r.detail.flatMap Datum.bytes)

/-- A notice as a frame of the host line: the office time, then the fields (Table 10.3, R175), under a tag that the manual
leaves open (log entry 31). -/
def Notice.bytes (n : Notice) : List Byte :=
  hostFrameBytes n.kind.num (Config.noticeTag n.kind.num) ((Datum.time n.time).bytes ++ n.fields.flatMap Datum.bytes)

/-- A record to a station as a frame (Table 10.4). -/
def ToStation.bytes : ToStation → List Byte
  | .assign n p => partnerFrameBytes 1 (bytesOfNat 4 n ++ p.code.bytes)
  | .go => partnerFrameBytes 2 []
  | .pause => partnerFrameBytes 3 []
  | .abort => partnerFrameBytes 4 []

/-- A record to the handset as a frame (Table 10.5); a direction is 0 OUT or 1 IN. -/
def ToDock.bytes : ToDock → List Byte
  | .acceptPresent c o i => partnerFrameBytes 48 (bytesOfNat 1 0 ++ bytesOfNat 1 c ++ bytesOfNat 1 o ++ bytesOfNat 1 i)
  | .acceptScan b inward left =>
    partnerFrameBytes 48 (bytesOfNat 1 1 ++ bytesOfNat 1 b ++ bytesOfNat 1 inward.toNat ++ bytesOfNat 1 left)
  | .refuse c => partnerFrameBytes 49 (bytesOfNat 1 c.num)
  | .waitSafe => partnerFrameBytes 50 []
  | .go => partnerFrameBytes 51 []
  | .done none => partnerFrameBytes 52 [0, 0]
  | .done (some r) => partnerFrameBytes 52 (bytesOfNat 1 1 ++ r.code.bytes)

/-- A frame sent, as bytes. -/
def SentRecord.bytes : SentRecord → List Byte
  | .toStation _ r => r.bytes
  | .toDock r => r.bytes
  | .reply r => r.bytes
  | .notice n => n.bytes

end Sys2Proof.Machine
end

