-- ==== Sys2Proof/Tests/Slice0.lean ====
section
/-! SUPPORT. Tests: the check of well-formedness, bytes written out from chapter 10, the manual's worked examples, one
step each, and for each statement states and operands that meet the hypotheses of its clauses. Expected values are the
manual's, or worked by hand from its rules; each test names its place. -/

set_option Elab.async false

namespace Sys2Proof.Machine

/-! ### Small states -/

/-- The state a command leaves. -/
def after (i : Instr) (s : State) : State :=
  match exec i s with
  | .next t => t
  | _ => s

/-- Status and detail of the reply to a request. -/
def answer (i : Instr) (s : State) : Option (Option Code × List Datum) :=
  (after i s).hli.lastReply.map fun r => (r.status, r.detail)

/-- Kinds of the notices in the queue. -/
def told (s : State) : List NoticeKind := s.hli.notices.map Notice.kind

/-- One denomination slot with these counts. -/
def stocked (working reserve unfit dispatch : Nat) : StockSlot :=
  { working := working, reserve := reserve, unfit := unfit, dispatch := dispatch, suspect := 0, low := working, high := working }

/-- The machine after reset, its RESTART notice sent, with the slots of Table 4.3 and a ROLL of 100 in slot 6, the
operators 1 and 2 (SUPERVISOR) and 3 (OFFICE), and the day not yet opened. -/
def ready : State :=
  { State.reset with
    hli := { State.reset.hli with tx := .idle, notices := [] }
    oc := { State.reset.oc with
      clock := { day := 1204, sec := 40000 }
      operators := [{ ident := 1, role := .supervisor }, { ident := 2, role := .supervisor }, { ident := 3, role := .office }] }
    st := { State.reset.st with
      denoms := [⟨5000, .note⟩, ⟨2500, .roll⟩, ⟨2000, .note⟩, ⟨1000, .note⟩, ⟨500, .note⟩, ⟨100, .roll⟩] } }

/-- TRADING since second 28,800: the trading minute is 186. -/
def trading : State :=
  { ready with
    oc := { ready.oc with state := .trading, openMark := some { day := 1204, sec := 28800 }, minuteTold := 186 } }

/-- An office state put in place. -/
def State.inOffice (s : State) (x : OfficeState) : State := { s with oc := { s.oc with state := x } }

/-- HELD with TRADING remembered. -/
def State.nowHeld (s : State) : State := { s with oc := { s.oc with state := .held, remembered := some .trading } }

/-- Counts of a slot put in place. -/
def State.stock (s : State) (d : Nat) (x : StockSlot) : State := s.setSlot d x

/-- The active profile put in place. -/
def State.under (s : State) (p : Profile) : State := { s with oc := { s.oc with profileA := p } }

/-- The lock put in place. -/
def State.locks (s : State) (l : Slc) : State := { s with slc := l }

/-! ### WellFormed: each check refuses a term -/

theorem test_wellFormed_widths_of_requests :
    [ Instr.defineDenominations [⟨4294967296, 0⟩], .defineDenominations [⟨100, 256⟩],
      .defineDenominations (List.replicate 96 ⟨100, 0⟩), .transferStock 65536 0 0 [], .transferStock 0 65536 0 [],
      .transferStock 0 0 256 [], .transferStock 0 0 0 [⟨256, 1⟩], .transferStock 0 0 0 [⟨1, 16777216⟩],
      .transferStock 0 0 0 (List.replicate 119 ⟨1, 1⟩), .setClock ⟨65536, 0⟩, .setClock ⟨0, 4294967296⟩,
      .enrolOperator 65536 0, .enrolOperator 1 256, .withdrawOperator 65536, .writeProfile 256 [],
      .writeProfile 0 [⟨256, 0, 0, 0⟩], .writeProfile 0 [⟨0, 256, 0, 0⟩], .writeProfile 0 [⟨0, 0, 256, 0⟩],
      .writeProfile 0 [⟨0, 0, 0, 4294967296⟩], .writeProfile 0 (List.replicate 69 ⟨0, 0, 0, 0⟩), .selectProfile 256 1,
      .selectProfile 0 65536, .eraseRecords 65536 1, .eraseRecords 1 65536, .setTill 256 0 0, .setTill 1 256 0,
      .setTill 1 0 256, .openTill 256 1 0, .openTill 1 4294967296 0, .openTill 1 1 256, .confirmFloat 256,
      .cancelFloat 256, .topUp 256 [], .topUp 1 [⟨1, 16777216⟩], .topUp 1 (List.replicate 120 ⟨1, 1⟩),
      .reportTakings 256 0, .reportTakings 1 4294967296 ].all (fun i => !WellFormed i) = true := by decide +kernel

theorem test_wellFormed_widths_of_requests_more :
    [ Instr.declarePickup 256 1 1, .declarePickup 1 4294967296 1, .declarePickup 1 1 4294967296, .closeTill 256 1 1 1,
      .closeTill 1 4294967296 1 1, .closeTill 1 1 4294967296 1, .closeTill 1 1 1 4294967296,
      .declareOfficeBag 4294967296 0, .declareOfficeBag 1 4294967296, .adoptBag 256 0 none 0 0, .adoptBag 240 256 none 0 0,
      .adoptBag 240 0 (some 256) 0 0, .adoptBag 240 0 none 4294967296 0, .adoptBag 240 0 none 0 4294967296,
      .writeOffBag 256 1, .writeOffBag 0 65536, .recountBag 256, .clearStation 256, .enableStation 256,
      .disableStation 256, .requestOpening 65536 1 1, .requestOpening 1 65536 1, .requestOpening 1 2 256,
      .clearAlarm 65536, .assembleBag 256 [], .assembleBag 1 [⟨256, 1, 0⟩], .assembleBag 1 [⟨1, 16777216, 0⟩],
      .assembleBag 1 [⟨1, 1, 256⟩], .assembleBag 1 (List.replicate 96 ⟨1, 1, 0⟩), .sealBag 256 1, .sealBag 0 4294967296,
      .discardBag 256, .unsealBag 256 1, .unsealBag 0 65536, .attachBag 256 1, .attachBag 0 256, .expectDelivery 256 1 1,
      .expectDelivery 1 4294967296 1, .expectDelivery 1 1 4294967296, .scheduleCollection 256 1 1 ⟨0, 0⟩ ⟨0, 1⟩,
      .scheduleCollection 1 65536 1 ⟨0, 0⟩ ⟨0, 1⟩, .scheduleCollection 1 1 65536 ⟨0, 0⟩ ⟨0, 1⟩,
      .scheduleCollection 1 1 1 ⟨65536, 0⟩ ⟨0, 1⟩, .scheduleCollection 1 1 1 ⟨0, 0⟩ ⟨0, 4294967296⟩,
      .cancelConsignment 256, .setNotices 16777216, .readReservations 256, .readProfile 256, .readTill 256,
      .readTills 256, .readPickupList 256, .readCountQueue 256, .readBag 256, .readSeal 4294967296,
      .readConsignment 256 ].all (fun i => !WellFormed i) = true := by decide +kernel

theorem test_wellFormed_widths_of_events :
    [ Instr.floatExpiry 0, .floatExpiry 97, .latestReached 0, .latestReached 9,
      .stationSealRead .one 4294967296 .sound, .strap .one 256 1 0 .sound, .strap .one 1 256 0 .sound,
      .strap .one 1 1 256 .sound, .suspect .one 256 .sound, .doubt .one 256 .sound, .doubtCleared .one 256 .sound,
      .endTotals .one (Vector.replicate 12 ⟨16777216, 0, 0⟩) .sound, .endTotals .one (Vector.replicate 12 ⟨0, 16777216, 0⟩) .sound,
      .endTotals .one (Vector.replicate 12 ⟨0, 0, 16777216⟩) .sound, .slotSealRead 4294967296 .sound, .present 65536 1 .sound,
      .present 1 65536 .sound, .scan 4294967296 .sound, .dockFrameCheckFailed 256 [] .sound,
      .dockFrameCheckFailed 32 (List.replicate 256 0) .sound ].all (fun i => !WellFormed i) = true := by decide +kernel

theorem test_wellFormed_at_the_top_of_each_width :
    [ Instr.transferStock 65535 65535 255 (List.replicate 118 ⟨255, 16777215⟩), .openTill 255 4294967295 255,
      .adoptBag 255 255 (some 255) 4294967295 4294967295, .setNotices 16777215, .floatExpiry 96, .latestReached 8,
      .dockFrameCheckFailed 255 (List.replicate 255 0) .sound ].all WellFormed = true := by decide +kernel

/-! ### Bytes (chapter 10) -/

/-- The check value of a CRC-16 with this generator, all ones at the start and no inversion, over the digits 1 to 9. -/
theorem test_crc_check_value : crc16 [0x31, 0x32, 0x33, 0x34, 0x35, 0x36, 0x37, 0x38, 0x39] = 0x29B1#16 := by decide +kernel

/-- OPEN DAY is kind 3 with an empty body; tag 1234 hexadecimal (Table 10.1). -/
theorem test_frame_openDay : requestFrame 0x1234 .openDay = [0x7E, 0, 0, 3, 0x12, 0x34, 0x5B, 0x9A] := by decide +kernel

/-- The same bytes from the line reach OC: a place of the buffer with the tag, to be taken next (R169 to R171). -/
theorem test_hostFrame_reaches_the_buffer :
    (after (.hostFrame [0x7E, 0, 0, 3, 0x12, 0x34, 0x5B, 0x9A]) ready).hli.buffer =
      [{ tag := 0x1234, request := .openDay, taken := false }] := by decide +kernel

/-- A CRC that disagrees is answered FRAME with tag 0 and kind 0 (R170). -/
theorem test_hostFrame_bad_crc :
    (after (.hostFrame [0x7E, 0, 0, 3, 0x12, 0x34, 0x5B, 0x9B]) ready).hli.tx =
      .reply { tag := 0, kind := 0, status := some .frame, detail := [], holdsPlace := false } := by decide +kernel

/-- One request of each family, its body written out byte by byte from its rule and Table 10.2. -/
theorem test_bodies_of_each_family :
    decodeRequest 1 [2, 0, 0, 0x13, 0x88, 0, 0, 0, 0x09, 0xC4, 1] = some (.defineDenominations [⟨5000, 0⟩, ⟨2500, 1⟩]) ∧
    decodeRequest 2 [0, 1, 0, 3, 0, 1, 4, 0, 0, 80] = some (.transferStock 1 3 0 [⟨4, 80⟩]) ∧
    decodeRequest 7 [0x04, 0xB4, 0, 1, 0x50, 0x54] = some (.setClock ⟨1204, 86100⟩) ∧
    decodeRequest 10 [1, 1, 3, 2, 4, 0, 0, 0, 14] = some (.writeProfile 1 [⟨3, 2, 4, 14⟩]) ∧
    decodeRequest 14 [5, 0, 0, 0x75, 0x30, 1] = some (.openTill 5 30000 1) ∧
    decodeRequest 22 [240, 0, 1, 40, 0, 0, 0x2E, 0xE0, 0, 0, 0x1B, 0x79] = some (.adoptBag 240 0 (some 40) 12000 7033) ∧
    decodeRequest 22 [240, 2, 0, 0, 0, 0x2E, 0xE0, 0, 0, 0, 0] = some (.adoptBag 240 2 none 12000 0) ∧
    decodeRequest 25 [3] = some (.clearStation 3) ∧
    decodeRequest 28 [0, 1, 0, 2, 8] = some (.requestOpening 1 2 8) ∧
    decodeRequest 32 [3, 1, 1, 0, 0, 40, 0] = some (.assembleBag 3 [⟨1, 40, 0⟩]) ∧
    decodeRequest 38 [3, 0x01, 0xA1, 0, 22, 0x04, 0xBA, 0, 0, 0xC4, 0xE0, 0x04, 0xBA, 0, 0, 0xD2, 0xF0] =
      some (.scheduleCollection 3 417 22 ⟨1210, 50400⟩ ⟨1210, 54000⟩) ∧
    decodeRequest 40 [0x10, 0, 1] = some (.setNotices 0x100001) ∧ decodeRequest 58 [] = some .readUnattached := by decide +kernel

/-- A body longer or shorter than its kind and count bytes imply is malformed, and a presence byte that is neither 0
nor 1 too (R170, R179; log entry 20). -/
theorem test_malformed_bodies :
    decodeRequest 3 [0] = none ∧ decodeRequest 13 [1, 0] = none ∧ decodeRequest 2 [0, 1, 0, 3, 0, 2, 4, 0, 0, 80] = none ∧
    decodeRequest 22 [240, 0, 2, 40, 0, 0, 0, 1, 0, 0, 0, 1] = none ∧ decodeRequest 59 [] = none ∧
    decodeRequest 0 [] = none := by decide +kernel

/-- What a receiver at rest comes to over bytes, and what the last of them told it. -/
def heardBytes (l : PartnerLine) (bs : List Byte) : Receiver × Heard :=
  bs.foldl (fun r b => r.1.take l b) (Receiver.rest, .nothing)

/-- SEAL READ 880,112 on a station line with the CRC of its bytes passes the frame check; another CRC, another first byte, a
length that no frame of the line has, a length that is not the type's and a class that is neither GOOD nor UNFIT do not, and
the receiver hunts (R180). -/
theorem test_partner_frame_check :
    heardBytes (.station .two) [0x7E, 4, 17, 0, 0x0D, 0x6D, 0xF0, 0x76, 0x82] =
      (Receiver.rest, .frame 17 [0, 0x0D, 0x6D, 0xF0]) ∧
    heardBytes (.station .two) [0x7E, 4, 17, 0, 0x0D, 0x6D, 0xF0, 0x76, 0x83] = Receiver.failed ∧
    heardBytes (.station .two) [0x7F] = Receiver.failed ∧ heardBytes (.station .two) [0x7E, 109, 18] = Receiver.failed ∧
    heardBytes (.station .two) (partnerFrameBytes 18 [1, 1]) = Receiver.failed ∧
    heardBytes (.station .two) (partnerFrameBytes 18 [1, 1, 2]) = Receiver.failed ∧
    heardBytes .dock (partnerFrameBytes 33 [1, 2, 3]) = Receiver.failed ∧
    heardBytes .dock (partnerFrameBytes 17 [0, 0, 0, 1]) = (Receiver.rest, .frame 17 [0, 0, 0, 1]) := by decide +kernel

/-- After a frame that fails, the bytes up to the next marker are passed over, and the frame behind them is taken (R180). -/
theorem test_partner_hunt :
    heardBytes (.station .two) ([0x7E, 109, 18, 0x42, 0x42] ++ [0x7E, 4, 17, 0, 0x0D, 0x6D, 0xF0, 0x76, 0x82]) =
      (Receiver.rest, .frame 17 [0, 0x0D, 0x6D, 0xF0]) := by decide +kernel

/-- ASSIGN seal 880,112 portion 1 of 2; DONE, ABANDONED, OVERALL_TIMEOUT; an accepted WITHDRAW OPERATOR under tag 7
(Tables 10.1, 10.3 to 10.5). -/
theorem test_frames_sent :
    (SentRecord.toStation 2 (.assign 880112 .first)).bytes = [0x7E, 5, 1, 0, 0x0D, 0x6D, 0xF0, 1, 0x2E, 0x95] ∧
    (SentRecord.toDock (.done (some .overallTimeout))).bytes = [0x7E, 2, 52, 1, 2, 0x63, 0xBE] ∧
    (SentRecord.reply { tag := 7, kind := 9, status := none, detail := [], holdsPlace := true }).bytes =
      [0x7E, 0, 1, 9, 0, 7, 0, 0xCE, 0xA1] ∧ ToDock.bytes .go = [0x7E, 0, 51] ++ crcBytes [0, 51] := by decide +kernel

/-- No word of the table spells a command. -/
theorem test_no_word_spells_a_command : decodeTableWord 8 3 = none ∧ State.reset.withFetchWord 8 3 = State.reset := by
  decide +kernel

/-! ### Stock: the examples of chapter 1.10 -/

/-- Slot 4 of the first example: floor 20, WORKING 120, UNFIT 35, three reservations; till 7 is one of the owners. -/
def stockExample : State :=
  let p : Profile := { Profile.atColdStart with floor := putNth Profile.atColdStart.floor 4 20 }
  let s : State := (trading.under p).stock 4 (stocked 120 0 35 0)
  ({ s with st := { s.st with reservations :=
      [ { owner := .till 7, lines := [⟨4, 18, .working⟩], created := ⟨1204, 39000⟩, expiry := some ⟨1204, 40900⟩ },
        { owner := .till 12, lines := [⟨4, 12, .working⟩], created := ⟨1204, 39100⟩, expiry := some ⟨1204, 41000⟩ },
        { owner := .bag 41, lines := [⟨4, 10, .working⟩, ⟨4, 25, .unfit⟩], created := ⟨1204, 39200⟩, expiry := none } ] } } :
    State).setTill 7 { Till.atColdStart with
      enabled := true, state := .composed
      pending := some { prior := .closed, requested := 18000, composed := 18000, reduced := false } }

/-- Availability 60, transfer limit 80, assembly limits 80 and 10 (chapter 1.10). -/
theorem test_availability_and_limits :
    stockExample.availability 4 = 60 ∧ stockExample.assemblyLimit .working 4 = 80 ∧
    stockExample.assemblyLimit .unfit 4 = 10 ∧ stockExample.reserved .working 4 = 40 := by decide +kernel

/-- A TOP UP line for 61 pieces is SHORT, naming slot 4 with availability 60. -/
theorem test_topUp_short :
    answer (.topUp 9 [⟨4, 61⟩]) (stockExample.setTill 9 { Till.atColdStart with state := .opened }) =
      some (some .short, [.byte 4, .pieces 60]) := by decide +kernel

/-- A transfer of 80 pieces into RESERVE leaves WORKING at 40 and availability 0. -/
theorem test_transferStock_down :
    let t := after (.transferStock 1 3 0 [⟨4, 80⟩]) stockExample
    (t.slot 4).working = 40 ∧ (t.slot 4).reserve = 80 ∧ (t.slot 4).low = 40 ∧ (t.slot 4).high = 120 ∧ t.availability 4 = 0 ∧
      t.stockValue = stockExample.stockValue := by decide +kernel

/-- 81 pieces are SHORT; one operator alone fails the check (R10, R33). -/
theorem test_transferStock_refused :
    answer (.transferStock 1 3 0 [⟨4, 81⟩]) stockExample = some (some .short, [.byte 4]) ∧
    answer (.transferStock 1 1 0 [⟨4, 80⟩]) stockExample = some (some .role, []) := by decide +kernel

/-- CONFIRM FLOAT for till 7 debits 18 pieces. -/
theorem test_confirmFloat_debits :
    let t := after (.confirmFloat 7) (stockExample.stock 4 (stocked 40 80 35 0))
    (t.slot 4).working = 22 ∧ t.reserved .working 4 = 22 ∧ t.availability 4 = 0 ∧ (t.till 7).state = .opened ∧
      t.oc.totals.floatsIssued = 18000 := by decide +kernel

/-- CANCEL FLOAT frees the reservation and returns the till to its prior state (R47). -/
theorem test_cancelFloat :
    let t := after (.cancelFloat 7) stockExample
    t.reserved .working 4 = 22 ∧ (t.slot 4).working = 120 ∧ (t.till 7).state = .closed ∧
      answer (.cancelFloat 7) stockExample = some (none, [.enum 0]) := by decide +kernel

/-- The expiry of a float does the same, with FLOAT_EXPIRED (R48). -/
theorem test_floatExpiry :
    let t := after (.floatExpiry 7) stockExample
    t.reserved .working 4 = 22 ∧ (t.till 7).state = .closed ∧ told t = [.floatExpired] := by decide +kernel

/-- The bag of the second example, ASSEMBLING in slot 0 for consignment 2. -/
def assembledBag : State :=
  let s : State := (trading.stock 1 (stocked 200 0 0 0)).stock 4 (stocked 120 0 35 0)
  let ls : List ContentLine := [⟨1, 40, .working⟩, ⟨4, 30, .unfit⟩]
  (({ s with st := { s.st with reservations :=
      [{ owner := .bag 0, lines := ls, created := ⟨1204, 39200⟩, expiry := none }] } } : State).setBag 0
        (some { newBag .outbound .assembling ⟨1204, 39200⟩ with
          consignment := some 2, declared := some 230000, lines := ls })).setConsignment 2
    { state := .opened, outbound := [0], inbound := [], schedule := none }

/-- The same bag SEALED. -/
def sealedBag : State :=
  let ls : List ContentLine := [⟨1, 40, .working⟩, ⟨4, 30, .unfit⟩]
  (((trading.stock 1 (stocked 160 0 0 40)).stock 4 (stocked 120 0 5 30)).setBag 0
    (some { newBag .outbound .sealed ⟨1204, 39300⟩ with
      sealNo := some 700101, consignment := some 2, declared := some 230000, lines := ls })).setConsignment 2
    { state := .opened, outbound := [0], inbound := [], schedule := none }

/-- ASSEMBLE BAG: 40 pieces of slot 1 from WORKING and 30 of slot 4 from UNFIT are reserved, worth 230,000. -/
theorem test_assembleBag :
    let s : State := ((trading.stock 1 (stocked 200 0 0 0)).stock 4 (stocked 120 0 35 0)).setConsignment 2
      { state := .opened, outbound := [], inbound := [], schedule := none }
    let t := after (.assembleBag 2 [⟨4, 30, 1⟩, ⟨1, 40, 0⟩]) s
    t.st.reservations =
      [{ owner := .bag 0, lines := [⟨1, 40, .working⟩, ⟨4, 30, .unfit⟩], created := ⟨1204, 40000⟩, expiry := none }] ∧ (t.bag 0).map Bag.state = some .assembling ∧ (t.bag 0).bind Bag.declared = some 230000 ∧
    (t.slot 1).working = 200 ∧ (t.slot 4).unfit = 35 := by decide +kernel

/-- SEAL BAG: 160 and 40 of slot 1, 5 and 30 of slot 4, the reservation freed, the stock value unchanged at 1,155,000. -/
theorem test_sealBag :
    let t := after (.sealBag 0 700101) assembledBag
    (t.slot 1).working = 160 ∧ (t.slot 1).dispatch = 40 ∧ (t.slot 4).unfit = 5 ∧ (t.slot 4).dispatch = 30 ∧
    t.st.reservations = [] ∧ (t.bag 0).map Bag.state = some .sealed ∧ (t.bag 0).bind Bag.sealNo = some 700101 ∧
    t.stockValue = 1155000 ∧ assembledBag.stockValue = 1155000 := by decide +kernel

/-- UNSEAL BAG: the pieces go back where they came from, and the record is FREE. -/
theorem test_unsealBag :
    let t := after (.unsealBag 0 1) sealedBag
    (t.slot 1).working = 200 ∧ (t.slot 1).dispatch = 0 ∧ (t.slot 4).unfit = 35 ∧ (t.slot 4).dispatch = 0 ∧
    (t.slot 4).working = 120 ∧ t.bag 0 = none ∧ (t.consignment 2).outbound = [] := by decide +kernel

/-- DISCARD BAG frees the reservation and the record, and changes no count (R152). -/
theorem test_discardBag :
    let t := after (.discardBag 0) assembledBag
    t.st.reservations = [] ∧ t.bag 0 = none ∧ (t.slot 1).working = 200 ∧ (t.consignment 2).outbound = [] := by decide +kernel

/-- A tally with these figures of slot 6 alone. -/
def tallySix (good unfit suspect : Nat) : Vector Counts 12 := putNth emptyTally 6 ⟨good, unfit, suspect⟩

/-- The third example before the top-up: two held credits of slot 6, bags 15 and 22. -/
def heldCredits : State :=
  let s : State := (trading.stock 6 (stocked 16777000 0 0 0)).setTill 9 { Till.atColdStart with state := .opened }
  let x : Bag := { newBag .office .creditHeld ⟨1204, 39000⟩ with sealNo := some 15, declared := some 0, attempts := some 0 }
  ({ s with st := { s.st with held :=
      [{ bag := 15, counts := tallySix 300 0 0, blocking := [(6, .working)] },
       { bag := 22, counts := tallySix 450 0 0, blocking := [(6, .working)] }] } } : State).setBag 15 (some x) |>.setBag 22
    (some { x with sealNo := some 22 })

/-- The TOP UP of 500 pieces: the retry of bag 15 passes at 16,776,800, that of bag 22 fails. -/
theorem test_topUp_retries :
    let t := after (.topUp 9 [⟨6, 500⟩]) heldCredits
    (t.slot 6).working = 16776800 ∧ (t.slot 6).low = 16776500 ∧ (t.slot 6).high = 16777000 ∧
    t.st.held.map HeldCredit.bag = [22] ∧ (t.bag 15).map Bag.state = some .counted ∧
    (t.bag 22).map Bag.state = some .creditHeld ∧ (t.till 9).floatTotal = 50000 := by decide +kernel

/-- A credit of 300 good pieces at 16,777,000 fails at WORKING of slot 6 and is held whole, but its suspects count (R5). -/
theorem test_credit_held :
    let x : Bag := { newBag .office .counting ⟨1204, 39000⟩ with sealNo := some 15, declared := some 0, attempts := some 0 }
    let t := ((trading.stock 6 (stocked 16777000 0 0 0)).setBag 15 (some x)).credit 15 (tallySix 300 2 7)
    (t.slot 6).working = 16777000 ∧ (t.slot 6).unfit = 0 ∧ (t.slot 6).suspect = 7 ∧
    t.st.held.map HeldCredit.blocking = [[(6, .working)]] ∧ (t.bag 15).map Bag.state = some .creditHeld ∧
    told t = [.creditHeld] := by decide +kernel

/-! ### DEFINE DENOMINATIONS and the office (chapters 1 and 2) -/

/-- Values fall strictly from slot 1; the first slot at fault is named (R1, R2). -/
theorem test_defineDenominations :
    ((after (.defineDenominations [⟨1000000, 0⟩, ⟨1, 1⟩]) ready).st.denoms = [⟨1000000, .note⟩, ⟨1, .roll⟩]) ∧
    answer (.defineDenominations [⟨500, 0⟩, ⟨100, 0⟩, ⟨100, 1⟩]) ready = some (some .range, [.byte 3]) ∧
    answer (.defineDenominations [⟨1000001, 0⟩]) ready = some (some .range, [.byte 1]) ∧
    answer (.defineDenominations [⟨5, 0⟩]) trading = some (some .state, []) := by decide +kernel

/-- OPEN DAY marks the clock and zeroes the totals (R23); an office without denominations refuses it. -/
theorem test_openDay :
    (let t := after .openDay ready
     t.oc.state = .trading ∧ t.oc.openMark = some ⟨1204, 40000⟩ ∧ t.minute = 0 ∧ t.slc.shutter = .opened) ∧
    answer .openDay State.reset = some (some .state, []) := by decide +kernel

/-- CLOSE DAY with nothing outstanding closes at once; with the lock in DELAY it is refused with the figures (R24). -/
theorem test_closeDay :
    (after .closeDay trading).oc.state = .closedDay ∧ ((after .closeDay trading).oc.summary.map DaySummary.minute) = some 186 ∧
    answer .closeDay (trading.locks { trading.slc with state := .delay }) =
      some (some .state, [.count 0, .count 0, .count 0, .count 0, .count 1]) := by decide +kernel

/-- The close that waits (chapter 2.8): tills 14 and 51 DRAINING, four bags, one reservation: 2, 4, 1, 0, 0, and 7. -/
def waitingClose : State :=
  let x : Bag := { newBag .drain .queued ⟨1204, 39000⟩ with
    sealNo := some 30, till := some 14, declared := some 0, attempts := some 0, queueClass := some .priority, bypass := some 0 }
  let s : State := (trading.setTill 14 { Till.atColdStart with state := .draining, bags := [30] }).setTill 51
    { Till.atColdStart with state := .draining, bags := [33, 37] }
  let s : State := (((s.setBag 30 (some x)).setBag 33 (some { x with sealNo := some 33, till := some 51, state := .counting })).setBag
    37 (some { x with sealNo := some 37, till := some 51 })).setBag 40
      (some { x with sealNo := some 40, kind := .office, till := none, queueClass := some .ordinary })
  { s with
    br := { s.br with priority := [30, 37], ordinary := [40] }
    st := { s.st with reservations := [{ owner := .bag 45, lines := [], created := ⟨1204, 39000⟩, expiry := none }] } }

theorem test_closeDay_waits :
    answer .closeDay waitingClose =
      some (none, [.enum 3, .count 2, .count 4, .count 1, .count 0, .count 0, .word 7]) ∧
    (after .closeDay waitingClose).oc.state = .closing ∧
    answer (.openTill 22 1000 0) ((waitingClose.inOffice .closing).setTill 22 { Till.atColdStart with enabled := true }) =
      some (some .state, []) := by decide +kernel

/-- CANCEL CLOSE goes back to TRADING with the figures (R26). -/
theorem test_cancelClose :
    answer .cancelClose (waitingClose.inOffice .closing) =
      some (none, [.count 2, .count 4, .count 1, .count 0, .count 0]) ∧
    (after .cancelClose (waitingClose.inOffice .closing)).oc.state = .trading ∧
    answer .cancelClose trading = some (some .state, []) := by decide +kernel

/-- RESUME enters the remembered state; the deferred notices join the queue (R22). -/
theorem test_resume :
    let s : State := { trading.nowHeld with oc := { trading.nowHeld.oc with
      deferred := [{ kind := .shutter, time := ⟨1204, 1⟩, fields := [] }] } }
    (after .resume s).oc.state = .trading ∧ (after .resume s).oc.remembered = none ∧
    (after .resume s).oc.deferred = [] ∧ .shutter ∈ told (after .resume s) := by decide +kernel

/-- SET CLOCK makes a SCHEDULED consignment whose latest it reaches MISSED (R31). -/
theorem test_setClock :
    let s : State := ready.setConsignment 8
      { state := .scheduled, outbound := [], inbound := [0], schedule := some ⟨1, 1, ⟨1204, 50000⟩, ⟨1205, 0⟩⟩ }
    ((after (.setClock ⟨1205, 0⟩) s).consignment 8).state = .missed ∧
    ((after (.setClock ⟨1204, 86399⟩) s).consignment 8).state = .scheduled ∧
    answer (.setClock ⟨1204, 86400⟩) s = some (some .range, []) := by decide +kernel

/-- ENROL and WITHDRAW OPERATOR (R32). -/
theorem test_operators :
    answer (.enrolOperator 4 0) ready = some (none, [.count 4]) ∧
    answer (.enrolOperator 3 1) ready = some (some .duplicate, []) ∧
    answer (.enrolOperator 0 1) ready = some (some .range, []) ∧
    (after (.withdrawOperator 2) ready).oc.operators.map Operator.ident = [1, 3] ∧
    answer (.withdrawOperator 9) ready = some (some .absent, []) := by decide +kernel

/-- Profile B of chapter 2.9 before the write. -/
def exampleProfile : Profile :=
  { Profile.atColdStart with
    threshold := #v[200000, 200000, 150000, 200000], hysteresis := #v[50000, 50000, 30000, 50000]
    target := putClassSlot Profile.atColdStart.target 2 4 5, cap := putClassSlot Profile.atColdStart.cap 2 4 10 }

/-- The write of chapter 2.9 and its five clamped fields. -/
theorem test_writeProfile_clamps :
    let s : State := { ready with oc := { ready.oc with profileB := exampleProfile } }
    let t := after (.writeProfile 1 [⟨0, 2, 0, 800⟩, ⟨3, 2, 4, 14⟩, ⟨6, 0, 0, 600⟩, ⟨14, 0, 0, 20⟩]) s
    t.oc.profileB =
      { exampleProfile with
        threshold := #v[200000, 200000, 1000, 200000], hysteresis := #v[50000, 50000, 1000, 50000]
        target := putClassSlot exampleProfile.target 2 4 14, cap := putClassSlot exampleProfile.cap 2 4 14
        rateMin := 600, rateInit := 600, lockWindow := 15 } ∧ t.oc.profileA = s.oc.profileA ∧
    (clampedKeys exampleProfile t.oc.profileB
      [⟨0, 2, 0, 800⟩, ⟨3, 2, 4, 14⟩, ⟨6, 0, 0, 600⟩, ⟨14, 0, 0, 20⟩]) =
      [(0, 2, 0), (1, 2, 0), (4, 2, 4), (5, 0, 0), (14, 0, 0)] := by decide +kernel

/-- SELECT PROFILE asks for a supervisor; the active set is not written (R35, R37). -/
theorem test_selectProfile :
    (after (.selectProfile 1 1) ready).oc.active = .b ∧ answer (.selectProfile 1 3) ready = some (some .role, []) ∧
    answer (.writeProfile 0 [⟨5, 0, 0, 1⟩]) ready = some (some .active, []) := by decide +kernel

/-- ERASE RECORDS by two supervisors brings every record to its cold-start value (R42). -/
theorem test_eraseRecords :
    let t := after (.eraseRecords 1 2) ready
    t.oc = Oc.atColdStart ∧ t.st = St.atColdStart ∧ t.slc = Slc.atColdStart ∧ told t = [.restart] ∧
    answer (.eraseRecords 1 3) ready = some (some .role, []) ∧
    answer (.eraseRecords 1 2) trading = some (some .state, []) := by decide +kernel

/-! ### Tills (chapter 3.9 and 3.10) -/

/-- The profile of chapter 3.9. -/
def tillProfile : Profile :=
  { Profile.atColdStart with threshold := #v[200000, 150000, 200000, 200000], hysteresis := #v[50000, 30000, 50000, 50000], rateInit := 1000 }

/-- The office at a trading minute, with till 31 as given. -/
def atMinute (m : Nat) (x : Till) : State :=
  let s : State := (trading.under tillProfile).setTill 31 x
  { s with oc := { s.oc with clock := ⟨1204, 28800 + 60 * m⟩, minuteTold := m } }

/-- Till 31 just confirmed. -/
def till31 : Till :=
  { Till.atColdStart with enabled := true, cls := 1, state := .opened, floatTotal := 30000, rate := 16000, exposure := 30000 }

/-- SET TILL (R44). -/
theorem test_setTill :
    (after (.setTill 96 3 1) ready).till 96 = { Till.atColdStart with cls := 3, enabled := true } ∧
    answer (.setTill 96 3 1) ready = some (none, [.byte 96, .byte 3, .mark true, .enum 0]) ∧
    answer (.setTill 97 3 1) ready = some (some .range, []) ∧
    answer (.setTill 31 0 1) (atMinute 0 till31) = some (some .state, []) := by decide +kernel

/-- CONFIRM FLOAT at minute 0: r is 16,000, E is 30,000. -/
theorem test_confirmFloat_session :
    let s : State := atMinute 0 { Till.atColdStart with
      enabled := true, cls := 1, state := .composed, variance := some (-5), bags := [3]
      pending := some { prior := .reconciled, requested := 30000, composed := 30000, reduced := false } }
    let s : State := { s with st := { s.st with
      reservations := [{ owner := .till 31, lines := [], created := ⟨1204, 28800⟩, expiry := some ⟨1204, 29700⟩ }] } }
    (after (.confirmFloat 31) s).till 31 = till31 := by decide +kernel

/-- Minute 60, K = 90,000: r 18,000 and E 120,000, not listed. -/
theorem test_reportTakings_rises :
    (after (.reportTakings 31 90000) (atMinute 60 till31)).till 31 =
      { till31 with takings := 90000, kPrev := 90000, rate := 18000, tLast := 60, exposure := 120000 } := by decide +kernel

/-- Till 31 at minute 60. -/
def till31At60 : Till := { till31 with takings := 90000, kPrev := 90000, rate := 18000, tLast := 60, exposure := 120000 }

/-- The projections at minutes 75, 86, 87 and 89. -/
theorem test_projection :
    [75, 86, 87, 89].map till31At60.projection = [136875, 149250, 150375, 152625] := by decide +kernel

/-- At minute 87 the till joins the list with PICKUP_DUE; at 86 it does not. -/
theorem test_minuteEvent :
    (after .minuteEvent (atMinute 86 till31At60)).tps.due = [] ∧
    (let t := after .minuteEvent (atMinute 87 till31At60)
     t.tps.due = [{ till := 31, minute := 87, projection := 150375 }] ∧ told t = [.pickupDue] ∧ (t.till 31).onList = true) := by
  decide +kernel

/-- DECLARE PICKUP at minute 90 for 100,000: E 20,000, the till leaves the list with PICKUP_CLEAR. -/
theorem test_declarePickup :
    let s : State := atMinute 90 { till31At60 with onList := true }
    let s : State := { s with tps := { s.tps with due := [{ till := 31, minute := 87, projection := 150375 }] } }
    let t := after (.declarePickup 31 60441 100000) s
    t.till 31 = { till31At60 with pickups := 100000, exposure := 20000, bags := [0] } ∧ t.tps.due = [] ∧
    told t = [.pickupClear] ∧ (t.bag 0).map Bag.state = some .declared ∧ (t.bag 0).bind Bag.sealNo = some 60441 ∧
    (t.till 31).projection 90 = 53750 := by decide +kernel

/-- Till 31 after the pickup. -/
def till31At90 : Till := { till31At60 with pickups := 100000, exposure := 20000, bags := [52] }

/-- Minute 120, K = 130,000: r 16,167 and E 60,000; then K = 128,000 in the same minute: E 58,000 and no rate update. -/
theorem test_reportTakings_falls :
    (after (.reportTakings 31 130000) (atMinute 120 till31At90)).till 31 =
      { till31At90 with takings := 130000, kPrev := 130000, rate := 16167, tLast := 120, exposure := 60000 } ∧
    (after (.reportTakings 31 128000)
      (atMinute 120 { till31At90 with takings := 130000, kPrev := 130000, rate := 16167, tLast := 120, exposure := 60000 })).till 31 =
      { till31At90 with takings := 128000, kPrev := 130000, rate := 16167, tLast := 120, exposure := 58000 } := by decide +kernel

/-- Till 31 before its close, bag 52 counted. -/
def till31At200 : Till :=
  { till31At90 with takings := 128000, kPrev := 130000, rate := 16167, tLast := 120, exposure := 58000, collected := 100000 }

/-- CLOSE TILL at minute 200: P 234,000, E 1,000, DRAINING. -/
theorem test_closeTill :
    let s : State := (atMinute 200 till31At200).setBag 52
      (some { newBag .pickup .counted ⟨1204, 37800⟩ with sealNo := some 60441, till := some 31, declared := some 100000, attempts := some 0 })
    let t := after (.closeTill 31 60502 134000 205000) s
    t.till 31 = { till31At200 with
      takings := 205000, pickups := 234000, exposure := 1000, state := .draining, bags := [52, 0] } ∧
    (t.bag 0).map Bag.kind = some .drain ∧ s.bagsOutstanding (t.till 31) = 0 ∧ t.bagsOutstanding (t.till 31) = 1 := by decide +kernel

/-- The drain bag counted at 134,500: the variance is −500, with TILL_RECONCILED. -/
theorem test_reconcile :
    let x : Bag := { newBag .drain .counted ⟨1204, 40800⟩ with
      sealNo := some 60502, till := some 31, declared := some 134000, attempts := some 0
      result := some { tally := emptyTally, value := 134500, variance := 500, flag := true } }
    let s : State := ((atMinute 200 { till31At200 with
      takings := 205000, pickups := 234000, exposure := 1000, state := .draining, bags := [52, 70] }).setBag 52
        (some { x with kind := .pickup, sealNo := some 60441 })).setBag 70 (some x)
    let t := s.tellCounted 70
    (t.till 31).state = .reconciled ∧ (t.till 31).variance = some (-500) ∧ (t.till 31).collected = 234500 ∧
    t.oc.totals.varianceSum = -500 ∧ t.oc.totals.varianceCount = 1 ∧ told t = [.tillReconciled] := by decide +kernel

/-- Till 8 of chapter 3.10: 180,000 at minute 307, 200,000 at 308, 4,840,000 from minute 540 on. -/
theorem test_projection_stands_still :
    [307, 308, 540, 900].map ({ Till.atColdStart with exposure := 40000, rate := 320000, tLast := 300 } : Till).projection =
      [180000, 200000, 4840000, 4840000] := by decide +kernel

/-! ### Compositions (chapter 4.7) -/

/-- The slots of Table 4.3 with these availabilities. -/
def inputs (a1 a2 a3 a4 a5 : Nat) : List FloatInput :=
  [⟨1, 5000, 0, 2, a1⟩, ⟨2, 2500, 2, 4, a2⟩, ⟨3, 2000, 5, 10, a3⟩, ⟨4, 1000, 5, 10, a4⟩, ⟨5, 500, 6, 12, a5⟩]

/-- The reduced float: 0, 1, 3, 5, 4 and 14,500, then 2, 1, 3, 9, 4 and 500. -/
theorem test_compose_reduced :
    phase1 (inputs 40 1 3 50 4) 30000 = ([0, 1, 3, 5, 4], 14500) ∧ compose (inputs 40 1 3 50 4) 30000 = ([2, 1, 3, 9, 4], 500) ∧
    floatOutcome 30000 500 25000 true = .reduced ∧ floatOutcome 30000 500 25000 false = .notAllowed ∧
    floatOutcome 30000 500 29600 true = .belowMinimum := by decide +kernel

/-- The exact float with more small notes, the shortfall of class 3, and the second of two floats asked for together. -/
theorem test_compose_others :
    compose (inputs 40 1 3 50 12) 30000 = ([2, 1, 3, 8, 7], 0) ∧
    compose [⟨1, 5000, 1, 1, 1⟩, ⟨2, 2500, 0, 0, 9⟩, ⟨3, 2000, 3, 3, 3⟩, ⟨4, 1000, 0, 0, 9⟩, ⟨5, 500, 0, 0, 9⟩] 6000 =
      ([1, 0, 0, 0, 0], 1000) ∧
    compose (inputs 38 0 0 41 0) 20000 = ([2, 0, 0, 10, 0], 0) ∧ compose (inputs 40 1 3 50 4) 20000 = ([0, 1, 3, 9, 4], 500) := by
  decide +kernel

/-- The office of the example: till 5 of class 2, second 86,100. -/
def floatOffice : State :=
  let p : Profile := { Profile.atColdStart with
    floatMin := #v[0, 0, 25000, 0]
    target := putClassSlot (putClassSlot (putClassSlot (putClassSlot Profile.atColdStart.target 2 2 2) 2 3 5) 2 4 5) 2 5 6
    cap := putClassSlot (putClassSlot (putClassSlot (putClassSlot (putClassSlot Profile.atColdStart.cap 2 1 2) 2 2 4) 2 3 10) 2 4 10) 2 5 12 }
  let s : State := (((((trading.under p).stock 1 (stocked 40 0 0 0)).stock 2 (stocked 1 0 0 0)).stock 3 (stocked 3 0 0 0)).stock 4
    (stocked 50 0 0 0)).stock 5 (stocked 4 0 0 0)
  ({ s with
    oc := { s.oc with clock := ⟨1204, 86100⟩ }
    st := { s.st with denoms := s.st.denoms.take 5 } } : State).setTill 5
    { Till.atColdStart with enabled := true, cls := 2, state := .reconciled }

/-- OPEN TILL 5 for 30,000 with the mark: REDUCED at 29,500, five lines, expiry day 1205 second 600. -/
theorem test_openTill_reduced :
    let t := after (.openTill 5 30000 1) floatOffice
    t.st.reservations = [{ owner := .till 5
                           lines := [⟨1, 2, .working⟩, ⟨2, 1, .working⟩, ⟨3, 3, .working⟩, ⟨4, 9, .working⟩, ⟨5, 4, .working⟩]
                           created := ⟨1204, 86100⟩, expiry := some ⟨1205, 600⟩ }] ∧
    (t.till 5).state = .composed ∧
    (t.till 5).pending = some { prior := .reconciled, requested := 30000, composed := 29500, reduced := true } ∧
    (t.slot 1).working = 40 ∧ [1, 2, 3, 4, 5].map t.availability = [38, 0, 0, 41, 0] := by decide +kernel

/-- With the mark clear it is SHORT, reason NOT_ALLOWED, R 500. -/
theorem test_openTill_short :
    (answer (.openTill 5 30000 0) floatOffice).map (fun p => (p.1, p.2.take 1)) = some (some .short, [.enum 0]) ∧
    (after (.openTill 5 30000 0) floatOffice).st = floatOffice.st := by decide +kernel

/-! ### Bags, drops, orphans (chapter 5.10) -/

/-- A queued bag of a till. -/
def queuedBag (kind : BagKind) (n : Nat) (till : Option Nat) (c : QueueClass) : Bag :=
  { newBag kind .queued ⟨1204, 39000⟩ with
    sealNo := some n, till := till, declared := some 60000, attempts := some 0, queueClass := some c, bypass := some 0 }

/-- Bags 15 (QUEUED) and 20 (DECLARED) of the OPEN till 40, bag 12 COUNTING. -/
def dropOffice : State :=
  let s : State := trading.setTill 40 { Till.atColdStart with enabled := true, state := .opened, bags := [15, 20], pickups := 120000 }
  let s : State := ((s.setBag 15 (some (queuedBag .pickup 7010 (some 40) .ordinary))).setBag 20
    (some { newBag .pickup .declared ⟨1204, 39500⟩ with
      sealNo := some 7001, till := some 40, declared := some 60000, attempts := some 0 })).setBag 12
    (some { queuedBag .office 7012 none .ordinary with state := .counting, queueClass := none, bypass := none })
  { s with br := { s.br with ordinary := [15] } }

/-- A passage appends a pending drop; a fifth resolves the oldest as an orphan (R92). -/
theorem test_slotSense_passage :
    (after (.slotSenseChange .occupied) dropOffice).br.drops = [{ began := ⟨1204, 40000⟩, wait := 2 }] ∧
    (let s : State := { dropOffice with br := { dropOffice.br with drops := List.replicate 4 { began := ⟨1204, 39999⟩, wait := 1 } } }
     let t := after (.slotSenseChange .occupied) s
     t.br.drops.length = 4 ∧ (t.bag 240).map Bag.state = some .orphan ∧ told t = [.orphanBag]) := by decide +kernel

/-- The same office with one drop pending. -/
def dropPending : State := { dropOffice with br := { dropOffice.br with drops := [{ began := ⟨1204, 39999⟩, wait := 2 }] } }

/-- SEAL READ 7,001 queues bag 20 behind bag 15, with BAG_DROPPED. -/
theorem test_slotSealRead :
    let t := after (.slotSealRead 7001 .sound) dropPending
    (t.bag 20).map Bag.state = some .queued ∧ t.br.ordinary = [15, 20] ∧ t.br.drops = [] ∧ told t = [.bagDropped] := by
  decide +kernel

/-- A wait that ends without a read makes slot 240 an orphan without a seal, reason NO_READ, 15 slots left. -/
theorem test_readWaitExpiry :
    let t := after .readWaitExpiry dropPending
    (t.bag 240).map Bag.state = some .orphan ∧ (t.bag 240).bind Bag.sealNo = none ∧ t.br.drops = [] ∧
    t.hli.notices.map Notice.fields =
      [[.present true, .byte 240, .sealNo 0, .enum 2, .present false, .count 15]] := by decide +kernel

/-- CLOSE TILL 40: bags 15 and 20 move to PRIORITY, the till is DRAINING (R59, R100). -/
theorem test_closeTill_drains :
    let s : State := { dropOffice with br := { dropOffice.br with ordinary := [15, 20] } }.setBag 20
      (some (queuedBag .pickup 7001 (some 40) .ordinary))
    let t := after (.closeTill 40 7050 45000 0) s
    t.br.priority = [15, 20] ∧ t.br.ordinary = [] ∧ (t.bag 0).map Bag.kind = some .drain ∧
    (t.till 40).state = .draining ∧ (t.till 40).bags = [15, 20, 0] := by decide +kernel

/-- ADOPT BAG 240 as a PICKUP of the DRAINING till 40: tail of PRIORITY, the slot is FREE again. -/
theorem test_adoptBag :
    let s : State := ({ dropOffice with br := { dropOffice.br with priority := [15], ordinary := [] } }.setTill 40
      { Till.atColdStart with enabled := true, state := .draining, bags := [15, 20], pickups := 120000 }).setBag 240
      (some (newBag .unknown .orphan ⟨1204, 39999⟩))
    let t := after (.adoptBag 240 0 (some 40) 12000 7033) s
    t.br.priority = [15, 0] ∧ t.bag 240 = none ∧ (t.bag 0).map Bag.kind = some .pickup ∧
    (t.till 40).bags = [15, 20, 0] ∧ (t.till 40).pickups = 132000 ∧
    answer (.adoptBag 240 0 (some 40) 12000 7010) s = some (some .duplicate, []) := by decide +kernel

/-- DECLARE OFFICE BAG takes the lowest FREE general slot; a live seal is DUPLICATE (R91). -/
theorem test_declareOfficeBag :
    answer (.declareOfficeBag 9 0) dropOffice = some (none, [.byte 0]) ∧
    answer (.declareOfficeBag 7010 0) dropOffice = some (some .duplicate, []) ∧
    answer (.declareOfficeBag 0 0) dropOffice = some (some .range, []) := by decide +kernel

/-- WRITE OFF BAG: the DECLARED bag 20 is LOST with 60,000 passed to OC; a COUNTING bag is refused (R97). -/
theorem test_writeOffBag :
    (let t := after (.writeOffBag 20 1) dropOffice
     (t.bag 20).map Bag.state = some .lost ∧ t.oc.totals.lostBags = 1 ∧ t.oc.totals.lostValue = 60000) ∧
    answer (.writeOffBag 12 1) dropOffice = some (some .state, []) ∧
    answer (.writeOffBag 20 3) dropOffice = some (some .role, []) := by decide +kernel

/-- RECOUNT BAG returns a COUNT_HELD bag to the head of its class (R98). -/
theorem test_recountBag :
    let s : State := dropOffice.setBag 20 (some { queuedBag .pickup 7001 (some 40) .ordinary with
      state := .countHeld, attempts := some 2, queueClass := none, bypass := none })
    let t := after (.recountBag 20) s
    t.br.ordinary = [20, 15] ∧ (t.bag 20).bind Bag.attempts = some 0 ∧
    answer (.recountBag 20) s = some (none, [.count 1]) ∧ answer (.recountBag 15) s = some (some .state, []) := by decide +kernel

/-! ### Stations (chapters 6.14 and 6.15) -/

/-- The pooled count of bag 50 under the policy SUSPECT with a tolerance of 1,000, at stations 2 and 3. -/
def pooled (x2 x3 : Station) (t2 t3 : Vector Counts 12) : State :=
  let s : State := (trading.setStation 2 x2).setStation 3 x3
  ({ s with csc := { s.csc with jobs :=
      [{ bag := 50, parts := [⟨2, t2, none⟩, ⟨3, t3, none⟩], assigned := ⟨1204, 39990⟩, tolerance := 1000, policy := .suspect }] } } :
    State).setBag 50 (some { newBag .office .counting ⟨1204, 39990⟩ with
      sealNo := some 880112, declared := some 800000, attempts := some 0 })

/-- Station 2 or 3 of the pool. -/
def pooledStation (first : Bool) (x : StationState) (flow : Flow) (intake : List StationRecord) (complete : Bool) : Station :=
  { enabled := true, state := x, flow := flow, intake := intake
    job := some { bag := 50, portion := if first then .first else .second, partner := some (if first then 3 else 2)
                  complete := complete, resumeAssigned := false }
    silence := if x = .counting ∧ !complete then some 30 else none }

/-- A tally with some figures. -/
def tallyOf (xs : List (Nat × Counts)) : Vector Counts 12 := xs.foldl (fun t p => putNth t p.1 p.2) emptyTally

/-- SEAL READ 880,112 at an ASSIGNED station: COUNTING; another seal aborts the job with SEQUENCE. -/
theorem test_stationSealRead :
    let s : State := pooled (pooledStation true .assigned .go [] false) (pooledStation false .assigned .go [] false) emptyTally emptyTally
    ((after (.stationSealRead .two 880112 .sound) s).station 2).state = .counting ∧
    (let t := after (.stationSealRead .two 880113 .sound) s
     (t.station 2).state = .held .sequence ∧ (t.bag 50).bind Bag.attempts = some 1 ∧
     (SentRecord.toStation 3 .abort) ∈ t.sent) := by decide +kernel

/-- STRAP slot 1, 100 GOOD; pieces above 100 abort the job (R119, R121). -/
theorem test_strap :
    let s : State := pooled (pooledStation true .counting .go [] false) (pooledStation false .counting .go [] false) emptyTally emptyTally
    ((after (.strap .two 1 100 0 .sound) s).stationJob 2).map (fun j => (j.part 2).tally) = some (tallyOf [(1, ⟨100, 0, 0⟩)]) ∧
    ((after (.strap .two 1 101 0 .sound) s).station 2).state = .held .sequence ∧
    (after (.strap .two 1 1 2 .sound) s) = s.setReceiver (.station .two) Receiver.hunt := by decide +kernel

/-- SUSPECT slot 1 at station 3: HELD SUSPECT there, HELD POOL at station 2, PAUSE to both. -/
theorem test_suspect_halts :
    let s : State := pooled (pooledStation true .counting .go [] false) (pooledStation false .counting .go [] false)
      (tallyOf [(1, ⟨100, 0, 0⟩)]) (tallyOf [(1, ⟨30, 0, 0⟩)])
    let t := after (.suspect .three 1 .sound) s
    (t.station 3).state = .held .suspect ∧ (t.station 2).state = .held .pool ∧
    t.sent = [.toStation 3 .pause, .toStation 2 .pause] ∧
    (t.stationJob 3).map (fun j => (j.part 3).tally) = some (tallyOf [(1, ⟨30, 0, 1⟩)]) := by decide +kernel

/-- CLEAR STATION 3: the queued STRAP of station 2 is applied, both are COUNTING, GO to both; CLEAR STATION 2 is refused. -/
theorem test_clearStation :
    let s : State := pooled (pooledStation true (.held .pool) .paused [.strap 3 50 true] false)
      (pooledStation false (.held .suspect) .paused [] false) (tallyOf [(1, ⟨100, 0, 0⟩)]) (tallyOf [(1, ⟨30, 0, 1⟩)])
    let t := after (.clearStation 3) s
    (t.station 2).state = .counting ∧ (t.station 3).state = .counting ∧
    t.sent = [.toStation 2 .go, .toStation 3 .go] ∧
    (t.stationJob 2).map (fun j => (j.part 2).tally) = some (tallyOf [(1, ⟨100, 0, 0⟩), (3, ⟨50, 0, 0⟩)]) ∧
    answer (.clearStation 2) s = some (some .state, []) := by decide +kernel

/-- The summed tally of the example. -/
def firstTally : Vector Counts 12 := tallyOf [(1, ⟨100, 0, 0⟩), (3, ⟨50, 0, 0⟩), (4, ⟨0, 19, 0⟩)]

/-- What the totals of END leave, through the law of a sound frame (Laws/Lines.lean). -/
theorem after_totals (l : StationLine) (t : Vector Counts 12) (s : State) (h : s.Hears (.station l))
    (ht : t.toList.all Counts.fits = true) :
    after (.endTotals l t .sound) s = (s.settle (s.stationArrival l.num (.totals t))).startTx := by
  have e := exec_stationCommand l (.totals t) s h ht
  simp only [Leaves, stationCommand] at e
  simp only [after, e]

/-- The pool after station 2's END. -/
def lastEnd : State :=
  pooled (pooledStation true .counting .go [] true) (pooledStation false .counting .go [] false)
    firstTally (tallyOf [(1, ⟨36, 0, 1⟩)])

/-- END of station 2 completes its portion; END of station 3 completes the job: 799,000, −1,000, no flag. -/
theorem test_endTotals (t : State) (ht : t = after (.endTotals .three (tallyOf [(1, ⟨36, 0, 1⟩)]) .sound) lastEnd) :
    (t.bag 50).bind Bag.result = some
      { tally := tallyOf [(1, ⟨136, 0, 1⟩), (3, ⟨50, 0, 0⟩), (4, ⟨0, 19, 0⟩)], value := 799000, variance := -1000, flag := false } ∧
    (t.bag 50).map Bag.state = some .counted ∧ (t.station 2).state = .idle ∧ (t.station 3).state = .idle ∧
    told t = [.countDone, .suspectFound] ∧ (t.slot 1).working = 136 ∧ (t.slot 3).working = 50 ∧ (t.slot 4).unfit = 19 ∧
    (t.slot 1).suspect = 1 ∧ t.oc.totals.counted = 799000 ∧ t.oc.totals.unfit = 19000 := by
  rw [ht, after_totals _ _ _ (by decide +kernel) (by decide +kernel)]
  decide +kernel

/-- The pool before an END. -/
def firstEnd : State :=
  pooled (pooledStation true .counting .go [] false) (pooledStation false .counting .go [] false) firstTally emptyTally

/-- END of station 2 first: the portion is complete and the timer stops; other totals abort with MISMATCH. -/
theorem test_endTotals_first (t u : State) (ht : t = after (.endTotals .two firstTally .sound) firstEnd)
    (hu : u = after (.endTotals .two emptyTally .sound) firstEnd) :
    ((t.station 2).job.map StationJob.complete = some true ∧ (t.station 2).silence = none ∧
      (t.bag 50).map Bag.state = some .counting) ∧
    (u.bag 50).map Bag.state = some .counting ∧ (u.bag 50).bind Bag.attempts = some 1 := by
  rw [ht, hu, after_totals _ _ _ (by decide +kernel) (by decide +kernel), after_totals _ _ _ (by decide +kernel) (by decide +kernel)]
  decide +kernel

/-- 30 seconds of silence at station 3 after station 2's END: IDLE and OFFLINE LINK; bag 50 at the head of ORDINARY.
The pass of the same operation gives it to station 2 again. -/
theorem test_linkSilence :
    let s : State := pooled (pooledStation true .counting .go [] true) (pooledStation false .counting .go [] false) firstTally emptyTally
    let t := (after (.linkSilenceExpiry .three) (s.inOffice .closedDay))
    (t.station 2).state = .idle ∧ (t.station 3).state = .offline .link ∧ t.br.ordinary = [50] ∧
    (t.bag 50).bind Bag.attempts = some 1 := by decide +kernel

/-- READY at an OFFLINE station: IDLE with a STATION notice; then a queued bag is assigned to it (R109, R111, R114). -/
theorem test_stationReady :
    let s : State := { trading.setBag 60 (some (queuedBag .pickup 412007 (some 9) .ordinary)) with
      br := { (trading.setBag 60 (some (queuedBag .pickup 412007 (some 9) .ordinary))).br with ordinary := [60] } }
    let t := after (.stationReady .one .sound) s
    (t.station 1).state = .assigned ∧ (t.bag 60).map Bag.state = some .counting ∧ t.sent = [.toStation 1 (.assign 412007 .whole)] ∧
    t.br.ordinary = [] ∧ (t.station 1).silence = some 30 ∧ told t = [.station] := by decide +kernel

/-- DOUBT and DOUBT CLEARED: the piece goes to good or to suspect of the doubted slot (R120). -/
theorem test_doubt :
    let s : State := pooled (pooledStation true .counting .go [] false) (pooledStation false .counting .go [] false) emptyTally emptyTally
    let u := after (.doubt .two 5 .sound) s
    (u.stationJob 2).map (fun j => (j.part 2).doubt) = some (some 5) ∧
    ((after (.doubtCleared .two 0 .sound) u).stationJob 2).map (fun j => (j.part 2).tally) = some (tallyOf [(5, ⟨1, 0, 0⟩)]) ∧
    ((after (.doubtCleared .two 1 .sound) u).stationJob 2).map (fun j => (j.part 2).tally) = some (tallyOf [(5, ⟨0, 0, 1⟩)]) ∧
    ((after (.doubtCleared .two 1 .sound) u).station 2).state = .held .suspect := by decide +kernel

/-- JAM holds the station and its partner (R122, R123). -/
theorem test_jam :
    let s : State := pooled (pooledStation true .counting .go [] false) (pooledStation false .assigned .go [] false) emptyTally emptyTally
    let t := after (.jam .two .sound) s
    (t.station 2).state = .held .jam ∧ (t.station 3).state = .held .pool ∧
      (t.station 3).job.map StationJob.resumeAssigned = some true := by decide +kernel

/-- ENABLE and DISABLE STATION (R125, R126). -/
theorem test_enable_disable :
    answer (.disableStation 4) trading = some (none, [.enum 0]) ∧
    ((after (.disableStation 4) trading).station 4).state = .offline .disabled ∧
    ((after (.enableStation 4) (after (.disableStation 4) trading)).station 4).state = .offline .start ∧
    answer (.enableStation 5) trading = some (some .range, []) := by decide +kernel

/-! ### The lock (chapters 7.7 and 7.8) -/

/-- An office opening of two windows with the captured lengths of the example. -/
def twoWindows : Opening :=
  { source := .office, operators := some (1, 2), windows := 2, delayLen := 10, windowLen := 5, mark := none }

/-- The lock in a state of the example. -/
def lockIn (x : LockState) (o : Option Opening) (door : DoorSense) (bolt : BoltSense) (timer : Option Nat) : State :=
  let s : State := trading.locks { trading.slc with
    state := x, opening := o, door := door, bolt := bolt, timer := timer, boltDrive := x.drive }
  { s with pins := { s.pins with door := door, bolt := bolt } }

/-- REQUEST OPENING with windows 2: DELAY of 600 seconds, THROW; one operator alone fails the check. -/
theorem test_requestOpening :
    (after (.requestOpening 1 2 2) trading).slc =
      { trading.slc with state := .delay, opening := some twoWindows, timer := some 600, boltDrive := .throw } ∧
    answer (.requestOpening 3 4 2) trading = some (some .role, []) ∧ answer (.requestOpening 1 2 9) trading = some (some .range, []) := by
  decide +kernel

/-- The delay expires: WINDOW for 300 seconds, RETRACT. -/
theorem test_delayExpiry :
    let t := after .delayExpiry (lockIn .delay (some twoWindows) .shut .thrown (some 0))
    t.slc.state = .window ∧ t.slc.timer = some 300 ∧ t.slc.boltDrive = .retract ∧ told t = [.lockState] := by decide +kernel

/-- The door is opened in WINDOW: OPEN, no timer, RETRACT; it is shut: SECURING for 10 seconds, THROW. -/
theorem test_doorSense :
    (let t := after (.doorSenseChange .opened) (lockIn .window (some twoWindows) .shut .retracted (some 250))
     t.slc.state = .opened ∧ t.slc.timer = none ∧ t.slc.boltDrive = .retract) ∧
    (let t := after (.doorSenseChange .shut) (lockIn .opened (some twoWindows) .opened .retracted none)
     t.slc.state = .securing ∧ t.slc.timer = some 10 ∧ t.slc.boltDrive = .throw) := by decide +kernel

/-- Bolt sense THROWN with two windows left: DELAY again with 1 window and 600 seconds. -/
theorem test_boltSense :
    let t := after (.boltSenseChange .thrown) (lockIn .securing (some twoWindows) .shut .retracted (some 7))
    t.slc.state = .delay ∧ t.slc.timer = some 600 ∧ t.slc.opening = some { twoWindows with windows := 1 } ∧ t.slc.boltDrive = .throw := by
  decide +kernel

/-- The window expires without a door: SECURING. -/
theorem test_windowExpiry :
    let t := after .windowExpiry
      (lockIn .window (some { twoWindows with windows := 1, mark := some .told }) .shut .retracted (some 0))
    t.slc.state = .securing ∧ t.slc.timer = some 10 ∧ t.slc.opening = some { twoWindows with windows := 1 } := by decide +kernel

/-- Ten seconds without a bolt: ALARM with BOLT in the latch, the output asserted (R141). -/
theorem test_boltConfirmationExpiry :
    let t := after .boltConfirmationExpiry (lockIn .securing (some twoWindows) .shut .retracted (some 0))
    t.slc.state = .alarm ∧ t.slc.boltFault = true ∧ t.slc.alarm = .asserted ∧ t.slc.opening = none ∧ told t = [.boltFault] := by
  decide +kernel

/-- A door forced in DELAY: ALARM, FORCED; the opening is gone, and nothing expires afterwards. -/
theorem test_forcedDoor :
    let t := after (.doorSenseChange .opened) (lockIn .delay (some twoWindows) .shut .thrown (some 200))
    t.slc.state = .alarm ∧ t.slc.forced = true ∧ t.slc.alarm = .asserted ∧ t.slc.boltDrive = .throw ∧ t.slc.opening = none ∧
    t.slc.timer = none ∧ told t = [.forcedDoor] := by decide +kernel

/-- CLEAR ALARM: refused while the door is OPEN; LOCKED with the latch empty when it is SHUT and the bolt THROWN. -/
theorem test_clearAlarm :
    let s : State := lockIn .alarm none .opened .thrown none
    let s : State := s.locks { s.slc with forced := true, alarm := .asserted }
    answer (.clearAlarm 1) s = some (some .state, [.enum 1, .enum 0]) ∧
    (let t := after (.clearAlarm 1) (s.locks { s.slc with door := .shut })
     t.slc.state = .locked ∧ t.slc.forced = false ∧ t.slc.alarm = .released ∧ told t = [.lockState]) ∧
    answer (.clearAlarm 3) s = some (some .role, []) := by decide +kernel

/-- CANCEL OPENING in a DELAY that a courier waits in: COLLECTION with 1 window; without one, LOCKED (R144). -/
theorem test_cancelOpening :
    (after .cancelOpening (lockIn .delay (some { twoWindows with windows := 1, mark := some .waiting }) .shut .thrown (some 300))).slc.opening =
      some { twoWindows with source := .collection, operators := none, windows := 1, mark := some .waiting } ∧
    (after .cancelOpening (lockIn .delay (some twoWindows) .shut .thrown (some 300))).slc.state = .locked ∧
    answer .cancelOpening trading = some (some .state, []) := by decide +kernel

/-! ### Consignments and the courier (chapters 8.8 and 8.9) -/

/-- An outbound bag of consignment 3. -/
def outBag (st : BagState) (n : Nat) (l : ContentLine) (v : Nat) : Bag :=
  { newBag .outbound st ⟨1210, 45000⟩ with sealNo := some n, consignment := some 3, declared := some v, lines := [l] }

/-- An inbound bag of consignment 3. -/
def inBag (st : BagState) (n v : Nat) : Bag :=
  { newBag .inbound st ⟨1210, 45000⟩ with sealNo := some n, consignment := some 3, declared := some v, attempts := some 0 }

/-- Consignment 3 of the example at a second of day 1,210, its four bags in these states. -/
def collection (sec : Nat) (c : ConsignmentState) (b81 b82 b83 b84 : BagState) : State :=
  let s : State := ((trading.stock 1 (stocked 160 0 0 40)).stock 4 (stocked 0 0 5 30)).setConsignment 3
    { state := c, outbound := [81, 82], inbound := [83, 84], schedule := some ⟨417, 22, ⟨1210, 50400⟩, ⟨1210, 54000⟩⟩ }
  let s : State := (((s.setBag 81 (some (outBag b81 700101 ⟨1, 40, .working⟩ 200000))).setBag 82
    (some (outBag b82 700102 ⟨4, 30, .unfit⟩ 30000))).setBag 83 (some (inBag b83 900001 500000))).setBag 84
      (some (inBag b84 900002 250000))
  { s with oc := { s.oc with clock := ⟨1210, sec⟩ } }

/-- The handover of the example in SCANNING. -/
def scanningRecord (foreign : Nat) (received : List Nat) : Handover :=
  { stage := .scanning, consignment := 3, courier := 417, presented := ⟨1210, 51000⟩, foreign := foreign
    received := received, overall := 900, step := some 60 }

/-- NEW CONSIGNMENT takes the lowest FREE record (R149). -/
theorem test_newConsignment :
    answer .newConsignment trading = some (none, [.byte 1]) ∧ ((after .newConsignment trading).consignment 1).state = .opened ∧
    answer .newConsignment ready = some (some .state, []) := by decide +kernel

/-- EXPECT DELIVERY writes an EXPECTED bag of the consignment (R155). -/
theorem test_expectDelivery :
    let s : State := trading.setConsignment 3 { state := .opened, outbound := [], inbound := [], schedule := none }
    let t := after (.expectDelivery 3 900001 500000) s
    t.bag 0 = some { inBag .expected 900001 500000 with changed := ⟨1204, 40000⟩ } ∧ (t.consignment 3).inbound = [0] ∧
    answer (.expectDelivery 4 900001 500000) s = some (some .absent, []) := by decide +kernel

/-- SCHEDULE COLLECTION (R157): SCHEDULED; a window that ends at or before the clock is RANGE. -/
theorem test_scheduleCollection :
    let s : State := collection 45000 .opened .sealed .sealed .expected .expected
    ((after (.scheduleCollection 3 417 22 ⟨1210, 50400⟩ ⟨1210, 54000⟩) s).consignment 3).state = .scheduled ∧
    answer (.scheduleCollection 3 417 22 ⟨1210, 50400⟩ ⟨1210, 50400⟩) s = some (some .range, []) ∧
    answer (.scheduleCollection 3 417 22 ⟨1210, 40000⟩ ⟨1210, 45000⟩) s = some (some .range, []) := by decide +kernel

/-- ATTACH BAG (R154): an unattached SEALED bag joins the outbound list. -/
theorem test_attachBag :
    let s : State := (collection 45000 .opened .sealed .sealed .expected .expected).setBag 85
      (some { outBag .sealed 700103 ⟨1, 1, .working⟩ 5000 with consignment := none })
    ((after (.attachBag 85 3) s).consignment 3).outbound = [81, 82, 85] ∧ answer (.attachBag 81 3) s = some (some .state, []) := by
  decide +kernel

/-- CANCEL CONSIGNMENT (R159): the outbound bags are unattached, the EXPECTED ones LOST. -/
theorem test_cancelConsignment :
    let t := after (.cancelConsignment 3) (collection 45000 .scheduled .sealed .sealed .expected .expected)
    (t.consignment 3).state = .cancelled ∧ (t.bag 81).bind Bag.consignment = none ∧ (t.bag 83).map Bag.state = some .lost ∧
    t.oc.totals.lostValue = 750000 := by decide +kernel

/-- The latest is reached: MISSED with COLLECTION_MISSED (R158). -/
theorem test_latestReached :
    let t := after (.latestReached 3) (collection 54000 .scheduled .sealed .sealed .expected .expected)
    (t.consignment 3).state = .missed ∧ told t = [.collectionMissed] := by decide +kernel

/-- PRESENT 417, 22 at 51,000: VERIFIED, the lock in DELAY for 300 seconds, ACCEPT and WAIT SAFE. -/
theorem test_present :
    let s : State := collection 51000 .scheduled .sealed .sealed .expected .expected
    let t := after (.present 417 22 .sound) s
    t.chu.handover.map Handover.stage = some .verified ∧ t.slc.state = .delay ∧ t.slc.timer = some 300 ∧
    t.sent = [.toDock (.acceptPresent 3 2 2), .toDock .waitSafe] ∧ (t.consignment 3).state = .inHandover ∧
    (after (.present 417 23 .sound) s).sent = [.toDock (.refuse .absent)] := by decide +kernel

/-- The scans of the example: ACCEPT 81 OUT with 1 to scan, ACCEPT 83 IN, DUPLICATE, and a foreign seal. -/
theorem test_scan :
    let s : State := { collection 51330 .inHandover .sealed .sealed .expected .expected with
      chu := { (collection 51330 .inHandover .sealed .sealed .expected .expected).chu with handover := some (scanningRecord 0 []) } }
    (after (.scan 700101 .sound) s).sent = [.toDock (.acceptScan 81 false 1)] ∧
    (after (.scan 900001 .sound) s).sent = [.toDock (.acceptScan 83 true 2)] ∧
    (after (.scan 700101 .sound) (after (.scan 700101 .sound) s)).sent =
      [.toDock (.acceptScan 81 false 1), .toDock (.refuse .duplicate)] ∧
    (after (.scan 555555 .sound) s).chu.handover = some { scanningRecord 1 [] with step := some 120 } := by decide +kernel

/-- The third foreign seal abandons the handover (R164, R166). -/
theorem test_scan_foreign :
    let s : State := { collection 51360 .inHandover .scanned .sealed .received .expected with
      chu := { (collection 51360 .inHandover .scanned .sealed .received .expected).chu with handover := some (scanningRecord 2 [83]) } }
    let t := after (.scan 555555 .sound) s
    t.chu.handover = none ∧ t.sent = [.toDock (.refuse .absent), .toDock (.done (some .foreign))] ∧
    (t.bag 81).map Bag.state = some .sealed ∧ (t.bag 83).map Bag.state = some .expected ∧ (t.consignment 3).state = .scheduled := by
  decide +kernel

/-- CONFIRM with a bag left is INCOMPLETE; with none left the handover completes, 230,000 out, 500,000 in. -/
theorem test_confirm :
    let s : State := { collection 51400 .inHandover .scanned .scanned .received .expected with
      chu := { (collection 51400 .inHandover .scanned .scanned .received .expected).chu with handover := some (scanningRecord 1 [83]) } }
    let t := after (.confirm .sound) s
    (t.slot 1).dispatch = 0 ∧ (t.slot 4).dispatch = 0 ∧ t.oc.totals.handedOver = 230000 ∧ t.oc.totals.received = 500000 ∧
    t.br.ordinary = [83] ∧ (t.bag 84).map Bag.consignment = some none ∧ (t.consignment 3).state = .done ∧
    (t.consignment 3).inbound = [83] ∧ told t = [.handoverDone, .shortDelivery] ∧ t.sent = [.toDock (.done none)] ∧
    (after (.confirm .sound) (s.setBag 82 (some (outBag .sealed 700102 ⟨4, 30, .unfit⟩ 30000)))).sent = [.toDock (.refuse .incomplete)] := by
  decide +kernel

/-- ABANDON while the collection is in DELAY: the lock is LOCKED again, the bags stay SEALED, the consignment SCHEDULED. -/
theorem test_abandon :
    let s : State := collection 51200 .inHandover .sealed .sealed .expected .expected
    let s : State := { s with
      chu := { s.chu with handover := some { scanningRecord 0 [] with stage := .verified, step := none } }
      slc := { s.slc with
        state := .delay, timer := some 100
        opening := some { source := .collection, operators := none, windows := 1, delayLen := 5, windowLen := 5, mark := some .waiting } } }
    let t := after (.abandon .sound) s
    t.chu.handover = none ∧ t.slc.state = .locked ∧ t.slc.opening = none ∧ (t.consignment 3).state = .scheduled ∧
    t.sent = [.toDock (.done (some .courier))] := by decide +kernel

/-- The timers of the handover (chapter 8.9): before the latest SCHEDULED, from it on MISSED with COLLECTION_MISSED. -/
theorem test_handover_timers :
    let at_ (sec : Nat) : State := { collection sec .inHandover .scanned .sealed .expected .expected with
      chu := { (collection sec .inHandover .scanned .sealed .expected .expected).chu with handover := some (scanningRecord 0 []) } }
    ((after .stepTimerExpiry (at_ 53999)).consignment 3).state = .scheduled ∧
    ((after .overallTimerExpiry (at_ 54000)).consignment 3).state = .missed ∧
    told (after .overallTimerExpiry (at_ 54000)) = [.handoverAbandoned, .collectionMissed] ∧
    ((after .stepTimerExpiry (at_ 53999)).bag 81).map Bag.state = some .sealed := by decide +kernel

/-- A dock frame that fails its check is REFUSE FRAME; a sound one of no handset type is REFUSE UNKNOWN (R160); a gap inside a
frame is REFUSE FRAME (R180). -/
theorem test_dockFrame :
    (after (.dockFrameCheckFailed 33 [1] .sound) trading).sent = [.toDock (.refuse .frame)] ∧
    (after (.dockFrameCheckFailed 49 [1] .sound) trading).sent = [.toDock (.refuse .unknown)] ∧
    (after (.partnerByteGapTimeout .dock) trading).sent = [] ∧
    (after (.partnerByteGapTimeout .dock) (trading.setReceiver .dock { bytes := [0x7E], hunting := false })).sent =
      [.toDock (.refuse .frame)] := by decide +kernel

/-! ### The host line (chapter 9.6), the mask, the power -/

/-- SET NOTICES takes bits 0 to 20; bit 21 is RANGE (R176). -/
theorem test_setNotices :
    (after (.setNotices 2097151) trading).hli.mask = 2097151#24 ∧ answer (.setNotices 2097152) trading = some (some .range, []) := by
  decide +kernel

/-- A fifth request finds four places held: BUSY (chapter 9.6). -/
theorem test_buffer_full :
    let s : State := { trading with hli := { trading.hli with
      tx := .reply { tag := 40, kind := 49, status := none, detail := [], holdsPlace := true }
      buffer := List.replicate 4 { tag := 40, request := .readStock, taken := true } } }
    (after (.hostFrame (requestFrame 44 .readStock)) s).hli.replies =
      [{ tag := 44, kind := 41, status := some .busy, detail := [], holdsPlace := false }] := by decide +kernel

/-- The 33rd notice is dropped and the notices-lost flag set; READ OFFICE clears it (R175). -/
theorem test_notices_lost :
    let s : State := { trading with hli := { trading.hli with notices := List.replicate 32 default } }
    (s.place .pickupClear []).hli.lost = true ∧ (s.place .pickupClear []).hli.notices.length = 32 ∧
    (after .readOffice (s.place .pickupClear [])).hli.lost = false := by decide +kernel

/-- A byte gap inside a frame is answered FRAME; the end of a reply gives its place up (R169, R171). -/
theorem test_line_events :
    (after .hostByteGapTimeout { trading with hli := { trading.hli with rx := [0x7E, 0] } }).hli.tx =
      .reply { tag := 0, kind := 0, status := some .frame, detail := [], holdsPlace := false } ∧
    (after .replySent { trading with hli := { trading.hli with
      tx := .reply { tag := 1, kind := 41, status := none, detail := [], holdsPlace := true }
      buffer := [{ tag := 1, request := .readStock, taken := true }] } }).hli.buffer = [] ∧
    (after .noticeSent { trading with hli := { trading.hli with tx := .notice default true, notices := [default] } }).hli.notices = [] := by
  decide +kernel

/-- A break empties the line; its end lets the receiver hunt (R177). -/
theorem test_break :
    let s : State := { trading with hli := { trading.hli with rx := [0x7E], notices := [default], lost := true } }
    (after .lineBreak s).hli = { trading.hli with spacing := true } ∧
    (after .lineReturnsToMark (after .lineBreak s)).hli = trading.hli := by decide +kernel

/-- A controlled stop: HELD with TRADING remembered, the clean-stop mark, every drive low (R38). -/
theorem test_controlledStop :
    let t := after .controlledStop (lockIn .window (some twoWindows) .shut .retracted (some 9))
    t.phase = .stopped ∧ t.clean = true ∧ t.oc.state = .held ∧ t.oc.remembered = some .trading ∧ t.boltLine = .throw ∧
    t.shutterLine = .closed ∧ t.pins.powerFail = true := by decide +kernel

/-- The inputs and the supply. -/
theorem test_phases :
    let s := after .controlledStop trading
    (after .powerFailDeassert s).phase = .starting ∧ (after .resetAssert trading).phase = .inReset ∧
    (after .resetRelease (after .resetAssert trading)).phase = .starting ∧ (after .powerLoss trading).phase = .off ∧
    (after .powerUp (after .powerLoss trading)).phase = .starting ∧ (after .resetAssert (after .powerLoss trading)).phase = .off := by
  decide +kernel

/-- A warm restart after a loss of the supply is unclean: HELD, RESTART with kind 2, SECURING by the senses (Table 7.3). -/
theorem test_warmRestart :
    let s : State := { lockIn .window (some twoWindows) .shut .retracted (some 9) with phase := .starting }
    let t := after .warmRestart s
    t.phase = .running ∧ t.oc.state = .held ∧ t.oc.lastStart = .warmUnclean ∧ t.slc.state = .securing ∧ t.slc.timer = some 10 ∧
    t.hli.tx = .notice { kind := .restart, time := ⟨1204, 40000⟩, fields := [.enum 2] } true := by decide +kernel

/-- A start without the validity mark is cold; with it the command does nothing (R39, R40). -/
theorem test_coldStart :
    (after .coldStart { ready with phase := .starting, valid := false }).oc = Oc.atColdStart ∧
    after .coldStart { ready with phase := .starting } = { ready with phase := .starting } := by decide +kernel

/-! ### Reads -/

/-- READ STOCK: 6 slots, then the four areas, the stock value and the held credits (R18). -/
theorem test_readStock :
    (answer .readStock (trading.stock 1 (stocked 3 2 1 0))).map (fun p => (p.1, p.2.take 1, p.2.drop 73)) =
      some (none, [.count 6], [.wide 15000, .wide 10000, .wide 5000, .wide 0, .wide 30000, .count 0]) := by decide +kernel

/-- Reads past their range (R18, R35, R64, R65, R102, R103, R168). -/
theorem test_reads_out_of_range :
    [Instr.readReservations 16, .readProfile 2, .readTill 0, .readTills 97, .readPickupList 96, .readCountQueue 240,
     .readSeal 0, .readConsignment 9].all (fun i => answer i trading = some (some .range, [])) = true := by decide +kernel

/-- A FREE bag record and a FREE consignment give the state alone; no open handover is IDLE. -/
theorem test_reads_of_free_records :
    answer (.readBag 255) trading = some (none, [.enum 0]) ∧ answer (.readConsignment 8) trading = some (none, [.enum 0]) ∧
    answer .readHandover trading = some (none, [.enum 0]) ∧ answer .readDaySummary trading = some (none, [.present false]) := by
  decide +kernel

/-- Every read is taken while HELD, and leaves every record (R21). -/
theorem test_reads_while_held :
    [Instr.readStock, .readReservations 0, .readOffice, .readDaySummary, .readOperators, .readProfile 0, .readTill 1,
     .readTills 1, .readPickupList 0, .readCountQueue 0, .readBag 0, .readSeal 1, .readOrphans, .readStations, .readLock,
     .readConsignment 1, .readHandover, .readUnattached].all (fun i =>
       decide ((answer i trading.nowHeld).map Prod.fst = some none) &&
       decide ({ after i trading.nowHeld with hli := trading.hli } = trading.nowHeld)) = true := by decide +kernel

/-! ### Steps -/

/-- The state that a step leaves. -/
def stepped (s : State) : State :=
  match step s with
  | .next t => t
  | _ => s

/-- A step takes the front of the queue; an idle part takes what is due, else a second passes. -/
theorem test_step :
    (stepped { ready with pending := [.openDay, .readStock] }).oc.state = .trading ∧
    (stepped { ready with pending := [.openDay, .readStock] }).pending = [.readStock] ∧
    (stepped trading).oc.clock = ⟨1204, 40001⟩ ∧
    (stepped { trading with oc := { trading.oc with minuteTold := 185 } }).oc.minuteTold = 186 := by decide +kernel

/-! ### Witnesses: concrete states and operands that meet the hypotheses of each statement, clause by clause -/

/-- What holds of the default and of every entry holds of every number. -/
theorem nth_all {α : Type} {n : Nat} (P : α → Prop) (d : α) (v : Vector α n) (h0 : P d) (h : ∀ x ∈ v.toList, P x) (k : Nat) :
    P (nth d v k) := by
  unfold nth
  split
  · exact h0
  · cases hx : v[k - 1]? with
    | none => exact h0
    | some x => exact h x (by simpa using Vector.mem_of_getElem? hx)

/-- What holds of no bag and of every record of the register holds of every slot. -/
theorem bag_all (P : Option Bag → Prop) (s : State) (h0 : P none) (h : ∀ x ∈ s.br.bags.toList, P x) (b : Nat) : P (s.bag b) := by
  unfold State.bag
  cases hx : s.br.bags[b]? with
  | none => exact h0
  | some x => exact h x (by simpa using Vector.mem_of_getElem? hx)

/-- A slot past the register holds no bag. -/
theorem bag_outside (s : State) (b : Nat) (h : 256 ≤ b) : s.bag b = none := by
  unfold State.bag
  rw [Vector.getElem?_eq_none (by omega)]
  rfl

/-- A number past a table reads its default. -/
theorem nth_past {α : Type} {n : Nat} (d : α) (v : Vector α n) (k : Nat) (h : n < k) : nth d v k = d := by
  unfold nth
  rw [Vector.getElem?_eq_none (by omega)]
  split <;> rfl

/-- A step that answers a next state. -/
def goesOn (s : State) : Bool :=
  match step s with
  | .next _ => true
  | _ => false

theorem step_of_goesOn {s : State} (h : goesOn s = true) : ∃ t, step s = .next t := by
  unfold goesOn at h
  split at h
  · exact ⟨_, ‹_›⟩
  · cases h

theorem test_witness_StepTakesTheFront :
    ({ trading with pending := [.openDay, .readStock] } : State).pending = .openDay :: [.readStock] := by decide +kernel

/-- A minute event due; a minute event and the end of a delay due. -/
theorem test_witness_IdleStepTakesWhatIsDue :
    trading.pending = [] ∧ trading.due = [] ∧
    ({ trading with oc := { trading.oc with minuteTold := 185 } } : State).due = [.minuteEvent] ∧
    (let s : State := lockIn .delay (some twoWindows) .shut .thrown (some 0)
     ({ s with oc := { s.oc with minuteTold := 185 } } : State).due = .minuteEvent :: .delayExpiry :: []) ∧
    ({ trading with phase := .off } : State).phase ≠ .running ∧ trading.phase = .running ∧
    (let s : State := { trading with phase := .starting }
     s.phase = .starting ∧ s.pins.powerFail = false ∧ s.valid = true ∧
       ({ s with valid := false } : State).valid = false ∧
       ({ s with pins := { s.pins with powerFail := true } } : State).pins.powerFail = true) ∧
    (({ trading with phase := .off } : State).phase ≠ .starting) := by decide +kernel

/-- A request, a float, a latest, a minute, a silence, a drop's wait, the lock's window and a handover's two timers, each at its
last second with `n` seconds left. -/
def allDue (n : Nat) : State :=
  let s : State := lockIn .window (some twoWindows) .shut .retracted (some n)
  let s : State := (s.setStation 4 { Station.atColdStart with silence := some n }).setConsignment 8
    { state := .scheduled, outbound := [], inbound := [], schedule := some ⟨417, 22, ⟨1204, 39000⟩, s.oc.clock.later n⟩ }
  { s with
    oc := { s.oc with minuteTold := if n = 0 then 185 else s.minute }
    st := { s.st with reservations := [{ owner := .till 96, lines := [], created := ⟨1204, 39000⟩, expiry := some (s.oc.clock.later n) }] }
    br := { s.br with drops := [{ began := ⟨1204, 39999⟩, wait := n }] }
    chu := { s.chu with handover := some { scanningRecord 0 [] with step := some n, overall := n } }
    hli := { s.hli with buffer := if n = 0 then [{ tag := 1, request := .readStock, taken := true }, { tag := 2, request := .openDay, taken := false }] else [] } }

/-- All of them due at 0 seconds, none a second before (R15, R30, R92, R110, R139, R158, R167, R172). -/
theorem test_due :
    (allDue 0).due = [.openDay, .floatExpiry 96, .latestReached 8, .minuteEvent, .linkSilenceExpiry .four, .readWaitExpiry,
      .windowExpiry, .stepTimerExpiry, .overallTimerExpiry] ∧ (allDue 1).due = [] := by decide +kernel

/-- A second of a part that runs: a drop's wait, a station's silence, the lock's timer, a handover's two timers (R30). -/
theorem test_tick :
    let s : State := lockIn .delay (some twoWindows) .shut .thrown (some 300)
    let s : State := { s.setStation 2 { Station.atColdStart with silence := some 30 } with
      br := { s.br with drops := [{ began := ⟨1204, 39999⟩, wait := 2 }] }
      chu := { s.chu with handover := some (scanningRecord 0 []) } }
    s.tick.slc.timer = some 299 ∧ (s.tick.station 2).silence = some 29 ∧ s.tick.br.drops.map PendingDrop.wait = [1] ∧
    s.tick.chu.handover = some { scanningRecord 0 [] with overall := 899, step := some 59 } := by decide +kernel

/-- A request not yet taken behind one taken. -/
def bufferedRequest : State :=
  { trading with hli := { trading.hli with
    buffer := [{ tag := 1, request := .readStock, taken := true }, { tag := 2, request := .openDay, taken := false }] } }

/-- A request taken with a break waiting behind it: the request stands, and its reply waits to be sent or was discarded (R177). -/
theorem test_request_before_a_break (s : State) (h : s = { bufferedRequest with pending := [.lineBreak] }) :
    ((s.formReply .openDay none []).hli.replies.map Reply.tag = [2] ∨
      (s.formReply .openDay none []).hli.replies = [] ∧ (s.formReply .openDay none []).hli.buffer = []) ∧
    (s.formReply .openDay none []).hli.lastReply.map Reply.tag = some 2 := by
  have e : s.nextRequest = some { tag := 2, request := .openDay, taken := false } := by subst h; decide +kernel
  rw [s.formReply_next e]
  subst h
  obtain ⟨h, -⟩ | ⟨-, -, h⟩ | ⟨-, -, h⟩ := State.queueReply_cases { bufferedRequest with pending := [.lineBreak] }
    { tag := 2, kind := requestKind .openDay, status := none, detail := [], holdsPlace := true }
  · cases h
  · exact ⟨.inl (h ▸ rfl), h ▸ rfl⟩
  · exact ⟨.inr ⟨h ▸ rfl, h ▸ rfl⟩, h ▸ rfl⟩

theorem test_witness_RepliesAreFormedAndSent :
    bufferedRequest.nextRequest = some { tag := 2, request := .openDay, taken := false } ∧
    (∀ cs, bufferedRequest.pending ≠ .lineBreak :: cs) ∧
    ({ bufferedRequest with pending := [.lineBreak] } : State).pending = .lineBreak :: [] ∧
    bufferedRequest.nextRequest.map BufferEntry.request ≠ some .readStock ∧
    trading.nextRequest.map BufferEntry.request ≠ some .openDay ∧
    State.reset.hli.tx ≠ .idle ∧
    (let s : State := { trading with hli := { trading.hli with replies := [default] } }
     s.hli.tx = .idle ∧ s.hli.replies = default :: []) ∧
    (let s : State := { trading with hli := { trading.hli with notices := [default] } }
     s.hli.tx = .idle ∧ s.hli.replies = [] ∧ s.hli.notices = default :: []) ∧
    trading.hli.tx = .idle ∧ trading.hli.replies = [] ∧ trading.hli.notices = [] :=
  ⟨by decide +kernel, fun _ => (List.cons_ne_nil _ _).symm, rfl, by decide +kernel⟩

theorem test_witness_HeldRefusesEveryChange :
    trading.nowHeld.phase = .running ∧ trading.nowHeld.oc.state = .held ∧
    requestKind (.defineDenominations []) = 1 ∧ requestKind (.cancelConsignment 1) = 39 ∧ requestKind .cancelClose ≠ 6 := by
  decide +kernel

theorem test_witness_StoppedPartChangesNothing :
    ({ trading with phase := .stopped } : State).phase ≠ .running ∧ boardEvent .openDay = false := by decide +kernel

theorem test_witness_RequestBodyRoundTrip :
    WellFormed (.adoptBag 255 255 (some 255) 4294967295 4294967295) = true ∧
    requestKind (.adoptBag 255 255 (some 255) 4294967295 4294967295) ≠ 0 := by decide +kernel

theorem test_witness_HostFrameReachesTheBuffer :
    WellFormed .readUnattached = true ∧ requestKind .readUnattached ≠ 0 ∧ 65535 < 65536 ∧ bufferedRequest.phase = .running ∧
    bufferedRequest.hli.spacing = false ∧ bufferedRequest.hli.rx = [] ∧ bufferedRequest.hli.buffer.length < 4 ∧
    (let s : State := { trading with hli := { trading.hli with buffer := List.replicate 4 default } }
     s.phase = .running ∧ s.hli.spacing = false ∧ s.hli.rx = [] ∧ 4 ≤ s.hli.buffer.length) ∧
    ((List.replicate 480 (0 : Byte)).length ≤ 480 ∧ 58 < 59 ∧ 59 < 256) ∧
    (1 ≤ 58 ∧ 58 ≤ 58 ∧ decodeRequest 58 [0] = none) ∧
    ([0, 0].length = 2 ∧ [0, 0] ≠ crcBytes (bytesOfNat 2 0 ++ bytesOfNat 1 3 ++ bytesOfNat 2 65535 ++ [])) ∧
    (480 < 481 ∧ 65535 < 65536 ∧ 255 < 256 ∧ ∀ b ∈ List.replicate 9 (0x7D : Byte), b ≠ startMarker) ∧
    (0x7F#8 ≠ startMarker) := by decide +kernel

/-- An orphan with the seal 77 in slot 255. -/
def orphanRead : State := dropOffice.setBag 255 (some { newBag .unknown .orphan ⟨1204, 39999⟩ with sealNo := some 77 })

theorem test_witness_ReadsChangeNoRecord :
    dropOffice.phase = .running ∧ (15 ≤ 15 ∧ 15 < 16) ∧ (1 ≤ 96 ∧ 96 ≤ 96 ∧ 96 < 97) ∧ (239 ≤ 239 ∧ 239 < 240) ∧
    (dropOffice.bag 15 = some (queuedBag .pickup 7010 (some 40) .ordinary) ∧ 15 ≤ 255) ∧ (dropOffice.bag 255 = none ∧ 255 < 256) ∧
    (dropOffice.consignment 8).state = .free ∧ (collection 0 .scheduled .sealed .sealed .expected .expected).phase = .running ∧
    ((collection 0 .scheduled .sealed .sealed .expected .expected).consignment 3).state ≠ .free ∧ 1 ≤ sealLimit := by
  decide +kernel

/-- A seal of a bag behind other slots and one of an orphan alone; a handover in SCANNING and one VERIFIED. -/
theorem test_witness_ReadsChangeNoRecord_more :
    (dropOffice.bag 15).bind Bag.sealNo = some 7010 ∧
    (∀ c, c < 15 → ∀ y ∈ (dropOffice.bag c).toList, y.sealNo = some 7010 → y.state = .orphan) ∧
    (orphanRead.phase = .running ∧ ∀ b x, orphanRead.bag b = some x → x.sealNo = some 77 → x.state = .orphan) ∧
    (let s : State := collection 51400 .inHandover .sealed .scanned .received .expected
     let h : State := { s with chu := { s.chu with handover := some (scanningRecord 0 [83]) } }
     let v : State := { s with chu := { s.chu with handover := some { scanningRecord 0 [] with stage := .verified } } }
     h.phase = .running ∧ h.chu.handover = some (scanningRecord 0 [83]) ∧ (scanningRecord 0 [83]).stage = .scanning ∧
       v.phase = .running ∧ v.chu.handover = some { scanningRecord 0 [] with stage := .verified }) := by
  refine ⟨by decide +kernel, by decide +kernel, ⟨by decide +kernel, fun b x hx => ?_⟩, by decide +kernel⟩
  exact bag_all (fun o => ∀ x ∈ o.toList, x.sealNo = some 77 → x.state = .orphan) orphanRead (by simp) (by decide +kernel) b x
    (by rw [hx]; simp)

/-- A queue of three bags, the first two above the pool threshold; stations 1 and 2 in service. -/
def arbiterOffice (x1 x2 : StationState) (bypass : Nat) : State :=
  let bag (n v : Nat) : Bag := { queuedBag .office n none .ordinary with declared := some v }
  let s : State := trading.under { trading.oc.profileA with poolThreshold := 1000000 }
  let s : State := (((s.setBag 0 (some { bag 1 2000000 with bypass := some bypass })).setBag 1 (some (bag 2 1000000))).setBag 2
    (some (bag 3 999999)))
  let s : State := (s.setStation 1 { Station.atColdStart with state := x1 }).setStation 2 { Station.atColdStart with state := x2 }
  { s with br := { s.br with ordinary := [0, 1, 2] } }

/-- A head that asks for a pool: two stations IDLE, one of them IDLE with a bypass before and at the limit of 3; a head that asks
for none; no station IDLE; and the assignment of bag 0 to the stations 1 and 2. -/
theorem test_witness_SettleEndsAnOperation :
    (trading.passDue trading = false ∧
      (∀ n, ¬ ((trading.station n).state = .counting ∧ (trading.station n).flow = .paused)) ∧
      ¬ (trading.oc.state = .closing ∧ trading.outstanding.total = 0)) ∧
    (ready.oc.state ≠ .trading ∧ ready.oc.state ≠ .closing) ∧
    ((trading.inOffice .closing).oc.state = .closing ∧ (trading.inOffice .closing).outstanding.total = 0) ∧
    trading.oc.state = .trading ∧
    (trading.passDue (arbiterOffice .idle .idle 0) = true ∧
      (arbiterOffice .idle .idle 0).passDue (arbiterOffice .idle .idle 0) = false) ∧
    (let s : State := arbiterOffice .idle .idle 0
     s.queue = 0 :: [1, 2] ∧ s.idleStations = 1 :: [2] ∧ s.needsPool 0 = true ∧ s.bag 0 ≠ none ∧
       (∀ a ∈ [(1, Portion.first, some 2), (2, Portion.second, some 1)], 1 ≤ a.1 ∧ a.1 ≤ 4) ∧
       ([(1, Portion.first, some 2), (2, Portion.second, some 1)].map Prod.fst).Nodup ∧ s.arbiterStep ≠ none) ∧
    (let s : State := arbiterOffice .idle (.held .sequence) 2
     s.idleStations = 1 :: [] ∧ s.needsPool 0 = true ∧ 2 = ((s.bag 0).bind Bag.bypass).getD 0 ∧ 2 < 3 ∧
       [1, 2] = [1] ++ 2 :: [] ∧ (∀ c ∈ [1], s.needsPool c = true) ∧ s.needsPool 2 = false) ∧
    (3 ≤ (((arbiterOffice .idle (.held .sequence) 3).bag 0).bind Bag.bypass).getD 0 ∧
      (arbiterOffice .idle (.held .sequence) 3).needsPool 0 = true ∧ (arbiterOffice .idle (.held .sequence) 3).arbiterStep = none) ∧
    ((arbiterOffice .idle (.offline .link) 0).needsPool 0 = false ∧ (arbiterOffice .counting .counting 0).idleStations = []) := by
  refine ⟨⟨by decide +kernel, ?_, by decide +kernel⟩, by decide +kernel⟩
  exact nth_all (fun x : Station => ¬ (x.state = .counting ∧ x.flow = .paused)) _ _ (by decide +kernel) (by decide +kernel)

/-! #### The laws, each on a state that a run could leave, with a step that goes on -/

/-- The office of 5.10 with bag 20 in its till's session, the DRAINING till 41 with bag 30 in PRIORITY, one handover in SCANNING,
a window of the lock, and till 31 on the pickup-due list. -/
def lawful : State :=
  let s : State := (dropOffice.setTill 41 { Till.atColdStart with enabled := true, state := .draining, bags := [30] }).setBag 30
    (some (queuedBag .pickup 7030 (some 41) .priority))
  let s : State := (s.setTill 31 { till31At60 with onList := true, cls := 1 }).setConsignment 3
    { state := .inHandover, outbound := [], inbound := [84], schedule := some ⟨417, 22, ⟨1204, 39000⟩, ⟨1204, 54000⟩⟩ }
  let s : State := s.setBag 84 (some (inBag .received 900002 250000))
  let s : State := s.setStation 1 { Station.atColdStart with
    state := .counting, silence := some 30
    job := some { bag := 12, portion := .whole, partner := none, complete := false, resumeAssigned := false } }
  { s with
    tps := { s.tps with due := [{ till := 31, minute := 87, projection := 150375 }] }
    br := { s.br with priority := [30] }
    chu := { s.chu with handover := some { scanningRecord 0 [84] with step := some 100 } }
    csc := { s.csc with jobs :=
      [{ bag := 12, parts := [⟨1, emptyTally, none⟩], assigned := ⟨1204, 39990⟩, tolerance := 0, policy := .none }] }
    slc := { s.slc with state := .window, opening := some twoWindows, boltDrive := .retract, timer := some 60 }
    pending := [.doorSenseChange .opened] }

theorem test_witness_StepKeepsLockLaw : lawful.LockLaw ∧ ∃ t, step lawful = .next t :=
  ⟨by constructor <;> decide +kernel, step_of_goesOn (by decide +kernel)⟩

theorem test_witness_StepKeepsOfficeLaw :
    trading.nowHeld.RememberedLaw ∧ (ready.inOffice .closedDay).RememberedLaw ∧ (ready.inOffice .closedDay).ClosedLaw ∧
    ∃ t, step (ready.inOffice .closedDay) = .next t :=
  ⟨⟨by decide +kernel, by decide +kernel⟩, ⟨by decide +kernel, by decide +kernel⟩,
    ⟨fun _ => nth_all (fun x : Till => x.outstanding = false) _ _ (by decide +kernel) (by decide +kernel),
      fun _ => bag_all (fun x => x.map Bag.state ≠ some .counting) _ (by decide +kernel) (by decide +kernel),
      fun _ r hr => by simp [State.inOffice, ready, State.reset, St.atColdStart] at hr⟩,
    step_of_goesOn (by decide +kernel)⟩

theorem test_witness_StepKeepsPickupLaw : lawful.PickupLaw ∧ ∃ t, step lawful = .next t := by
  refine ⟨⟨by decide +kernel, fun n => ?_, ?_⟩, step_of_goesOn (by decide +kernel)⟩
  · rcases Nat.lt_or_ge 96 n with h | h
    · have hn : (lawful.till n).onList = false := by rw [State.till, nth_past _ _ _ h]; rfl
      rw [hn]
      have : lawful.tps.due.map DueEntry.till = [31] := by decide +kernel
      rw [this]
      simp; omega
    · have : ∀ n, n < 97 → (n ∈ lawful.tps.due.map DueEntry.till ↔ (lawful.till n).onList = true) := by decide +kernel
      exact this n (by omega)
  · exact nth_all (fun x : Till => x.onList = true → x.state = .opened) _ _ (by decide +kernel) (by decide +kernel)

/-- What the lists of a consignment and the register say is a law where it holds of the eight consignments and of every bag. -/
theorem listLaw_of (s : State)
    (ho : ∀ c, c < 9 → ∀ b ∈ (s.consignment c).outbound,
      (s.bag b).map Bag.kind = some .outbound ∧ (s.bag b).map Bag.consignment = some (some c))
    (hn : ∀ c, c < 9 → (s.consignment c).outbound.Nodup)
    (hi : ∀ c, c < 9 → ∀ b ∈ (s.consignment c).inbound,
      (s.bag b).map Bag.kind = some .inbound ∧ (s.bag b).map Bag.consignment = some (some c))
    (hk : ∀ x ∈ s.br.bags.toList, ∀ y ∈ x.toList, y.state = .orphan → y.kind = .unknown) : s.ListLaw := by
  have past : ∀ c, 9 ≤ c → s.consignment c = default := fun c h => nth_past _ _ _ (by omega)
  have named : ∀ (b c : Nat) (k : BagKind), (s.bag b).map Bag.kind = some k ∧ (s.bag b).map Bag.consignment = some (some c) →
      ∃ x, s.bag b = some x ∧ x.kind = k ∧ x.consignment = some c := by
    intro b c k h
    cases hx : s.bag b with
    | none => rw [hx] at h; cases h.1
    | some x =>
      rw [hx] at h
      exact ⟨x, rfl, by simpa using h.1, by simpa using h.2⟩
  refine ⟨fun c b hb => ?_, fun c => ?_, fun c b hb => ?_, fun b x hb hx => ?_⟩
  · rcases Nat.lt_or_ge c 9 with h | h
    · exact named b c _ (ho c h b hb)
    · rw [past c h] at hb; cases hb
  · rcases Nat.lt_or_ge c 9 with h | h
    · exact hn c h
    · rw [past c h]; exact List.nodup_nil
  · rcases Nat.lt_or_ge c 9 with h | h
    · exact named b c _ (hi c h b hb)
    · rw [past c h] at hb; cases hb
  · exact bag_all (fun o => ∀ y ∈ o.toList, y.state = .orphan → y.kind = .unknown) s (by simp) hk b x (by rw [hb]; simp) hx

theorem lawful_lists : lawful.ListLaw :=
  listLaw_of _ (by decide +kernel) (by decide +kernel) (by decide +kernel) (by decide +kernel)

theorem test_witness_StepKeepsHandoverLaw :
    lawful.HandoverLaw ∧ lawful.ListLaw ∧ (lawful.consignment 3).inbound = [84] ∧ ∃ t, step lawful = .next t := by
  refine ⟨fun c => ?_, lawful_lists, by decide +kernel, step_of_goesOn (by decide +kernel)⟩
  rcases Nat.lt_or_ge 8 c with h | h
  · have hn : (lawful.consignment c).state = .free := by rw [State.consignment, nth_past _ _ _ h]; rfl
    have hh : lawful.chu.handover.map Handover.consignment = some 3 := by decide +kernel
    rw [hn, hh]
    simp; omega
  · have : ∀ c, c < 9 →
        ((lawful.consignment c).state = .inHandover ↔ lawful.chu.handover.map Handover.consignment = some c) := by decide +kernel
    exact this c (by omega)

/-- The pieces reserved are a law where they are within each area of twelve slots and each ASSEMBLING bag is covered. -/
theorem reservedLaw_of (s : State) (h1 : s.st.denoms.length ≤ 12)
    (h2 : ∀ d, d < 13 → ∀ a ∈ [Source.working, .unfit], s.reserved a d ≤ (s.slot d).area a)
    (h3 : ∀ b, b < 256 → (s.bag b).all (fun x => decide (x.kind = .outbound → x.state = .assembling →
      ∃ r ∈ s.st.reservations, r.owner = .bag b ∧ r.lines = x.lines)) = true) : s.ReservedLaw := by
  refine ⟨h1, fun d a _ hd => h2 d (by omega) a (by cases a <;> simp), fun b x hb hk hs => ?_⟩
  rcases Nat.lt_or_ge b 256 with h | h
  · have := h3 b h
    rw [hb] at this
    exact of_decide_eq_true this hk hs
  · rw [bag_outside _ _ h] at hb; cases hb

/-- DISPATCH agrees where it does on twelve slots. -/
theorem dispatchLaw_of (s : State) (h : ∀ d, d < 13 → 1 ≤ d → (s.slot d).dispatch = (s.bagList.map fun p => p.2.dispatched d).sum) :
    s.DispatchLaw := fun d h1 h2 => h d (by omega) h1

/-- The example's collection at its CONFIRM: bags 81 and 82 SCANNED, 83 RECEIVED, 84 still EXPECTED. -/
def atConfirm : State :=
  let s : State := collection 51400 .inHandover .scanned .scanned .received .expected
  { s with chu := { s.chu with handover := some (scanningRecord 0 [83]) }, pending := [.confirm .sound] }

/-- The slots of `lawful` that hold a bag. -/
theorem lawful_bags (b : Nat) (x : Bag) (h : lawful.bag b = some x) : b ∈ [12, 15, 20, 30, 84] := by
  rcases Nat.lt_or_ge b 256 with hb | hb
  · have : ∀ b, b < 256 → (lawful.bag b).isSome = true → b ∈ [12, 15, 20, 30, 84] := by decide +kernel
    exact this b hb (by rw [h]; rfl)
  · rw [bag_outside _ _ hb] at h; cases h

/-- A list of slots and a state go together when they do on the register. -/
theorem standing_of (s : State) (l : List Nat) (st : BagState) (hl : ∀ b ∈ l, b < 256)
    (h : ∀ b, b < 256 → (b ∈ l ↔ (s.bag b).map Bag.state = some st)) (b : Nat) :
    b ∈ l ↔ (s.bag b).map Bag.state = some st := by
  rcases Nat.lt_or_ge b 256 with hb | hb
  · exact h b hb
  · rw [bag_outside _ _ hb]
    exact ⟨fun hm => absurd (hl b hm) (by omega), fun hm => by cases hm⟩

theorem lawful_custody : lawful.CustodyLaw := by
  refine ⟨by decide +kernel, standing_of _ _ _ (by decide +kernel) (by decide +kernel), by decide +kernel,
    standing_of _ _ _ (by decide +kernel) (by decide +kernel), ?_, by decide +kernel,
    standing_of _ _ _ (by decide +kernel) (by decide +kernel), ?_, ?_⟩
  · intro n k hk
    have : ∀ n, (lawful.station n).job = none ∨ (lawful.station n).job.map StationJob.bag = some 12 :=
      nth_all (fun x : Station => x.job = none ∨ x.job.map StationJob.bag = some 12) _ _ (by decide +kernel) (by decide +kernel)
    rcases this n with h | h
    · rw [hk] at h; cases h
    · rw [hk] at h
      have hb : k.bag = 12 := by simpa using h
      rw [hb]; decide +kernel
  · intro h hh
    have : lawful.chu.handover = some { scanningRecord 0 [84] with step := some 100 } := by decide +kernel
    rw [this] at hh
    cases hh
    decide +kernel
  · intro b c x y hb hc _ _ hs hxy
    have key : ∀ b ∈ [12, 15, 20, 30, 84], ∀ c ∈ [12, 15, 20, 30, 84],
        (lawful.bag b).bind Bag.sealNo = (lawful.bag c).bind Bag.sealNo → b = c := by decide +kernel
    exact key b (lawful_bags b x hb) c (lawful_bags c y hc) (by rw [hb, hc]; exact hxy)

theorem lawful_drains : lawful.DrainLaw := by
  refine ⟨fun b x n hb hn hc hl => ?_, fun b hb => ?_⟩
  · have key : ∀ b ∈ [12, 15, 20, 30, 84], ∀ n ∈ ((lawful.bag b).bind Bag.till).toList,
        b ∈ (lawful.till n).bags ∧ ((lawful.till n).state = .opened ∨ (lawful.till n).state = .draining) := by decide +kernel
    exact key b (lawful_bags b x hb) n (by rw [hb]; simp [hn])
  · have e : lawful.br.priority = [30] := by decide +kernel
    rw [e] at hb
    obtain rfl : b = 30 := by simpa using hb
    exact ⟨queuedBag .pickup 7030 (some 41) .priority, 41, by decide +kernel⟩

theorem lawful_jobs : lawful.JobLaw := by
  refine ⟨fun b x hb hs => ?_, fun n k hk => ?_, ?_, ?_⟩
  · have key : ∀ b ∈ [12, 15, 20, 30, 84], (lawful.bag b).map Bag.state = some .counting →
        1 ≤ ((upTo 4).filter fun n => decide ((lawful.station n).job.map StationJob.bag = some b)).length ∧
          ((upTo 4).filter fun n => decide ((lawful.station n).job.map StationJob.bag = some b)).length ≤ 2 := by decide +kernel
    exact key b (lawful_bags b x hb) (by rw [hb]; simp [hs])
  · exact nth_all (fun y : Station => ∀ k, y.job = some k → (lawful.bag k.bag).map Bag.state = some .counting) Station.atColdStart _
      (by simp [Station.atColdStart])
      (fun y hy k hk => by
        have : ∀ y ∈ lawful.csc.stations.toList, ∀ k ∈ y.job.toList, (lawful.bag k.bag).map Bag.state = some .counting := by
          decide +kernel
        exact this y hy k (by rw [hk]; simp)) n k hk
  · intro n k hk
    have : ∀ n, (lawful.station n).job = none ∨ (lawful.station n).state = .counting :=
      nth_all (fun y : Station => y.job = none ∨ y.state = .counting) _ _ (by decide +kernel) (by decide +kernel)
    rcases this n with h | h
    · rw [hk] at h; cases h
    · exact .inr (.inl h)
  · intro n hn
    have : ∀ n, (lawful.station n).enabled = true := nth_all (fun y : Station => y.enabled = true) _ _ (by decide +kernel) (by decide +kernel)
    rw [this n] at hn; cases hn

/-- The slots of `atConfirm` that hold a bag. -/
theorem atConfirm_bags (b : Nat) (x : Bag) (h : atConfirm.bag b = some x) : b ∈ [81, 82, 83, 84] := by
  rcases Nat.lt_or_ge b 256 with hb | hb
  · have : ∀ b, b < 256 → (atConfirm.bag b).isSome = true → b ∈ [81, 82, 83, 84] := by decide +kernel
    exact this b hb (by rw [h]; rfl)
  · rw [bag_outside _ _ hb] at h; cases h

theorem atConfirm_custody : atConfirm.CustodyLaw := by
  refine ⟨by decide +kernel, standing_of _ _ _ (by decide +kernel) (by decide +kernel), by decide +kernel,
    standing_of _ _ _ (by decide +kernel) (by decide +kernel), ?_, by decide +kernel,
    standing_of _ _ _ (by decide +kernel) (by decide +kernel), ?_, ?_⟩
  · intro n k hk
    have : ∀ n, (atConfirm.station n).job = none :=
      nth_all (fun x : Station => x.job = none) _ _ (by decide +kernel) (by decide +kernel)
    rw [this n] at hk; cases hk
  · intro h hh
    have : atConfirm.chu.handover = some (scanningRecord 0 [83]) := by decide +kernel
    rw [this] at hh
    cases hh
    decide +kernel
  · intro b c x y hb hc _ _ hs hxy
    have key : ∀ b ∈ [81, 82, 83, 84], ∀ c ∈ [81, 82, 83, 84],
        (atConfirm.bag b).bind Bag.sealNo = (atConfirm.bag c).bind Bag.sealNo → b = c := by decide +kernel
    exact key b (atConfirm_bags b x hb) c (atConfirm_bags c y hc) (by rw [hb, hc]; exact hxy)

theorem atConfirm_lists : atConfirm.ListLaw :=
  listLaw_of _ (by decide +kernel) (by decide +kernel) (by decide +kernel) (by decide +kernel)

theorem atConfirm_dispatch : atConfirm.DispatchLaw ∧ (atConfirm.slot 1).dispatch = 40 :=
  ⟨dispatchLaw_of _ (by decide +kernel), by decide +kernel⟩

/-- A bag being assembled and a step of the base for the reserved pieces; the CONFIRM, which takes 230,000 out of the stock, for
the ledger. -/
theorem test_witness_StepKeepsAreaLaw :
    (stockExample.AreaLaw ∧ ∃ t, step stockExample = .next t) ∧
    (stockExample.ReservedLaw ∧ assembledBag.ReservedLaw ∧ ∃ t, step assembledBag = .next t) ∧
    (atConfirm.ReservedLaw ∧ atConfirm.DispatchLaw ∧ atConfirm.ListLaw ∧ atConfirm.CustodyLaw ∧
      ∃ t, step atConfirm = .next t) := by
  refine ⟨⟨⟨nth_all (fun x : StockSlot => x.working ≤ pieceLimit ∧ x.reserve ≤ pieceLimit ∧ x.unfit ≤ pieceLimit ∧
    x.dispatch ≤ pieceLimit ∧ x.suspect ≤ pieceLimit) _ _ (by decide +kernel) (by decide +kernel), fun b x hb => ?_⟩,
    step_of_goesOn (by decide +kernel)⟩,
    ⟨reservedLaw_of _ (by decide +kernel) (by decide +kernel) (by decide +kernel),
      reservedLaw_of _ (by decide +kernel) (by decide +kernel) (by decide +kernel), step_of_goesOn (by decide +kernel)⟩,
    ⟨reservedLaw_of _ (by decide +kernel) (by decide +kernel) (by decide +kernel), atConfirm_dispatch.1, atConfirm_lists,
      atConfirm_custody, step_of_goesOn (by decide +kernel)⟩⟩
  exact bag_all (fun o => ∀ x, o = some x → (x.lines.map ContentLine.slot).Nodup) _ (by simp)
    (fun o ho x hx => by
      have : ∀ o ∈ stockExample.br.bags.toList, o = none := by decide +kernel
      rw [this o ho] at hx; cases hx) b x hb

theorem test_witness_StepKeepsCustodyLaw :
    (lawful.CustodyLaw ∧ lawful.DrainLaw ∧ lawful.JobLaw ∧ lawful.br.priority = [30] ∧
      lawful.csc.jobs.map CountJob.bag = [12] ∧ ∃ t, step lawful = .next t) ∧
    (atConfirm.CustodyLaw ∧ atConfirm.ListLaw ∧ atConfirm.DispatchLaw ∧ ∃ t, step atConfirm = .next t) :=
  ⟨⟨lawful_custody, lawful_drains, lawful_jobs, by decide +kernel, by decide +kernel, step_of_goesOn (by decide +kernel)⟩,
    ⟨atConfirm_custody, atConfirm_lists, atConfirm_dispatch.1, step_of_goesOn (by decide +kernel)⟩⟩

theorem coldStart_inRange : Profile.atColdStart.InRange := by
  constructor
  case template =>
    intro c d hc _ hd
    exact (by decide +kernel : ∀ c, c < 4 → ∀ d, d < 13 →
      classSlotOf Profile.atColdStart.target c d ≤ classSlotOf Profile.atColdStart.cap c d ∧
        classSlotOf Profile.atColdStart.cap c d ≤ 999) c hc d (by omega)
  all_goals decide +kernel

/-- Till 7 COMPOSED for 18,000 and till 12 at 12,000 of 12,500, REDUCED (chapter 1.10, with the float of till 12 put in place). -/
def floatsStand : State :=
  stockExample.setTill 12 { Till.atColdStart with
    enabled := true, state := .composed
    pending := some { prior := .reconciled, requested := 12500, composed := 12000, reduced := true } }

/-- The floats keep their law where the tills 1 to 96 and the reservations do. -/
theorem floatLaw_of (s : State)
    (h : ∀ n, n < 97 → ((s.till n).state = .composed ↔ (s.till n).pending.isSome = true) ∧
      ∀ c ∈ (s.till n).pending.toList, (c.prior = .closed ∨ c.prior = .reconciled) ∧
        (1 ≤ c.composed ∧ c.composed ≤ c.requested ∧ c.requested ≤ 10000000 ∧ (c.reduced = true ↔ c.composed < c.requested)) ∧
        ∃ r ∈ s.st.reservations, s.st.reservations.filter (fun q => decide (q.owner = .till n)) = [r] ∧
          (∀ l ∈ r.lines, l.source = .working) ∧ (r.lines.map fun l => l.pieces * s.pieceValue l.slot).sum = c.composed)
    (ho : ∀ r ∈ s.st.reservations,
      (match r.owner with | .till n => decide ((s.till n).state = .composed) | .bag _ => true) = true) : s.FloatLaw := by
  have past : ∀ n, 97 ≤ n → s.till n = Till.atColdStart := fun n h => nth_past _ _ _ (by omega)
  have of : ∀ n c, (s.till n).pending = some c → n < 97 := by
    intro n c hc
    rcases Nat.lt_or_ge n 97 with h | h
    · exact h
    · rw [past n h] at hc; cases hc
  have at_ : ∀ n c (hc : (s.till n).pending = some c), _ := fun n c hc => (h n (of n c hc)).2 c (by rw [hc]; simp)
  refine ⟨fun n => ?_, fun n c hc => (at_ n c hc).1, fun n c hc => (at_ n c hc).2.1, fun n c hc => ?_, fun r hr n hn => ?_⟩
  · rcases Nat.lt_or_ge n 97 with hl | hl
    · exact (h n hl).1
    · rw [past n hl]; decide
  · obtain ⟨r, -, hr⟩ := (at_ n c hc).2.2
    exact ⟨r, hr⟩
  · have := ho r hr
    rw [hn] at this
    exact of_decide_eq_true this

/-- A step that leaves a state with this property. -/
theorem step_to {s : State} (P : State → Prop) [DecidablePred P]
    (h : (match step s with | .next t => decide (P t) | _ => false) = true) : ∃ t, step s = .next t ∧ P t := by
  split at h
  · exact ⟨_, ‹_›, of_decide_eq_true h⟩
  · cases h

/-- OPEN TILL 5 for 30,000 with the mark, in front of the queue: REDUCED at 29,500, above the minimum of 25,000. -/
def opensFive : State := { floatOffice with pending := [.openTill 5 30000 1] }

/-- A report of 90,000 in front of the queue, at minute 60. -/
def reportsNinety : State := { atMinute 60 till31 with pending := [.reportTakings 31 90000] }

theorem tillProfile_inRange : tillProfile.InRange := by
  constructor
  case template =>
    intro c d hc _ hd
    exact (by decide +kernel : ∀ c, c < 4 → ∀ d, d < 13 →
      classSlotOf tillProfile.target c d ≤ classSlotOf tillProfile.cap c d ∧
        classSlotOf tillProfile.cap c d ≤ 999) c hc d (by omega)
  all_goals decide +kernel

/-- Two floats that stand; one that is composed REDUCED above the minimum; a rate update. -/
theorem test_witness_StepKeepsPickupLaw_more :
    (floatsStand.FloatLaw ∧ floatsStand.ReservedLaw ∧ ∃ t, step floatsStand = .next t) ∧
    (opensFive.FloatLaw ∧ (opensFive.till 5).state ≠ .composed ∧
      ∃ t, step opensFive = .next t ∧
        (t.till 5).pending = some { prior := .reconciled, requested := 30000, composed := 29500, reduced := true }) ∧
    (reportsNinety.ProfileLaw ∧ (∀ n, (reportsNinety.till n).rate ≤ 16000000) ∧
      ∃ t, step reportsNinety = .next t ∧ (t.till 31).rate = 18000 ∧ (reportsNinety.till 31).rate = 16000) :=
  ⟨⟨floatLaw_of _ (by decide +kernel) (by decide +kernel), reservedLaw_of _ (by decide +kernel) (by decide +kernel) (by decide +kernel), step_of_goesOn (by decide +kernel)⟩,
    ⟨floatLaw_of _ (by decide +kernel) (by decide +kernel), by decide +kernel,
      step_to _ (by decide +kernel)⟩,
    ⟨tillProfile_inRange, coldStart_inRange⟩,
      nth_all (fun x : Till => x.rate ≤ 16000000) _ _ (by decide +kernel) (by decide +kernel),
      step_to _ (by decide +kernel)⟩

theorem ready_operators : ready.OperatorLaw := by constructor <;> decide +kernel

theorem trading_operators : trading.OperatorLaw := by constructor <;> decide +kernel

theorem test_witness_StepKeepsCapacitiesAndRanges :
    lawful.Bounded ∧ ready.ProfileLaw ∧ ready.OperatorLaw ∧ (∃ t, step lawful = .next t) ∧ ∃ t, step ready = .next t :=
  ⟨by constructor <;> decide +kernel, ⟨coldStart_inRange, coldStart_inRange⟩, ready_operators,
    step_of_goesOn (by decide +kernel), step_of_goesOn (by decide +kernel)⟩

/-! #### Stock -/

/-- Thirteen entries, the thirteenth at fault. -/
def thirteen : List DenomEntry := (List.range 13).map fun k => ⟨100 - k, 0⟩

theorem test_witness_DefineDenominations :
    (ready.Shut ∧
      (∀ d, (ready.slot d).working = 0 ∧ (ready.slot d).reserve = 0 ∧ (ready.slot d).unfit = 0 ∧ (ready.slot d).dispatch = 0) ∧
      (∀ b, ready.bag b = none)) ∧
    (thirteen.take 12 ≠ [] ∧ ∀ d, 1 ≤ d → d ≤ (thirteen.take 12).length → ¬ SlotAtFault (thirteen.take 12) d) ∧
    (1 ≤ 13 ∧ 13 ≤ thirteen.length ∧ SlotAtFault thirteen 13 ∧ ∀ c, 1 ≤ c → c < 13 → ¬ SlotAtFault thirteen c) ∧
    (trading.nowHeld.phase = .running ∧ trading.nowHeld.oc.state = .held) ∧
    (trading.phase = .running ∧ (trading.oc.state = .trading ∨ trading.oc.state = .closing)) ∧
    ((ready.stock 12 (stocked 0 0 0 1)).Shut ∧ ((ready.stock 12 (stocked 0 0 0 1)).slot 12).dispatch ≠ 0) ∧
    ((ready.setBag 255 (some default)).Shut ∧ (ready.setBag 255 (some default)).bag 255 ≠ none) := by
  refine ⟨⟨by decide +kernel, ?_, ?_⟩, by decide +kernel⟩
  · exact nth_all (fun x : StockSlot => x.working = 0 ∧ x.reserve = 0 ∧ x.unfit = 0 ∧ x.dispatch = 0) _ _ (by decide) (by decide +kernel)
  · exact bag_all (fun o => o = none) _ rfl (by decide +kernel)

/-- The operator table of the clauses on the checks of R33, in TransferMovesEveryLine, ProfilesAreWrittenAndSelected,
EraseAndColdStart, RequestOpening and ClearAlarm: each check passes and fails on it. -/
theorem test_witness_operator_checks :
    ready.OperatorLaw ∧ trading.OperatorLaw ∧ stockExample.OperatorLaw ∧
    (stockExample.dualControl 1 3 = true ∧ stockExample.dualControl 1 1 = false ∧ stockExample.dualControl 1 4 = false) ∧
    (ready.twoSupervisors 1 2 = true ∧ ready.twoSupervisors 1 3 = false ∧ ready.twoSupervisors 1 1 = false) ∧
    (trading.isSupervisor 2 = true ∧ trading.isSupervisor 3 = false ∧ trading.isSupervisor 65535 = false) :=
  ⟨ready_operators, trading_operators, by constructor <;> decide +kernel, by decide +kernel⟩

/-- 80 pieces, the whole limit, and as many back. -/
theorem test_witness_TransferMovesEveryLine :
    (stockExample.Open ∧ stockExample.oc.state ≠ .unconfigured ∧ stockExample.st.denoms.length ≤ 12 ∧
      stockExample.stockLinesOk [⟨4, 80⟩] = true ∧ stockExample.dualControl 1 3 = true ∧
      ∀ d ∈ stockExample.namedSlots [⟨4, 80⟩], lineFor [⟨4, 80⟩] d ≤ stockExample.assemblyLimit .working d ∧
        (stockExample.slot d).reserve + lineFor [⟨4, 80⟩] d ≤ pieceLimit) ∧
    (let s : State := stockExample.stock 4 (stocked 16777135 80 0 0)
     s.Open ∧ s.oc.state ≠ .unconfigured ∧ s.stockLinesOk [⟨4, 80⟩] = true ∧ s.dualControl 1 3 = true ∧
      ∀ d ∈ s.namedSlots [⟨4, 80⟩], lineFor [⟨4, 80⟩] d ≤ (s.slot d).reserve ∧
        (s.slot d).working + lineFor [⟨4, 80⟩] d ≤ pieceLimit) ∧
    (heldCredits.Open ∧ heldCredits.stockLinesOk [⟨6, 300⟩] = true ∧ heldCredits.dualControl 1 3 = true ∧
      heldCredits.st.held.length = 2 ∧
      ∀ d ∈ heldCredits.namedSlots [⟨6, 300⟩], lineFor [⟨6, 300⟩] d ≤ heldCredits.assemblyLimit .working d ∧
        (heldCredits.slot d).reserve + lineFor [⟨6, 300⟩] d ≤ pieceLimit) ∧
    (ready.Open ∧ ready.oc.state = .unconfigured) ∧ (1 < 2 ∧ stockExample.stockLinesOk [⟨7, 1⟩] = false) ∧
    stockExample.dualControl 3 3 = false ∧
    (stockExample.stockLinesOk [⟨4, 81⟩] = true ∧ 4 ∈ stockExample.namedSlots [⟨4, 81⟩] ∧
      stockExample.assemblyLimit .working 4 < lineFor [⟨4, 81⟩] 4 ∧ (stockExample.slot 4).reserve < lineFor [⟨4, 81⟩] 4 ∧
      ∀ c ∈ stockExample.namedSlots [⟨4, 81⟩], c < 4 → lineFor [⟨4, 81⟩] c ≤ stockExample.assemblyLimit .working c) ∧
    (let s : State := stockExample.stock 4 (stocked 120 16777136 0 0)
     s.Open ∧ s.stockLinesOk [⟨4, 80⟩] = true ∧ pieceLimit < (s.slot 4).reserve + lineFor [⟨4, 80⟩] 4 ∧
      (∀ c ∈ s.namedSlots [⟨4, 80⟩], lineFor [⟨4, 80⟩] c ≤ s.assemblyLimit .working c) ∧
      ∀ c ∈ s.namedSlots [⟨4, 80⟩], c < 4 → (s.slot c).reserve + lineFor [⟨4, 80⟩] c ≤ pieceLimit) ∧
    (let s : State := stockExample.stock 4 (stocked 16777136 80 0 0)
     s.Open ∧ pieceLimit < (s.slot 4).working + lineFor [⟨4, 80⟩] 4 ∧
      (∀ c ∈ s.namedSlots [⟨4, 80⟩], lineFor [⟨4, 80⟩] c ≤ (s.slot c).reserve) ∧
      ∀ c ∈ s.namedSlots [⟨4, 80⟩], c < 4 → (s.slot c).working + lineFor [⟨4, 80⟩] c ≤ pieceLimit) := by decide +kernel

/-- A credit that fails in WORKING and UNFIT of slot 3 and in UNFIT of slot 6; a DRAINING till 96 whose only bag is COUNTING,
and the same with the bag COUNTED. -/
def drainOffice (x : BagState) : State :=
  (((trading.stock 3 (stocked 1 0 1 0)).stock 6 (stocked 0 0 1 0)).setBag 50
    (some { newBag .drain x ⟨1204, 39990⟩ with till := some 96 })).setTill 96
      { Till.atColdStart with state := .draining, bags := [50], takings := 100 }

/-- A credit at the limit and above it; the first held credit retried after 500 pieces left, then the second. -/
theorem test_witness_CreditIsTakenWhole :
    heldCredits.st.denoms.length ≤ 12 ∧ heldCredits.creditFailures (tallySix 215 0 1) = [] ∧
    heldCredits.creditFailures (tallySix 216 0 1) = [(6, .working)] ∧
    (let s : State := heldCredits.stock 6 (stocked 16776500 0 0 0)
     s.st.held = [{ bag := 15, counts := tallySix 300 0 0, blocking := [(6, .working)] },
       { bag := 22, counts := tallySix 450 0 0, blocking := [(6, .working)] }] ∧
     (6, Source.working) ∈ [(6, Source.working)] ∧ (6, Source.unfit) ∉ [(6, Source.working)] ∧
     s.creditFailures (tallySix 300 0 0) = [] ∧
     (s.stock 6 (stocked 16776800 0 0 0)).creditFailures (tallySix 450 0 0) = (6, .working) :: []) ∧
    ((drainOffice .counting).creditFailures emptyTally = [] ∧ ((drainOffice .counting).bag 50).bind Bag.till = some 96 ∧
      (drainOffice .counting).creditFailures (Vector.replicate 12 ⟨16777215, 16777215, 16777215⟩) =
        (3, .working) :: [(3, .unfit), (6, .unfit)] ∧ heldCredits.bag 0 = none) ∧
    ((drainOffice .counting).till 96).state = .draining ∧
    (drainOffice .counting).bagsOutstanding ((drainOffice .counting).till 96) ≠ 0 ∧
    (drainOffice .counted).bagsOutstanding ((drainOffice .counted).till 96) = 0 ∧
    ((drainOffice .counted).till 1).state ≠ .draining := by decide +kernel

/-! #### The office -/

theorem test_witness_OpenDay :
    (ready.phase = .running ∧ ready.oc.state = .unconfigured ∧ ready.st.denoms ≠ []) ∧
    ((ready.inOffice .closedDay).phase = .running ∧ (ready.inOffice .closedDay).oc.state = .closedDay) ∧
    (trading.nowHeld.phase = .running ∧ trading.nowHeld.oc.state = .held) ∧
    (trading.phase = .running ∧ trading.oc.state = .trading) ∧
    ((trading.inOffice .closing).phase = .running ∧ (trading.inOffice .closing).oc.state = .closing) ∧
    (State.reset.phase = .running ∧ State.reset.oc.state = .unconfigured ∧ State.reset.st.denoms = []) := by decide +kernel

theorem test_witness_CloseDay :
    (let s : State := lockIn .delay (some twoWindows) .shut .thrown (some 9)
     s.Trades ∧ s.slc.state ≠ .locked) ∧
    (trading.Trades ∧ trading.outstanding.total = 0) ∧
    (waitingClose.Trades ∧ waitingClose.slc.state = .locked ∧ waitingClose.outstanding.total ≠ 0) ∧
    ((waitingClose.inOffice .closing).phase = .running ∧ (waitingClose.inOffice .closing).oc.state = .closing) ∧
    (trading.nowHeld.phase = .running ∧ trading.nowHeld.oc.state = .held) ∧ ready.Shut ∧
    waitingClose.bag 40 = some (queuedBag .office 40 none .ordinary |> fun x =>
      { x with declared := some 0, changed := ⟨1204, 39000⟩ }) := by decide +kernel

/-- A COUNTED and a QUEUED bag, a DONE and a SCHEDULED consignment. -/
theorem test_witness_TheDayCloses :
    let s : State := (dropOffice.setBag 255 (some { queuedBag .office 1 none .ordinary with state := .counted })).setConsignment 8
      { state := .done, outbound := [], inbound := [], schedule := none }
    s.bag 255 = some { queuedBag .office 1 none .ordinary with state := .counted } ∧
    s.bag 15 = some (queuedBag .pickup 7010 (some 40) .ordinary) ∧ (s.consignment 8).state = .done ∧
    ((s.consignment 1).state ≠ .done ∧ (s.consignment 1).state ≠ .cancelled) ∧
    (trading.oc.openMark = some ⟨1204, 28800⟩ ∧ trading.oc.clock.day = 1204 ∧ 28800 ≤ trading.oc.clock.sec ∧ 86399 ≤ 86399) ∧
    ({ trading with oc := { trading.oc with openMark := some ⟨65535, 86399⟩, clock := ⟨0, 59⟩ } } : State).minute = 1 := by
  decide +kernel

theorem test_witness_CancelClose :
    ((waitingClose.inOffice .closing).phase = .running ∧ (waitingClose.inOffice .closing).oc.state = .closing) ∧
    (trading.Open ∧ trading.oc.state ≠ .closing) ∧
    (trading.nowHeld.phase = .running ∧ trading.nowHeld.oc.state = .held) := by decide +kernel

/-- 30 notices waiting and 2 deferred, and the overflow mark. -/
theorem test_witness_Resume :
    let s : State := { trading.nowHeld with
      oc := { trading.nowHeld.oc with deferred := [default, default], deferredOver := true }
      hli := { trading.hli with notices := List.replicate 30 default } }
    s.phase = .running ∧ s.oc.state = .held ∧ s.oc.remembered = some .trading ∧ OfficeState.trading ≠ .held ∧
    s.hli.notices.length + s.oc.deferred.length ≤ 32 ∧ s.oc.deferredOver = true ∧ trading.Open ∧
    32 - s.hli.notices.length < ((List.replicate 3 (default : Notice)).filter fun n =>
      !s.hli.mask.getLsbD (n.kind.num - 128)).length := by decide +kernel

theorem test_witness_ClockAndLatest :
    (let s : State := (collection 45000 .scheduled .sealed .sealed .expected .expected).inOffice .closedDay
     s.Shut ∧ (List.range' 1 8).filter (fun c => decide ((s.consignment c).state = .scheduled ∧
       (⟨1210, 54000⟩ : OfficeTime).before ((s.consignment c).schedule.getD default).latest = false)) = [3]) ∧
    ready.Shut ∧ (65535 ≤ 65535 ∧ 86399 ≤ 86399) ∧ 86399 < 86400 ∧ 65535 < 65536 ∧
    (trading.nowHeld.phase = .running ∧ trading.nowHeld.oc.state = .held) ∧
    (trading.phase = .running ∧ trading.oc.state = .trading) ∧
    (let s : State := collection 54000 .scheduled .sealed .sealed .expected .expected
     s.phase = .running ∧ (s.consignment 3).state = .scheduled ∧
       (s.consignment 3).schedule = some ⟨417, 22, ⟨1210, 50400⟩, ⟨1210, 54000⟩⟩) ∧
    (trading.consignment 8).state ≠ .scheduled := by decide +kernel

theorem test_witness_OperatorTable :
    ready.Open ∧ (1 ≤ 65535 ∧ 65535 ≤ 65535 ∧ (∀ o ∈ ready.oc.operators, o.ident ≠ 65535) ∧ ready.oc.operators.length < 32) ∧
    (0 = 0 ∨ 1 < 2) ∧ (∃ o ∈ ready.oc.operators, o.ident = 3) ∧
    (let s : State := { ready with oc := { ready.oc with operators := (List.range 32).map fun k => ⟨k + 1, .office⟩ } }
     s.Open ∧ (∀ o ∈ s.oc.operators, o.ident ≠ 65535) ∧ 32 ≤ s.oc.operators.length) := by decide +kernel

/-- 48 items of one slot, all in range; set B is inactive, set A active. -/
theorem test_witness_ProfilesAreWrittenAndSelected :
    let items : List ProfileItem := List.replicate 48 ⟨4, 3, 6, 4294967295⟩
    ready.Open ∧ (1 = 1 ∧ ProfileName.b = .b) ∧ 1 ≤ items.length ∧ items.length ≤ 48 ∧ (∀ i ∈ items, ready.itemOk i = true) ∧
    ProfileName.b ≠ ready.oc.active ∧ ProfileName.a = ready.oc.active ∧ 1 < 2 ∧ 48 < (items ++ items).length ∧
    (1 < [(⟨5, 0, 0, 0⟩ : ProfileItem), ⟨17, 0, 0, 0⟩].length ∧
      ready.itemOk ([(⟨5, 0, 0, 0⟩ : ProfileItem), ⟨17, 0, 0, 0⟩].getD 1 default) = false ∧
      ∀ m < 1, ready.itemOk ([(⟨5, 0, 0, 0⟩ : ProfileItem), ⟨17, 0, 0, 0⟩].getD m default) = true) ∧
    ready.isSupervisor 1 = true ∧ ready.isSupervisor 3 = false ∧
    (let two : List ProfileItem := [⟨4, 3, 6, 7⟩, ⟨4, 3, 6, 1000⟩]
     (∀ i ∈ two, ready.itemOk i = true) ∧ (4, 3, 6) ∈ profileKeys (upTo 12) ∧ (5, 0, 0) ∈ profileKeys (upTo 12) ∧
       (two.filter fun j => j.names (4, 3, 6)).getLast? = some ⟨4, 3, 6, 1000⟩ ∧
       (two.filter fun j => j.names (5, 0, 0)) = []) := by decide +kernel

/-- A part that comes up with the validity mark absent. -/
def neverMarked : State := { ready with phase := .starting, valid := false }

/-- A cold start with RESET ASSERT waiting behind it: cut before the mark, or made whole (R40). -/
theorem test_coldStart_before_a_reset (s : State) (h : s = { neverMarked with pending := [.resetAssert] }) :
    s.performColdStart = { s with choices := 1, valid := false, phase := .starting } ∨
    s.performColdStart = { s.coldStart with choices := 1 } := by
  subst h
  rcases State.performColdStart_cases { neverMarked with pending := [.resetAssert] } with ⟨h, -⟩ | ⟨-, -, h⟩ | ⟨-, -, h⟩
  · cases h
  · exact .inr h
  · exact .inl h

theorem test_witness_EraseAndColdStart :
    (ready.Shut ∧ ready.twoSupervisors 1 2 = true ∧ ready.twoSupervisors 1 3 = false) ∧
    (trading.phase = .running ∧ trading.oc.state = .trading) ∧
    (neverMarked.phase = .starting ∧ neverMarked.pins.powerFail = false ∧ neverMarked.valid = false ∧
      neverMarked.pins.reset = false ∧ neverMarked.pending = [] ∧ neverMarked.phase ≠ .running) ∧ ready.phase ≠ .starting ∧
    (exec .resetAssert neverMarked =
        .next { neverMarked with phase := .inReset, pins := { neverMarked.pins with reset := true } } ∧
      exec .resetRelease { neverMarked with phase := .inReset, pins := { neverMarked.pins with reset := true } } =
        .next neverMarked ∧
      exec .powerLoss neverMarked = .next { neverMarked with phase := .off } ∧
      exec .powerUp { neverMarked with phase := .off } = .next neverMarked) ∧
    (∀ cs, neverMarked.pending ≠ .resetAssert :: cs ∧ neverMarked.pending ≠ .powerLoss :: cs) ∧
    (∀ i ∈ [Instr.resetAssert, .powerLoss], ({ neverMarked with pending := [i] } : State).pending = i :: []) ∧
    (ready.pins.door = .shut ∧ ready.pins.bolt = .thrown) ∧
    (({ ready with pins := { ready.pins with bolt := .retracted } } : State).pins.bolt = .retracted) ∧
    (({ ready with pins := { ready.pins with door := .opened } } : State).pins.door = .opened) :=
  ⟨by decide +kernel, by decide +kernel, by decide +kernel, by decide +kernel, ⟨rfl, rfl, rfl, rfl⟩,
    fun _ => ⟨(List.cons_ne_nil _ _).symm, (List.cons_ne_nil _ _).symm⟩, fun _ _ => rfl, by decide +kernel⟩

/-- Tills 2 and 3 on the list, 1, 4 and 96 off it, at the edges of the band of class 0. -/
def pickupBand : State :=
  let till (e : Nat) (on : Bool) : Till := { Till.atColdStart with enabled := true, state := .opened, exposure := e, onList := on }
  let s : State := ((atMinute 9 (till 0 false)).setTill 1 (till 200000 false)).setTill 2 (till 150000 true)
  let s : State := ((s.setTill 3 (till 150001 true)).setTill 4 (till 199999 false)).setTill 96 (till 200000 false)
  { s with tps := { s.tps with due := [⟨2, 4, 210000⟩, ⟨3, 5, 200000⟩] } }

theorem test_witness_MinuteEventEvaluatesEveryTill :
    (let s : State := atMinute 87 { till31At60 with cls := 1 }
     s.phase = .running ∧ s.oc.state = .trading ∧ (s.till 31).state = .opened ∧
       ((s.minuteEvent 87).till 31).onList = true ∧ ((s.minuteEvent 86).till 31).onList = false ∧ (s.till 96).state ≠ .opened) ∧
    (ready.phase = .running ∧ ready.oc.state ≠ .trading ∧ ready.oc.state ≠ .closing) ∧
    ((pickupBand.till 1).onList = false ∧ 200000 ≤ (pickupBand.till 1).projection 9 ∧ (pickupBand.till 2).onList = true ∧
      (pickupBand.till 2).projection 9 ≤ 200000 - 50000 ∧ (pickupBand.till 3).onList = true ∧
      200000 - 50000 < (pickupBand.till 3).projection 9 ∧ (pickupBand.till 4).onList = false ∧
      (pickupBand.till 4).projection 9 < 200000) := by decide +kernel

/-- T = 200,000 and H = 50,000: a till at T joins, one at T − H leaves, one a unit above stays, one a unit below T stays off; the
tills that join stand behind the others in order of number (R54, R56). -/
theorem test_pickupBand :
    (pickupBand.minuteEvent 9).tps.due =
      [⟨3, 5, 200000⟩, ⟨1, 9, 200000⟩, ⟨96, 9, 200000⟩] ∧
    ([1, 2, 3, 4, 96].map fun n => ((pickupBand.minuteEvent 9).till n).onList) = [true, false, true, false, true] := by
  decide +kernel

/-! #### Tills and floats -/

theorem test_witness_SetTill :
    ready.Open ∧ (1 ≤ 96 ∧ 96 ≤ 96 ∧ 3 ≤ 3 ∧ 1 ≤ 1) ∧ (ready.till 96).state = .closed ∧
    ((atMinute 0 till31).Open ∧ ((atMinute 0 till31).till 31).state = .opened) ∧ (96 < 97 ∧ 3 < 4 ∧ 1 < 2) ∧
    (trading.nowHeld.phase = .running ∧ trading.nowHeld.oc.state = .held) := by decide +kernel

theorem test_witness_CompositionArithmetic :
    (⟨4, 1000, 5, 10, 50⟩, 5) ∈ (inputs 40 1 3 50 4).zip (phase1 (inputs 40 1 3 50 4) 30000).1 ∧
    [0, 1, 3, 5, 4].length = (inputs 40 1 3 50 4).length ∧
    ((inputs 40 1 3 50 4)[3]? = some ⟨4, 1000, 5, 10, 50⟩ ∧ ([0, 1, 3, 5, 4] : List Nat)[3]? = some 5) ∧
    (∀ p ∈ (inputs 40 1 3 50 4).zip [0, 1, 3, 5, 4], p.2 ≤ p.1.cap ∧ p.2 ≤ p.1.avail) ∧
    (∀ i ∈ inputs 40 1 3 50 4, i.target ≤ i.cap) ∧
    (∀ i ∈ [(⟨1, 1000000, 999, 999, 999⟩ : FloatInput)], i.target ≤ i.cap ∧ i.cap ≤ 999 ∧ i.value ≤ 1000000) := by decide +kernel

/-- The office of 4.7 with this availability of slot 5 and this float minimum. -/
def floatCase (a5 m : Nat) : State :=
  (floatOffice.under { floatOffice.oc.profileA with floatMin := #v[0, 0, m, 0] }).stock 5 (stocked a5 0 0 0)

/-- EXACT with 12 pieces of slot 5; REDUCED at the minimum itself, 29,500; NOT_ALLOWED; BELOW_MINIMUM at 29,501; nothing
composed from 400; 16 reservations. -/
theorem test_witness_OpenTillComposesAFloat :
    ((floatCase 12 25000).Trades ∧ ((floatCase 12 25000).till 5).state = .reconciled ∧ ((floatCase 12 25000).till 5).enabled = true ∧
      (floatCase 12 25000).floatInputs ((floatCase 12 25000).till 5).cls = inputs 40 1 3 50 12 ∧
      compose (inputs 40 1 3 50 12) 30000 = ([2, 1, 3, 8, 7], 0) ∧ (floatCase 12 25000).st.reservations.length < 16) ∧
    ((floatCase 4 29500).Trades ∧ (floatCase 4 29500).floatInputs ((floatCase 4 29500).till 5).cls = inputs 40 1 3 50 4 ∧
      compose (inputs 40 1 3 50 4) 30000 = ([2, 1, 3, 9, 4], 500) ∧
      classOf (floatCase 4 29500).profile.floatMin ((floatCase 4 29500).till 5).cls = 29500 ∧
      29500 ≤ 30000 - 500 ∧ 1 ≤ 30000 - 500 ∧ 500 ≠ 0) ∧
    (classOf (floatCase 4 29501).profile.floatMin ((floatCase 4 29501).till 5).cls = 29501 ∧ 1 ≤ 30000 - 500 ∧ 30000 - 500 < 29501) ∧
    (compose (inputs 40 1 3 50 4) 400 = ([0, 0, 0, 0, 0], 400) ∧ 1 ≤ 400 ∧ 400 ≤ 10000000 ∧ 400 - 400 = 0) ∧
    16 ≤ ({ floatOffice with st := { floatOffice.st with reservations := List.replicate 16 default } } : State).st.reservations.length ∧
    (floatOffice.Open ∧ 96 < 97 ∧ 10000000 < 10000001) ∧
    ((floatOffice.inOffice .closing).Open ∧ (floatOffice.inOffice .closing).oc.state ≠ .trading) ∧
    (floatOffice.till 96).enabled = false ∧ (stockExample.till 7).state = .composed := by decide +kernel

/-- The five lines of the EXACT float of 4.7, and the four of one that takes no piece of slot 2 (R73). -/
theorem test_floatLines :
    (∀ ns ∈ [[2, 1, 3, 8, 7], [2, 0, 3, 8, 7]],
      floatLines ((floatCase 12 25000).floatInputs 2) ns =
        (List.range 5).filterMap fun k =>
          if 0 < ns.getD k 0 then some { slot := k + 1, pieces := ns.getD k 0, source := .working } else none) ∧
    (floatLines ((floatCase 12 25000).floatInputs 2) [2, 0, 3, 8, 7]).map ContentLine.slot = [1, 3, 4, 5] ∧
    (floatCase 12 25000).st.denoms.length = 5 := by decide +kernel

theorem test_witness_ConfirmFloatStartsASession :
    stockExample.Open ∧ (1 ≤ 7 ∧ 7 ≤ 96) ∧ (stockExample.till 7).state = .composed ∧
    (stockExample.till 7).pending = some { prior := .closed, requested := 18000, composed := 18000, reduced := false } ∧
    (stockExample.reservationOf (.till 7)).map Reservation.lines = some [⟨4, 18, .working⟩] ∧
    (∀ l ∈ [(⟨4, 18, .working⟩ : ContentLine)], l.source = .working) ∧ (stockExample.till 96).state ≠ .composed ∧ 96 < 97 := by
  decide +kernel

/-- Till 12 of two floats that stand: COMPOSED at 12,000 of 12,500, its reservation worth that. -/
theorem test_witness_ConfirmFloatStartsASession_worth :
    floatsStand.FloatLaw ∧ floatsStand.Open ∧ (floatsStand.till 12).state = .composed ∧
    (floatsStand.till 12).pending.map Composition.composed = some 12000 ∧
    (floatsStand.reservationOf (.till 12)).map Reservation.lines = some [⟨4, 12, .working⟩] :=
  ⟨floatLaw_of _ (by decide +kernel) (by decide +kernel), by decide +kernel⟩

theorem test_witness_FloatIsWithdrawn :
    stockExample.Open ∧ (stockExample.till 7).state = .composed ∧
    (stockExample.till 7).pending = some { prior := .closed, requested := 18000, composed := 18000, reduced := false } ∧
    (stockExample.till 96).state ≠ .composed ∧
    (stockExample.reservationOf (.till 7)).map Reservation.created = some ⟨1204, 39000⟩ ∧ stockExample.phase = .running ∧
    stockExample.reservationOf (.till 96) = none ∧ 96 < 97 := by decide +kernel

/-- Exactly the availability, and one piece more. -/
theorem test_witness_TopUp :
    let s : State := stockExample.setTill 9 { Till.atColdStart with state := .opened }
    s.Open ∧ s.stockLinesOk [⟨4, 60⟩] = true ∧ s.oc.state = .trading ∧ (s.till 9).state = .opened ∧
    (∀ d ∈ s.namedSlots [⟨4, 60⟩], lineFor [⟨4, 60⟩] d ≤ s.availability d) ∧
    (s.stockLinesOk [⟨4, 61⟩] = true ∧ 4 ∈ s.namedSlots [⟨4, 61⟩] ∧ s.availability 4 < lineFor [⟨4, 61⟩] 4 ∧
      ∀ c ∈ s.namedSlots [⟨4, 61⟩], c < 4 → lineFor [⟨4, 61⟩] c ≤ s.availability c) ∧ (s.till 96).state ≠ .opened ∧
    (s.stockLinesOk [⟨7, 1⟩] = false ∧ s.stockLinesOk [⟨6, 0⟩] = false ∧ 96 < 97) ∧
    (([⟨4, 5, .working⟩, ⟨4, 3, .unfit⟩, ⟨1, 16777215, .working⟩] : List ContentLine).map fun l => (l.slot, l.source)).Nodup := by
  decide +kernel

theorem test_witness_ReportTakings :
    (atMinute 120 till31At90).Open ∧ 2147483647 ≤ 2147483647 ∧ ((atMinute 120 till31At90).till 31).state = .opened ∧
    ((atMinute 120 till31At90).till 96).state ≠ .opened ∧ 2147483647 < 2147483648 ∧
    (till31At90.tLast < 61 ∧ till31At90.kPrev ≤ 90000 ∧
      0 = min ((90000 - till31At90.kPrev) * 16 / (61 - till31At90.tLast)) (tillProfile.rateMax * 16) ∧
      13500 = (if till31At90.rate ≤ 0 then till31At90.rate + (0 - till31At90.rate) * tillProfile.smoothing / 16
        else till31At90.rate - (till31At90.rate - 0) * tillProfile.smoothing / 16) ∧ tillProfile.rateMin ≤ tillProfile.rateMax) ∧
    60 ≤ till31At90.tLast ∧ 89999 < till31At90.kPrev := by decide +kernel

/-- A till with 22 session bags takes a pickup, one with 23 does not; a live seal; a full register; a close with custody of the
bags. -/
theorem test_witness_PickupsAndDrains :
    let s (k : Nat) : State := dropOffice.setTill 40 { Till.atColdStart with
      enabled := true, state := .opened, bags := List.replicate k 15 }
    ((s 22).Trades ∧ ((s 22).till 40).state = .opened ∧ ((s 22).till 40).bags.length < 23 ∧
      (s 22).sealLive 7010 = true ∧ (s 22).sealLive 4294967295 = false ∧ (s 22).freeGeneral = some 0 ∧ 4294967295 ≤ sealLimit) ∧
    ((s 23).Trades ∧ 23 ≤ ((s 23).till 40).bags.length) ∧
    (({ s 22 with br := { (s 22).br with bags := Vector.replicate 256 (some default) } } : State).freeGeneral = none ∧
      ({ s 22 with br := { (s 22).br with bags := Vector.replicate 256 (some default) } } : State).sealLive 1 = false) ∧
    (((s 23).inOffice .closing).phase = .running ∧ ((s 23).inOffice .closing).oc.state = .closing) ∧
    (lawful.CustodyLaw ∧ lawful.phase = .running ∧ lawful.oc.state = .trading ∧ (lawful.till 40).state = .opened ∧
      lawful.sealLive 4294967295 = false ∧ lawful.freeGeneral = some 0 ∧ 2147483647 ≤ amountLimit) ∧
    ((dropOffice.Open ∧ 96 < 97 ∧ sealLimit < 4294967296 ∧ amountLimit < 2147483648) ∧
      (dropOffice.inOffice .closing).Open ∧ (dropOffice.inOffice .closing).oc.state ≠ .trading ∧
      (dropOffice.till 96).state ≠ .opened ∧ ready.Open ∧ ready.oc.state ≠ .trading ∧ ready.oc.state ≠ .closing) :=
  ⟨by decide +kernel, by decide +kernel, by decide +kernel, by decide +kernel,
    ⟨lawful_custody, by decide +kernel⟩, by decide +kernel⟩

/-! #### Bags and the deposit slot -/

/-- A full general pool. -/
def fullRegister : State := { trading with br := { trading.br with bags := Vector.replicate 256 (some default) } }

theorem test_witness_DeclareOfficeBag :
    (trading.nowHeld.phase = .running ∧ trading.nowHeld.oc.state = .held) ∧
    (dropOffice.Open ∧ sealLimit < 4294967296 ∧ amountLimit < 2147483648 ∧ 4294967295 ≤ sealLimit ∧ 2147483647 ≤ amountLimit) ∧
    ready.oc.state = .unconfigured ∧ (dropOffice.oc.state ≠ .unconfigured ∧ dropOffice.sealLive 7010 = true) ∧
    (fullRegister.Open ∧ fullRegister.sealLive 1 = false ∧ ∀ b < 240, fullRegister.bag b ≠ none) ∧
    (let s : State := (trading.setBag 0 (some default)).setBag 1 (some default)
     s.sealLive 1 = false ∧ s.bag 2 = none ∧ ∀ c < 2, s.bag c ≠ none) := by decide +kernel

/-- An orphan with a seal in slot 255, one without in slot 240, an EXPECTED bag of a consignment in handover. -/
def orphanOffice : State :=
  (((dropOffice.setBag 240 (some (newBag .unknown .orphan ⟨1204, 39999⟩))).setBag 255
    (some { newBag .unknown .orphan ⟨1204, 39999⟩ with sealNo := some 77 })).setBag 239
      (some { inBag .expected 900002 0 with consignment := some 8 })).setConsignment 8
    { state := .inHandover, outbound := [], inbound := [239], schedule := some default }

/-- The orphan slots below this one taken. -/
def orphansBelow (k : Nat) : State :=
  (List.range (k - 240)).foldl (fun s i => s.setBag (240 + i) (some (newBag .unknown .orphan ⟨1204, 39999⟩))) dropOffice

theorem test_witness_OrphansAdoptedAndBagsWrittenOff :
    (orphanOffice.Open ∧ orphanOffice.bag 240 = some (newBag .unknown .orphan ⟨1204, 39999⟩) ∧
      (newBag .unknown .orphan ⟨1204, 39999⟩).sealNo = none ∧ orphanOffice.sealLive 7010 = true ∧
      orphanOffice.sealLive 4294967295 = false ∧ orphanOffice.freeGeneral = some 0 ∧ orphanOffice.freeOrphans ≠ [] ∧
      2147483647 ≤ amountLimit) ∧
    (orphanOffice.bag 255 = some { newBag .unknown .orphan ⟨1204, 39999⟩ with sealNo := some 77 } ∧ orphanOffice.sealLive 77 = false) ∧
    fullRegister.freeGeneral = none ∧ (orphanOffice.till 1).state = .closed ∧
    ((orphanOffice.till 40).state = .opened ∧ (orphanOffice.till 40).bags.length < 23) ∧
    (let s : State := orphanOffice.setTill 40 { Till.atColdStart with state := .draining, bags := List.replicate 23 15 }
     (s.till 40).state = .draining ∧ (s.till 40).bags.length < 24) ∧
    (orphanOffice.bag 12).isSome = true ∧ orphanOffice.isSupervisor 3 = false ∧ orphanOffice.isSupervisor 1 = true ∧
    ((orphanOffice.bag 239).map Bag.state = some .expected ∧
      ((orphanOffice.bag 239).bind Bag.consignment).map (fun c => (orphanOffice.consignment c).state) = some .inHandover) ∧
    (let s : State := orphanOffice.setBag 0 (some { newBag .office .declared ⟨1204, 1⟩ with sealNo := some 5, declared := some 0 })
     (s.bag 0).map Bag.state = some .declared ∧ (s.bag 0).bind Bag.till = none) ∧
    (orphanOffice.bag 12).map Bag.state = some .counting ∧
    ((orphansBelow 256).Open ∧ (orphansBelow 256).freeOrphans = [] ∧ (orphansBelow 256).freeGeneral = some 0 ∧
      (orphansBelow 256).bag 240 = some (newBag .unknown .orphan ⟨1204, 39999⟩) ∧ (orphansBelow 256).isSupervisor 1 = true ∧
      (orphansBelow 256).sealLive 4294967295 = false ∧ ((orphansBelow 256).till 40).state = .opened) ∧
    (let s : State := { trading with br := { trading.br with
       bags := Vector.replicate 256 (some (newBag .unknown .orphan ⟨1204, 39999⟩)) } }
     s.Open ∧ s.freeGeneral = none ∧ s.freeOrphans = [] ∧ s.bag 255 = some (newBag .unknown .orphan ⟨1204, 39999⟩) ∧
       s.isSupervisor 1 = true) ∧
    ((dropOffice.bag 20).bind Bag.till = some 40 ∧ (dropOffice.bag 20).map Bag.state = some .declared) ∧
    (let s : State := dropOffice.setTill 8 { Till.atColdStart with state := .draining, bags := [200], collected := 5, takings := 7 }
     (s.till 8).state = .draining ∧ s.bagsOutstanding (s.till 8) = 0 ∧
       (-2 : Int) = ((s.till 8).collected : Int) - (((s.till 8).floatTotal : Int) + ((s.till 8).takings : Int)) ∧
       (s.till 40).state ≠ .draining) := by decide +kernel

/-- The tests of ADOPT BAG and WRITE OFF BAG that refuse: a kind that is none, a till past the last, a slot without an orphan, a
seal that settles nothing, a till at its 23 or 24 bags, and no FREE general slot. -/
theorem test_witness_OrphansAdoptedAndBagsWrittenOff_refused :
    let till (x : TillState) (k : Nat) : State := orphanOffice.setTill 40 { Till.atColdStart with state := x, bags := List.replicate k 15 }
    let full : State := { orphanOffice with br := { orphanOffice.br with
      bags := Vector.replicate 256 (some (newBag .unknown .orphan ⟨1204, 39999⟩)) } }
    orphanOffice.Open ∧ (239 < 240 ∧ 255 < 256 ∧ amountLimit < 2147483648 ∧ sealLimit < 4294967296) ∧
    ((2 = 2 ∨ 2 = 0 ∧ ∃ n, (none : Option Nat) = some n ∧ 1 ≤ n ∧ n ≤ 96) ∧
      ¬ (1 = 2 ∨ 1 = 0 ∧ 1 ≤ 96 ∧ 96 ≤ 96) ∧ ¬ (1 ≤ 97 ∧ 97 ≤ 96)) ∧
    (orphanOffice.bag 241).map Bag.state ≠ some .orphan ∧
    ((newBag .unknown .orphan ⟨1204, 39999⟩).sealNo = none ∧ (orphanOffice.bag 255).bind Bag.sealNo = some 77 ∧ 78 ≠ 0 ∧ 78 ≠ 77) ∧
    (orphanOffice.sealLive 4294967295 = false ∧
      ((till .opened 23).till 40).state = .opened ∧ 23 ≤ ((till .opened 23).till 40).bags.length ∧
      ((till .draining 24).till 40).state = .draining ∧ 24 ≤ ((till .draining 24).till 40).bags.length) ∧
    (full.Open ∧ full.sealLive 4294967295 = false ∧ full.freeGeneral = none ∧ (full.bag 240).map Bag.state = some .orphan ∧
      (full.till 40).state = .opened ∧ (full.till 40).bags.length < 23) ∧
    (orphanOffice.isSupervisor 3 = false ∧ orphanOffice.isSupervisor 1 = true ∧ orphanOffice.bag 241 = none) := by
  refine ⟨?_, ?_, ⟨.inl rfl, ?_, ?_⟩, ?_, ?_, ?_, ?_, ?_⟩ <;> decide +kernel

theorem test_witness_RecountBag :
    let s : State := (dropOffice.setBag 20 (some { queuedBag .pickup 7001 (some 40) .ordinary with state := .countHeld }))
    (s.nowHeld.phase = .running ∧ s.nowHeld.oc.state = .held) ∧ s.Open ∧ 255 < 256 ∧ s.bag 255 = none ∧
    (s.bag 15 = some (queuedBag .pickup 7010 (some 40) .ordinary) ∧ (queuedBag .pickup 7010 (some 40) .ordinary).state ≠ .countHeld) ∧
    s.bag 20 = some { queuedBag .pickup 7001 (some 40) .ordinary with state := .countHeld } ∧
    (s.setTill 40 { Till.atColdStart with state := .draining }).Open := by decide +kernel

/-- A seal that is that of a DECLARED bag, of a QUEUED one and of none; a frame with a bad CRC and one that is too long; the last
orphan slot, and a full reserve. -/
theorem test_witness_DropsAreResolved :
    (dropOffice.Hears .slotReader ∧ dropOffice.br.drops = []) ∧
    (FailsCheck .slotReader (startMarker :: (bytesOfNat 1 4 ++ bytesOfNat 1 64 ++ bytesOfNat 4 7001 ++ [0, 0])) ∧
      FailsCheck .slotReader [startMarker, 5, 64] ∧ (dropOffice.receiver .slotReader).bytes = []) ∧
    (dropPending.Hears .slotReader ∧ dropPending.br.drops = { began := ⟨1204, 39999⟩, wait := 2 } :: [] ∧
      dropPending.liveSeal 7001 = some (20, { newBag .pickup .declared ⟨1204, 39500⟩ with
        sealNo := some 7001, till := some 40, declared := some 60000, attempts := some 0 }) ∧
      dropPending.liveSeal 7010 = some (15, queuedBag .pickup 7010 (some 40) .ordinary) ∧
      dropPending.liveSeal 4294967295 = none ∧ 4294967295 < 4294967296 ∧ 20 ∉ dropPending.br.priority ∧ 20 ∉ dropPending.br.ordinary ∧
      dropPending.freeOrphans = 240 :: 241 :: [242, 243, 244, 245, 246, 247, 248, 249, 250, 251, 252, 253, 254, 255]) ∧
    ((orphansBelow 255).freeOrphans = 255 :: [] ∧ (orphansBelow 256).freeOrphans = []) ∧
    ((orphansBelow 256).phase = .running ∧ (orphansBelow 256).oc.state = .trading ∧
      (ready.phase = .running ∧ ready.oc.state ≠ .trading ∧ ready.oc.state ≠ .closing)) := by
  refine ⟨by decide +kernel, ⟨Or.inl ⟨64, bytesOfNat 4 7001, [0, 0], by decide +kernel, by decide +kernel, by decide +kernel, rfl,
    by decide +kernel⟩, Or.inr ⟨5, 64, by decide +kernel, by decide +kernel, by decide +kernel⟩, by decide +kernel⟩,
    by decide +kernel, by decide +kernel, by decide +kernel⟩

/-- A drop with another bag's seal takes the last orphan slot: reason STATE_MISMATCH, and the shutter closes (R93 to R95). -/
theorem test_last_orphan_slot :
    let t := after (.slotSealRead 7010 .sound)
      { (orphansBelow 255).locks { trading.slc with shutter := .opened } with
        br := { (orphansBelow 255).br with drops := [{ began := ⟨1204, 39999⟩, wait := 2 }] } }
    (t.bag 255).bind Bag.sealNo = some 7010 ∧ t.slc.shutter = .closed ∧ told t = [.orphanBag, .shutter] ∧
    (t.hli.notices.map Notice.fields).head? =
      some [.present true, .byte 255, .sealNo 7010, .enum 1, .present true, .byte 15, BagState.queued.code, .count 0] := by
  decide +kernel

/-! #### Counting stations -/

/-- The job of bag 12 at station 1 alone, with this tally and doubt mark. -/
def jobWith (t : Vector Counts 12) (doubt : Option Nat) : CountJob :=
  { bag := 12, parts := [⟨1, t, doubt⟩], assigned := ⟨1204, 39990⟩, tolerance := 0, policy := .suspectAndDoubt }

/-- Station 1 COUNTING that job. -/
def countingWith (t : Vector Counts 12) (doubt : Option Nat) : State :=
  let s : State := dropOffice.setStation 1 { Station.atColdStart with
    state := .counting, silence := some 30
    job := some { bag := 12, portion := .whole, partner := none, complete := false, resumeAssigned := false } }
  { s with csc := { s.csc with jobs := [jobWith t doubt] } }

/-- 16,777,114 good pieces of slot 1. -/
def nearlyFull : Vector Counts 12 := tallyOf [(1, ⟨16777114, 0, 0⟩)]

/-- Every count of slot 1 at its limit. -/
def atLimit : Vector Counts 12 := tallyOf [(1, ⟨16777215, 16777215, 16777215⟩)]

/-- Station 1 COUNTING bag 12 alone, with this doubt mark. -/
def countingOffice (doubt : Option Nat) : State := countingWith nearlyFull doubt

/-- The job of that station. -/
def countingJob (doubt : Option Nat) : CountJob := jobWith nearlyFull doubt

/-- What the station holds. -/
def countingPart : StationJob := { bag := 12, portion := .whole, partner := none, complete := false, resumeAssigned := false }

/-- The station in another state with the same job. -/
def countingIn (x : StationState) : State := (countingOffice none).setStation 1 { (countingOffice none).station 1 with state := x, silence := none }

theorem countingWith_counts (t : Vector Counts 12) (doubt : Option Nat) :
    (countingWith t doubt).CountsRecords .one countingPart (jobWith t doubt) := ⟨rfl, rfl, rfl, rfl, rfl, rfl, rfl⟩

/-- A station that is not OFFLINE, told by its code. -/
theorem not_offline {x : StationState} (h : x.code ≠ .enum 0) (r : OfflineReason) : x ≠ .offline r := fun e => h (by rw [e]; rfl)

/-- A station that is not HELD, told by its code. -/
theorem not_held {x : StationState} (h : x.code ≠ .enum 4) (r : HoldReason) : x ≠ .held r := fun e => h (by rw [e]; rfl)

/-- A pool held for JAM at station 2 and for SUSPECT at station 3. -/
def poolHeld : State := pooled (pooledStation true (.held .jam) .paused [] false) (pooledStation false (.held .suspect) .paused [] false)
  emptyTally emptyTally

/-- The same pool, station 2 held for POOL with a record waiting: CLEAR STATION 3 ends the hold of both. -/
def poolWaits : State := pooled (pooledStation true (.held .pool) .paused [.strap 3 50 true] false)
  (pooledStation false (.held .suspect) .paused [] false) emptyTally emptyTally

theorem test_witness_StationRequests :
    trading.Open ∧ 4 < 5 ∧ (1 ≤ 4 ∧ 4 ≤ 4) ∧ (trading.station 4).enabled = true ∧
    ((after (.disableStation 4) trading).station 4).enabled = false ∧ (trading.station 4).state = .offline .start ∧
    ((∀ r, ((trading.setStation 4 { Station.atColdStart with state := .idle }).station 4).state ≠ .offline r) ∧
      ((trading.setStation 4 { Station.atColdStart with state := .idle }).station 4).job = none) ∧
    ((∀ r, ((countingOffice none).station 1).state ≠ .offline r) ∧ ((countingOffice none).station 1).job = some countingPart) ∧
    (∀ r, (trading.station 4).state ≠ .held r) ∧
    ((trading.setStation 4 { Station.atColdStart with state := .held .pool }).station 4).state = .held .pool ∧
    (((trading.setStation 4 { Station.atColdStart with state := .held .sequence }).station 4).state = .held .sequence ∧
      HoldReason.sequence ≠ .pool ∧ ((trading.setStation 4 { Station.atColdStart with state := .held .sequence }).station 4).job = none) ∧
    ((poolHeld.station 2).state = .held .jam ∧ (poolHeld.station 2).job.bind StationJob.partner = some 3 ∧
      (poolHeld.station 3).state = .held .suspect) ∧
    ((countingIn (.held .doubt)).Open ∧ ((countingIn (.held .doubt)).station 1).state = .held .doubt ∧
      ((countingIn (.held .doubt)).station 1).job = some countingPart ∧ countingPart.partner = none ∧ countingPart.complete = false ∧
      (countingIn (.held .doubt)).jobStations 12 = [1] ∧ ((countingIn (.held .doubt)).station 1).intake = []) ∧
    (poolWaits.Open ∧ (poolWaits.station 3).state = .held .suspect ∧ (poolWaits.station 3).job.bind StationJob.partner = some 2 ∧
      ((poolWaits.station 2).state ≠ .held .jam ∧ (poolWaits.station 2).state ≠ .held .suspect ∧
        (poolWaits.station 2).state ≠ .held .doubt) ∧
      poolWaits.jobStations 50 = [2, 3] ∧ (poolWaits.station 2).state = .held .pool ∧
      (poolWaits.station 2).job.map StationJob.resumeAssigned = some false) ∧
    (let s : State := poolWaits.endHold 2
     (s.station 2).intake = [.strap 3 50 true] ∧ (s.station 2).state = .counting) ∧
    (∀ r, ((countingOffice none).station 1).state ≠ .held r) := by
  refine ⟨?_, ?_, ?_, ?_, ?_, ?_,
    ⟨not_offline (by decide +kernel), ?_⟩, ⟨not_offline (by decide +kernel), ?_⟩,
    not_held (by decide +kernel), ?_, ?_, ?_, ?_, ?_, ?_, not_held (by decide +kernel)⟩ <;> decide +kernel

theorem test_witness_ReadyAndSealRead :
    (trading.Hears (.station .four) ∧ (trading.station 4).state = .offline .start ∧ (trading.station 4).job = none ∧
      (trading.station 4).enabled = true) ∧
    ((after (.disableStation 4) trading).station 4).enabled = false ∧
    ((∀ r, ((trading.setStation 4 { Station.atColdStart with state := .idle }).station 4).state ≠ .offline r) ∧
      ((trading.setStation 4 { Station.atColdStart with state := .idle }).station 4).job = none) ∧
    ((countingIn .assigned).Hears (.station .one) ∧ ((countingIn .assigned).station 1).state = .assigned ∧
      ((countingIn .assigned).station 1).job = some countingPart ∧ (countingIn .assigned).stationJob 1 = some (countingJob none) ∧
      ((countingIn .assigned).station 1).intake = [] ∧ ((countingIn .assigned).bag 12).bind Bag.sealNo = some 7012) ∧
    (WellFormed (stationCommand .one (.strap 255 255 true)) = true ∧ StationRecord.strap 255 255 true ≠ .ready ∧
      ∀ p, StationRecord.strap 255 255 true ≠ .sealRead p) := by
  refine ⟨by decide +kernel, by decide +kernel, ⟨not_offline (by decide +kernel), by decide +kernel⟩, by decide +kernel,
    by decide +kernel, by decide +kernel, nofun⟩

/-- Station 1 HELD with a queue of this length; and COUNTING with its portion complete. -/
def heldWith (k : Nat) : State :=
  (countingOffice none).setStation 1 { (countingOffice none).station 1 with
    state := .held .doubt, silence := none, intake := List.replicate k .jam }

/-- Its job with the portion complete. -/
def completePart : State :=
  (countingOffice none).setStation 1 { (countingOffice none).station 1 with
    silence := none, job := some { countingPart with complete := true } }

/-- 101 pieces of slot 1 are left to the limit: a strap of 100, a doubted piece; every count at the limit; 15 and 16 records of a
HELD station; a portion that is complete. -/
theorem test_witness_RecordsAreCounted :
    (countingOffice none).CountsRecords .one countingPart (countingJob none) ∧
    (countingOffice (some 6)).CountsRecords .one countingPart (countingJob (some 6)) ∧
    ((countingOffice none).slotOk 1 = true ∧ (nth default ((countingJob none).part 1).tally 1).good + 100 ≤ pieceLimit ∧
      (nth default ((countingJob none).part 1).tally 1).unfit + 100 ≤ pieceLimit ∧
      (nth default ((countingJob none).part 1).tally 1).suspect + 1 ≤ pieceLimit) ∧
    (countingOffice none).slotOk 7 = false ∧ (countingOffice none).slotOk 0 = false ∧ (countingOffice none).slotOk 6 = true ∧ 100 < 101 ∧
    ((countingJob none).part 1).doubt = none ∧ ((countingJob (some 6)).part 1).doubt = some 6 ∧
    (nth default ((countingJob (some 6)).part 1).tally 6).good + 1 ≤ pieceLimit ∧
    (nth default ((countingJob (some 6)).part 1).tally 6).suspect + 1 ≤ pieceLimit ∧
    ((countingWith atLimit none).CountsRecords .one countingPart (jobWith atLimit none) ∧
      (countingWith atLimit (some 1)).CountsRecords .one countingPart (jobWith atLimit (some 1))) ∧
    (pieceLimit < (nth default ((jobWith atLimit none).part 1).tally 1).good + 1 ∧
      pieceLimit < (nth default ((jobWith atLimit none).part 1).tally 1).unfit + 1 ∧
      pieceLimit < (nth default ((jobWith atLimit none).part 1).tally 1).suspect + 1 ∧
      ((jobWith atLimit (some 1)).part 1).doubt = some 1) ∧
    ((heldWith 15).Hears (.station .one) ∧ WellFormed (stationCommand .one (.strap 255 255 true)) = true ∧
      ((heldWith 15).station 1).state = .held .doubt ∧ ((heldWith 15).station 1).job = some countingPart ∧
      ((heldWith 15).station 1).intake.length < 16 ∧ 16 ≤ ((heldWith 16).station 1).intake.length) ∧
    (completePart.Hears (.station .one) ∧ (completePart.station 1).state = .counting ∧
      (completePart.station 1).job.map StationJob.complete = some true ∧ completePart.stationJob 1 = some (countingJob none) ∧
      (completePart.station 1).intake = [] ∧ StationRecord.jam ≠ .ready) :=
by
  refine ⟨countingWith_counts _ _, countingWith_counts _ _, ?_, ?_, ?_, ?_, ?_, ?_, ?_, ?_, ?_,
    ⟨countingWith_counts _ _, countingWith_counts _ _⟩, ?_⟩ <;> decide +kernel

theorem test_witness_HaltsAndAborts :
    (((countingOffice none).station 1).job = some countingPart ∧ ((countingOffice none).station 1).flow = .go ∧
      countingPart.partner = none ∧ (countingOffice none).phase = .running ∧
      ((countingOffice none).bag 12).map Bag.attempts = some (some 0)) ∧
    (let s : State := pooled (pooledStation true .counting .go [] false) (pooledStation false .assigned .go [] false) emptyTally emptyTally
     (s.station 2).job.bind StationJob.partner = some 3 ∧ (s.station 3).state = .assigned ∧
       (s.station 3).job.map StationJob.complete = some false) ∧
    (let s : State := pooled (pooledStation true .counting .go [] false) (pooledStation false .counting .go [] true) emptyTally emptyTally
     (s.station 2).job.bind StationJob.partner = some 3 ∧ (s.station 3).job.map StationJob.complete = some true) ∧
    ((poolHeld.station 3).state ≠ .counting ∧ (poolHeld.station 3).state ≠ .assigned) ∧
    ((poolHeld.station 2).flow = .paused ∧ (poolHeld.station 2).job.bind StationJob.partner = some 3 ∧
      ((poolHeld.setStation 3 Station.atColdStart).station 3).job = none) ∧
    (((countingOffice none).setBag 12 (some { queuedBag .office 7012 none .ordinary with state := .counting, attempts := some 1 })).bag
      12).map Bag.attempts = some (some 1) := by decide +kernel

/-- Station 3 of the example at its END, station 2 having ended. -/
theorem lastEnd_counts : lastEnd.CountsRecords .three
    { bag := 50, portion := .second, partner := some 2, complete := false, resumeAssigned := false }
    { bag := 50, parts := [⟨2, firstTally, none⟩, ⟨3, tallyOf [(1, ⟨36, 0, 1⟩)], none⟩], assigned := ⟨1204, 39990⟩, tolerance := 1000
      policy := .suspect } := ⟨rfl, rfl, rfl, rfl, rfl, rfl, rfl⟩

theorem test_witness_EndAndLinkSilence :
    (countingOffice none).CountsRecords .one countingPart (countingJob none) ∧
    (countingOffice (some 6)).CountsRecords .one countingPart (countingJob (some 6)) ∧ ((countingJob (some 6)).part 1).doubt ≠ none ∧
    emptyTally ≠ ((countingJob none).part 1).tally ∧ ((countingJob none).part 1).doubt = none ∧
    nearlyFull = ((countingJob none).part 1).tally ∧ countingPart.partner = none ∧
    ((countingOffice none).bag 12).isSome = true ∧
    (let s : State := pooled (pooledStation true .counting .go [] false) (pooledStation false .counting .go [] false) emptyTally emptyTally
     (s.station 2).state = .counting ∧ (s.station 2).job.bind StationJob.partner = some 3 ∧
       (s.station 3).job.map StationJob.complete = some false) ∧
    ((countingOffice none).station 1).silence = some 30 ∧ (trading.station 1).silence = none ∧
    ((lastEnd.station 2).job.map StationJob.complete = some true ∧ 2 ≠ StationLine.three.num ∧ (lastEnd.bag 50).isSome = true ∧
      (tallyOf [(1, ⟨36, 0, 1⟩)]).toList.all Counts.fits = true ∧ nearlyFull.toList.all Counts.fits = true ∧
      emptyTally.toList.all Counts.fits = true) ∧
    ((lastEnd.countResult { (jobWith emptyTally none) with parts := [⟨2, firstTally, none⟩, ⟨3, tallyOf [(1, ⟨36, 0, 1⟩)], none⟩] }
        800000).flag = true ∧
      lastEnd.isRoll 6 = true ∧ lastEnd.isRoll 1 = false ∧ ((countingOffice none).countResult (countingJob none) 0).tally = nearlyFull) :=
  ⟨countingWith_counts _ _, countingWith_counts _ _, by decide +kernel⟩

/-! #### The lock -/

theorem test_witness_RequestOpening :
    (trading.nowHeld.phase = .running ∧ trading.nowHeld.oc.state = .held) ∧ trading.Open ∧ 8 < 9 ∧ (1 ≤ 8 ∧ 8 ≤ 8) ∧
    trading.dualControl 3 3 = false ∧ trading.dualControl 3 1 = true ∧ trading.slc.state = .locked ∧
    ((lockIn .alarm none .shut .thrown none).Open ∧ (lockIn .alarm none .shut .thrown none).slc.state ≠ .locked) := by decide +kernel

theorem test_witness_CancelOpening :
    (let s : State := lockIn .delay (some { twoWindows with source := .collection, operators := none }) .shut .thrown (some 1)
     s.Open ∧ s.slc.state = .delay ∧ s.slc.opening.map Opening.source = some .collection) ∧
    (let s : State := lockIn .delay (some { twoWindows with mark := some .waiting }) .shut .thrown (some 1)
     s.slc.opening = some { twoWindows with mark := some .waiting } ∧ OpeningSource.office ≠ .collection) ∧
    ((lockIn .delay (some twoWindows) .shut .thrown (some 1)).slc.opening = some twoWindows ∧ twoWindows.mark ≠ some .waiting) ∧
    ((lockIn .window (some twoWindows) .shut .retracted (some 1)).Open ∧
      (lockIn .window (some twoWindows) .shut .retracted (some 1)).slc.bolt = .retracted) ∧
    ((lockIn .opened (some twoWindows) .opened .retracted none).slc.state = .opened ∧
      (lockIn .opened (some twoWindows) .opened .retracted none).slc.opening = some twoWindows) ∧
    (trading.Open ∧ trading.slc.state = .locked) ∧ (trading.nowHeld.phase = .running ∧ trading.nowHeld.oc.state = .held) := by
  decide +kernel

/-- The lock in ALARM with FORCED in its latch. -/
def alarmed (door : DoorSense) (bolt : BoltSense) : State :=
  let s : State := lockIn .alarm none door bolt none
  s.locks { s.slc with forced := true, alarm := .asserted }

theorem test_witness_ClearAlarm :
    (trading.nowHeld.phase = .running ∧ trading.nowHeld.oc.state = .held) ∧ (trading.Open ∧ trading.isSupervisor 3 = false) ∧
    (trading.isSupervisor 1 = true ∧ trading.slc.state ≠ .alarm) ∧
    ((alarmed .opened .thrown).Open ∧ (alarmed .opened .thrown).isSupervisor 1 = true ∧ (alarmed .opened .thrown).slc.state = .alarm ∧
      (alarmed .opened .thrown).slc.door = .opened) ∧
    (alarmed .shut .retracted).slc.bolt = .retracted ∧
    ((alarmed .shut .thrown).slc.door = .shut ∧ (alarmed .shut .thrown).slc.bolt = .thrown ∧ (alarmed .shut .thrown).LockLaw) :=
by
  refine ⟨?_, ?_, ?_, ?_, ?_, ?_, ?_, ?_⟩
  all_goals first
    | decide +kernel
    | constructor <;> decide +kernel

/-- A courier that waits for the collection window of the example, the lock in DELAY. -/
def courierWaits : State :=
  let s : State := (collection 51400 .inHandover .sealed .sealed .expected .expected).locks
    (lockIn .delay (some { twoWindows with source := .collection, operators := none, windows := 1, mark := some .waiting }) .shut .thrown
      (some 100)).slc
  { s with chu := { s.chu with handover := some { scanningRecord 0 [] with stage := .verified, step := none } } }

theorem test_witness_SensesAndTimersMoveTheLock :
    (trading.phase = .running ∧ trading.slc.door = .shut) ∧
    (let s : State := lockIn .window (some twoWindows) .shut .retracted (some 1)
     s.phase = .running ∧ s.slc.state = .window ∧ s.slc.opening = some twoWindows ∧ s.slc.door = .shut ∧ s.slc.bolt = .retracted) ∧
    (let s : State := lockIn .opened (some twoWindows) .opened .retracted none
     s.slc.state = .opened ∧ s.slc.opening = some twoWindows ∧ s.slc.door = .opened ∧ s.slc.bolt = .retracted) ∧
    (trading.slc.state = .locked ∧ trading.slc.opening = none ∧ trading.slc.pendingCollection = false ∧ trading.slc.bolt = .thrown ∧
      trading.slc.slot = .clear ∧ trading.br.drops.length < 4) ∧
    (let s : State := lockIn .securing (some { twoWindows with windows := 1 }) .shut .retracted (some 1)
     s.slc.state = .securing ∧ s.slc.opening = some { twoWindows with windows := 1 } ∧ s.slc.pendingCollection = false ∧
       s.slc.bolt = .retracted ∧ twoWindows.mark = none) ∧
    (trading.locks { trading.slc with slot := .occupied }).slc.slot = .occupied ∧
    (let s : State := lockIn .delay (some twoWindows) .shut .thrown (some 0)
     s.slc.state = .delay ∧ s.slc.opening = some twoWindows) ∧
    (trading.slc.state ≠ .delay ∧ trading.slc.state ≠ .window ∧ trading.slc.state ≠ .securing) := by decide +kernel

/-- The same of the clauses on ALARM, SECURING, DELAY, on a courier that waits, on windows left and on a full list of drops. -/
theorem test_witness_SensesAndTimersMoveTheLock_more :
    (let s : State := alarmed .shut .thrown
     s.phase = .running ∧ s.slc.door = .shut ∧ s.slc.state = .alarm ∧ s.slc.forced = true ∧ s.slc.bolt = .thrown ∧
       s.slc.boltFault = false) ∧
    (let s : State := lockIn .alarm none .opened .retracted none
     let s : State := s.locks { s.slc with boltFault := true, alarm := .asserted }
     (s.slc.door = .opened ∧ s.slc.state ≠ .opened) ∧ (s.slc.bolt = .retracted ∧ s.slc.state ≠ .securing) ∧
       (s.locks { s.slc with door := .shut }).slc.forced = false ∧ (s.locks { s.slc with bolt := .thrown }).slc.boltFault = true) ∧
    (courierWaits.phase = .running ∧ courierWaits.slc.door = .shut ∧ courierWaits.slc.bolt = .thrown ∧
      courierWaits.slc.state = .delay ∧ courierWaits.slc.opening.bind Opening.mark = some .waiting ∧
      courierWaits.chu.handover.map Handover.stage = some .verified) ∧
    (let s : State := lockIn .opened (some twoWindows) .opened .thrown none
     s.slc.state = .opened ∧ s.slc.door = .opened ∧ s.slc.bolt = .thrown) ∧
    (let s : State := lockIn .window (some twoWindows) .shut .thrown (some 0)
     s.slc.state = .window ∧ s.slc.opening = some twoWindows ∧ s.slc.bolt = .thrown) ∧
    (2 ≤ twoWindows.windows ∧ twoWindows.delayLen ≠ 0 ∧ ({ twoWindows with delayLen := 0 } : Opening).delayLen = 0 ∧
      ({ twoWindows with windows := 1 } : Opening).windows ≤ 1) ∧
    (trading.profile.collectionDelay ≠ 0 ∧
      (trading.under { trading.oc.profileA with collectionDelay := 0 }).profile.collectionDelay = 0) ∧
    (let s : State := { trading with br := { trading.br with drops := List.replicate 4 { began := ⟨1204, 39999⟩, wait := 1 } } }
     s.phase = .running ∧ s.slc.slot = .clear ∧ 4 ≤ s.br.drops.length) := by decide +kernel

/-- A door forced while the courier waits: the alarm, the handover abandoned for LOCK (R138, R163). -/
theorem test_forced_while_courier_waits :
    let t := after (.doorSenseChange .opened) courierWaits
    t.slc.state = .alarm ∧ t.slc.forced = true ∧ t.chu.handover = none ∧ t.sent = [.toDock (.done (some .lock))] := by
  decide +kernel

/-! #### Consignments and the courier -/

/-- An unattached SEALED bag in slot 0, an unattached EXPECTED one in slot 1, a consignment with lists of this length. -/
def loose (c : ConsignmentState) (k : Nat) : State :=
  ((trading.setBag 0 (some { outBag .sealed 1 ⟨1, 1, .working⟩ 5000 with consignment := none })).setBag 1
    (some { inBag .expected 2 0 with consignment := none })).setConsignment 8
      { state := c, outbound := List.replicate k 99, inbound := List.replicate k 98, schedule := none }

/-- All eight consignments OPEN. -/
def eightOpen : State :=
  { trading with chu := { trading.chu with consignments := Vector.replicate 8 { Consignment.atColdStart with state := .opened } } }

/-- The example's consignment 3 OPEN, and consignment 1 SCHEDULED on route 22 for the same hours. -/
def rivalOffice (r : Nat) : State :=
  (collection 45000 .opened .sealed .sealed .expected .expected).setConsignment 1
    { state := .scheduled, outbound := [], inbound := [], schedule := some ⟨1, r, ⟨1210, 50000⟩, ⟨1210, 50401⟩⟩ }

theorem test_witness_ConsignmentLife :
    ready.Open ∧ ready.oc.state = .unconfigured ∧ (eightOpen.Open ∧ ∀ c, 1 ≤ c → c ≤ 8 → (eightOpen.consignment c).state ≠ .free) ∧
    (trading.Open ∧ (trading.consignment 1).state = .free ∧ ∀ m, 1 ≤ m → m < 1 → (trading.consignment m).state ≠ .free) ∧
    ((rivalOffice 22).Open ∧ 65535 ≤ 65535 ∧ (⟨1210, 50400⟩ : OfficeTime).before ⟨1210, 54000⟩ = true ∧
      (rivalOffice 22).oc.clock.before ⟨1210, 54000⟩ = true ∧ ((rivalOffice 22).consignment 8).state = .free ∧
      ((rivalOffice 22).consignment 3).state = .opened ∧ ((rivalOffice 22).consignment 3).outbound ≠ [] ∧
      ∀ b ∈ ((rivalOffice 22).consignment 3).outbound, ((rivalOffice 22).bag b).map Bag.state ≠ some .assembling) ∧
    (((rivalOffice 22).consignment 1).schedule = some ⟨1, 22, ⟨1210, 50000⟩, ⟨1210, 50401⟩⟩ ∧
      (⟨1210, 50000⟩ : OfficeTime).before ⟨1210, 54000⟩ = true ∧ (⟨1210, 50400⟩ : OfficeTime).before ⟨1210, 50401⟩ = true ∧
      ∀ m j, 1 ≤ m → m < 1 → m ≠ 3 →
        ((rivalOffice 22).consignment m).state = .scheduled ∨ ((rivalOffice 22).consignment m).state = .inHandover →
        ((rivalOffice 22).consignment m).schedule = some j → j.route = 22 → j.earliest.before ⟨1210, 54000⟩ = true →
        (⟨1210, 50400⟩ : OfficeTime).before j.latest = false) ∧
    (∀ q k, 1 ≤ q → q ≤ 8 → q ≠ 3 →
      ((rivalOffice 23).consignment q).state = .scheduled ∨ ((rivalOffice 23).consignment q).state = .inHandover →
      ((rivalOffice 23).consignment q).schedule = some k → k.route = 22 → k.earliest.before ⟨1210, 54000⟩ = true →
      (⟨1210, 50400⟩ : OfficeTime).before k.latest = false) ∧
    ((rivalOffice 22).oc.clock.before ⟨1210, 45000⟩ = false ∧ (⟨1210, 50400⟩ : OfficeTime).before ⟨1210, 50400⟩ = false) ∧
    ((collection 1 .inHandover .sealed .sealed .expected .expected).consignment 3).state = .inHandover ∧
    ((collection 1 .done .sealed .sealed .expected .expected).consignment 3).state = .done ∧
    ((collection 1 .missed .sealed .sealed .expected .expected).Open ∧
      ((collection 1 .missed .sealed .sealed .expected .expected).consignment 3).state = .missed) := by
  refine ⟨?_, ?_, ?_, ?_, ?_, ⟨?_, ?_, ?_, fun m _ h1 h2 => absurd h2 (by omega)⟩, fun q k _ _ _ _ hk hr => ?_, by decide +kernel⟩
  all_goals try decide +kernel
  have only : ∀ q, q < 9 → q ≠ 3 → ((rivalOffice 23).consignment q).schedule.map Schedule.route ≠ some 22 := by decide +kernel
  exact absurd (by rw [hk]; simp [hr]) (only q (by omega) ‹_›)

/-- Consignment 1 SCHEDULED on another route, and 2 on this one: 2 is the first that overlaps (R157). -/
def secondRival : State :=
  (rivalOffice 23).setConsignment 2 { state := .scheduled, outbound := [], inbound := [], schedule := some ⟨1, 22, ⟨1210, 50000⟩, ⟨1210, 50401⟩⟩ }

/-- A consignment without a bag; one with an ASSEMBLING bag behind a SEALED one; a lower-numbered one on another route. -/
theorem test_witness_ConsignmentLife_tests :
    (((loose .missed 0).Open ∧ ((loose .missed 0).consignment 8).state = .missed ∧ ((loose .missed 0).consignment 8).outbound = [] ∧
      ((loose .missed 0).consignment 8).inbound = []) ∧
     (let s : State := collection 45000 .opened .sealed .assembling .expected .expected
      s.Open ∧ (s.consignment 3).state = .opened ∧ (s.consignment 3).outbound = [81] ++ 82 :: [] ∧
        (∀ q ∈ [81], (s.bag q).map Bag.state ≠ some .assembling) ∧ (s.bag 82).map Bag.state = some .assembling) ∧ 8 < 9) ∧
    (secondRival.Open ∧ (secondRival.consignment 2).state = .scheduled ∧
      (secondRival.consignment 2).schedule = some ⟨1, 22, ⟨1210, 50000⟩, ⟨1210, 50401⟩⟩ ∧
      (secondRival.consignment 1).state = .scheduled ∧
      ∀ m j, 1 ≤ m → m < 2 → m ≠ 3 →
        (secondRival.consignment m).state = .scheduled ∨ (secondRival.consignment m).state = .inHandover →
        (secondRival.consignment m).schedule = some j → j.route = 22 → j.earliest.before ⟨1210, 54000⟩ = true →
        (⟨1210, 50400⟩ : OfficeTime).before j.latest = false) := by
  refine ⟨by decide +kernel, by decide +kernel, by decide +kernel, by decide +kernel, by decide +kernel, fun m j h1 h2 _ _ hj hr => ?_⟩
  obtain rfl : m = 1 := by omega
  have e : (secondRival.consignment 1).schedule.map Schedule.route = some 23 := by decide +kernel
  rw [hj] at e
  simp [hr] at e

/-- DUPLICATE names it (R157). -/
theorem test_duplicate_names_the_route :
    answer (.scheduleCollection 3 417 22 ⟨1210, 50400⟩ ⟨1210, 54000⟩) secondRival = some (some .duplicate, [.byte 2]) := by
  decide +kernel

/-- The assembly limits of the example to the piece: 200 of slot 1, 35 of slot 4; 201 are SHORT. -/
def assemblyOffice (k : Nat) : State :=
  ((trading.stock 1 (stocked 200 0 0 0)).stock 4 (stocked 120 0 35 0)).setConsignment 8
    { state := .scheduled, outbound := List.replicate k 99, inbound := [], schedule := some default }

theorem test_witness_OutboundBags :
    ((assemblyOffice 23).Open ∧ (assemblyOffice 23).assemblyLinesOk [⟨4, 35, 1⟩, ⟨1, 200, 0⟩] = true ∧
      ((assemblyOffice 23).consignment 8).state = .scheduled ∧ ((assemblyOffice 23).consignment 8).outbound.length < 24 ∧
      (assemblyOffice 23).st.reservations.length < 16 ∧ (assemblyOffice 23).freeGeneral = some 0 ∧
      ∀ l ∈ contentLines [⟨4, 35, 1⟩, ⟨1, 200, 0⟩], l.pieces ≤ (assemblyOffice 23).assemblyLimit l.source l.slot) ∧
    ((assemblyOffice 0).assemblyLinesOk [⟨1, 201, 0⟩] = true ∧ ⟨1, 201, .working⟩ ∈ contentLines [⟨1, 201, 0⟩] ∧
      (assemblyOffice 0).assemblyLimit .working 1 < 201 ∧
      ∀ m ∈ contentLines [⟨1, 201, 0⟩], m.slot < 1 → m.pieces ≤ (assemblyOffice 0).assemblyLimit m.source m.slot) ∧
    (assembledBag.Open ∧ (assembledBag.bag 0).map Bag.kind = some .outbound ∧ (assembledBag.bag 0).map Bag.state = some .assembling ∧
      (assembledBag.setBag 1 (some (queuedBag .office 7 none .ordinary))).sealLive 7 = true ∧ assembledBag.sealLive 4294967295 = false ∧
      (assembledBag.bag 0).map Bag.lines = some [⟨1, 40, .working⟩, ⟨4, 30, .unfit⟩] ∧
      ∀ l ∈ [(⟨1, 40, .working⟩ : ContentLine), ⟨4, 30, .unfit⟩], (assembledBag.slot l.slot).dispatch + l.pieces ≤ pieceLimit) ∧
    (pieceLimit < ((assembledBag.stock 1 (stocked 200 0 0 16777176)).slot 1).dispatch + 40) ∧
    (let s : State := assembledBag.stock 4 (stocked 120 0 35 16777186)
     s.Open ∧ s.sealLive 4294967295 = false ∧ (s.bag 0).map Bag.lines = some ([⟨1, 40, .working⟩] ++ ⟨4, 30, .unfit⟩ :: []) ∧
       (s.slot 1).dispatch + 40 ≤ pieceLimit ∧ pieceLimit < (s.slot 4).dispatch + 30) ∧
    (let s : State := sealedBag.stock 4 (stocked 120 0 16777186 30)
     s.Open ∧ s.isSupervisor 1 = true ∧ (s.consignment 2).state ≠ .inHandover ∧
       (s.bag 0).map Bag.lines = some ([⟨1, 40, .working⟩] ++ ⟨4, 30, .unfit⟩ :: []) ∧
       (s.slot 1).working + 40 ≤ pieceLimit ∧ pieceLimit < (s.slot 4).unfit + 30) ∧
    (dropOffice.Open ∧ (dropOffice.bag 15).map Bag.kind = some .pickup) ∧
    (sealedBag.Open ∧ (sealedBag.bag 0).map Bag.state = some .sealed ∧ sealedBag.isSupervisor 3 = false ∧ sealedBag.isSupervisor 1 = true ∧
      (sealedBag.bag 0).bind Bag.consignment = some 2 ∧ (sealedBag.consignment 2).state ≠ .inHandover ∧
      ∀ l ∈ [(⟨1, 40, .working⟩ : ContentLine), ⟨4, 30, .unfit⟩],
        (if l.source = .working then (sealedBag.slot l.slot).working else (sealedBag.slot l.slot).unfit) + l.pieces ≤ pieceLimit) ∧
    (let s : State := sealedBag.setConsignment 2 { state := .inHandover, outbound := [0], inbound := [], schedule := some default }
     (s.consignment 2).state = .inHandover) ∧ (1 ≤ 12 ∧ 12 ≤ 12) := by decide +kernel

/-- The tests of the four requests that refuse, each with the state or the operand that fails it; the lines of the example, which
name a slot and a source once each. -/
theorem test_witness_OutboundBags_refused :
    let s (x : ConsignmentState) : State := (assemblyOffice 23).setConsignment 8 { (assemblyOffice 23).consignment 8 with state := x }
    let full : State := { assemblyOffice 23 with br := { (assemblyOffice 23).br with bags := Vector.replicate 256 (some default) } }
    let ls : List AssemblyLine := [⟨4, 35, 1⟩, ⟨1, 200, 0⟩]
    ((assemblyOffice 23).Open ∧ 8 < 9 ∧ (assemblyOffice 23).assemblyLinesOk [⟨7, 1, 0⟩] = false ∧
      (assemblyOffice 23).assemblyLinesOk [⟨6, 1, 2⟩] = false ∧ (assemblyOffice 23).assemblyLinesOk ls = true) ∧
    (∀ x ∈ [ConsignmentState.free, .inHandover, .done, .missed, .cancelled],
      (s x).Open ∧ (s x).assemblyLinesOk ls = true ∧ ((s x).consignment 8).state = x) ∧
    (24 ≤ ((assemblyOffice 24).consignment 8).outbound.length ∧ full.freeGeneral = none ∧ (full.consignment 8).state = .scheduled ∧
      16 ≤ ({ assemblyOffice 23 with st := { (assemblyOffice 23).st with reservations := List.replicate 16 default } } :
        State).st.reservations.length) ∧
    ((ls.map AssemblyLine.slot).Nodup ∧ (∀ l ∈ ls, l.source ≤ 1) ∧ (∀ l ∈ contentLines ls, 1 ≤ l.slot)) ∧
    (assembledBag.Open ∧ 255 < 256 ∧ sealLimit < 4294967296 ∧ assembledBag.bag 255 = none ∧ sealedBag.Open ∧
      sealedBag.bag 255 = none ∧ sealedBag.isSupervisor 3 = false ∧ sealedBag.isSupervisor 1 = true) ∧
    ((sealedBag.bag 0).map Bag.state ≠ some .assembling ∧ (assembledBag.bag 0).map Bag.state ≠ some .sealed ∧
      (dropOffice.bag 15).map Bag.kind ≠ some .outbound) ∧
    (([⟨1, 40, .working⟩, ⟨4, 30, .unfit⟩, ⟨4, 5, .working⟩] : List ContentLine).map fun l => (l.slot, l.source)).Nodup := by
  decide +kernel

theorem test_witness_BagsJoinAConsignment :
    ((loose .missed 23).Open ∧ ((loose .missed 23).consignment 8).state = .missed ∧
      (loose .missed 23).bag 0 = some { outBag .sealed 1 ⟨1, 1, .working⟩ 5000 with consignment := none } ∧
      (loose .missed 23).bag 1 = some { inBag .expected 2 0 with consignment := none } ∧
      ((loose .missed 23).consignment 8).outbound.length < 24 ∧ ((loose .missed 23).consignment 8).inbound.length < 24) ∧
    (24 ≤ ((loose .missed 24).consignment 8).outbound.length ∧ 24 ≤ ((loose .missed 24).consignment 8).inbound.length) ∧
    ((collection 1 .opened .sealed .sealed .expected .expected).bag 81).bind Bag.consignment ≠ none ∧
    ((loose .free 0).consignment 8).state = .free ∧ ((loose .inHandover 0).consignment 8).state = .inHandover ∧
    ((loose .cancelled 0).consignment 8).state = .cancelled ∧ (loose .opened 23).sealLive 1 = true ∧
    ((loose .opened 23).sealLive 4294967295 = false ∧ (loose .opened 23).freeGeneral = some 2) ∧ fullRegister.freeGeneral = none ∧
    8 < 9 ∧ (trading.nowHeld.phase = .running ∧ trading.nowHeld.oc.state = .held ∧ 255 < 256) ∧
    ((loose .opened 0).Open ∧ (loose .opened 0).bag 255 = none) ∧
    (∀ x ∈ [queuedBag .office 9 none .ordinary, inBag .received 9 5, outBag .scanned 9 ⟨1, 1, .working⟩ 5000],
      ({ x with consignment := none } : Bag).consignment = none ∧ ¬ (x.kind = .outbound ∧ x.state = .sealed) ∧
        ¬ (x.kind = .inbound ∧ x.state = .expected)) ∧
    ((loose .done 0).Open ∧ ((loose .done 0).consignment 8).state = .done ∧ (loose .done 0).bag 1 = (loose .missed 23).bag 1) := by
  decide +kernel

/-- A SCHEDULED consignment at its earliest second, with the lock as given. -/
def dockOffice (l : Slc) : State := (collection 50400 .scheduled .sealed .sealed .expected .expected).locks l

/-- The same consignment at another second of its day. -/
def offWindow (sec : Nat) : State := collection sec .scheduled .sealed .sealed .expected .expected

theorem test_witness_PresentBeginsAHandover :
    65535 < 65536 ∧ (trading.nowHeld.Hears .dock ∧ trading.nowHeld.oc.state = .held) ∧ ready.oc.state = .unconfigured ∧
    (trading.oc.state ≠ .held ∧ trading.oc.state ≠ .unconfigured ∧ trading.chu.handover = none) ∧
    (∀ c, (trading.consignment c).state = .scheduled → (trading.consignment c).schedule.map Schedule.route ≠ some 22) ∧
    (let s : State := dockOffice trading.slc
     (s.consignment 3).state = .scheduled ∧ (s.consignment 3).schedule = some ⟨417, 22, ⟨1210, 50400⟩, ⟨1210, 54000⟩⟩ ∧
     s.oc.clock.before ⟨1210, 50400⟩ = false ∧ s.oc.clock.before ⟨1210, 54000⟩ = true ∧
     (∀ m < 3, (s.consignment m).state = .scheduled → (s.consignment m).schedule.map Schedule.route = some 22 → s.inWindow m = false) ∧
     s.slc.state = .locked ∧ s.slc.opening = none ∧ s.slc.pendingCollection = false ∧ 1 ≤ s.profile.collectionDelay) ∧
    ((dockOffice (alarmed .shut .thrown).slc).slc.state = .alarm ∧ (dockOffice (alarmed .shut .thrown).slc).slc.opening = none) ∧
    ((dockOffice (lockIn .opened (some twoWindows) .opened .retracted none).slc).slc.opening = some twoWindows ∧ twoWindows.mark = none) ∧
    (lawful.chu.handover.map Handover.stage = some .scanning ∧ lawful.Hears .dock) ∧
    (((offWindow 50399).consignment 3).state = .scheduled ∧
      ((offWindow 50399).consignment 3).schedule.map Schedule.route = some 22 ∧
      (offWindow 50399).oc.clock.before ⟨1210, 50400⟩ = true ∧ (offWindow 54000).oc.clock.before ⟨1210, 54000⟩ = false ∧
      (offWindow 50399).Hears .dock ∧ (offWindow 50399).chu.handover = none) ∧
    ((dockOffice (alarmed .shut .thrown).slc).collectionRequest.2 = .refused ∧
      CollectionAnswer.wait ≠ .refused ∧ CollectionAnswer.reached ≠ .refused) ∧
    (let lock (x : LockState) (m : Option CollectionMark) : Slc := (lockIn x (some { twoWindows with mark := m }) .shut .thrown none).slc
     (lock .delay (some .waiting)).opening.bind Opening.mark = some .waiting ∧
       (lock .window (some .told)).opening.bind Opening.mark = some .told ∧
       ({ lock .securing none with pendingCollection := true } : Slc).pendingCollection = true ∧
       (lock .delay none).opening = some twoWindows ∧ (lock .delay none).pendingCollection = false ∧
       (lock .delay none).state = .delay ∧ (lock .securing none).state = .securing) ∧
    (let s : State := trading.under { trading.oc.profileA with collectionDelay := 0 }
     s.slc.state = .locked ∧ s.slc.opening = none ∧ s.slc.pendingCollection = false ∧ s.profile.collectionDelay = 0 ∧
       s.chu.handover = none) := by
  refine ⟨by decide, by decide +kernel, by decide +kernel, by decide +kernel, ?_, by decide +kernel⟩
  exact nth_all (fun x : Consignment => x.state = .scheduled → x.schedule.map Schedule.route ≠ some 22) _ _
    (by decide +kernel) (by decide +kernel)

/-- PRESENT too early is REFUSE STATE; at the earliest second with the lock in DELAY, and in SECURING, it waits; in LOCKED with a
collection delay of 0 it gets GO (R137, R162). -/
theorem test_present_by_lock :
    let p (s : State) : Slc × List SentRecord := ((after (.present 417 22 .sound) s).slc, (after (.present 417 22 .sound) s).sent.drop s.sent.length)
    (p (offWindow 50399)).2 = [.toDock (.refuse .state)] ∧
    (let l : Slc := (lockIn .delay (some twoWindows) .shut .thrown (some 7)).slc
     p (dockOffice l) = ({ l with opening := some { twoWindows with mark := some .waiting } },
       [.toDock (.acceptPresent 3 2 2), .toDock .waitSafe])) ∧
    (let l : Slc := (lockIn .securing (some twoWindows) .shut .retracted (some 7)).slc
     p (dockOffice l) = ({ l with pendingCollection := true }, [.toDock (.acceptPresent 3 2 2), .toDock .waitSafe])) ∧
    (let s : State := dockOffice trading.slc
     (p (s.under { s.oc.profileA with collectionDelay := 0 })).2 = [.toDock (.acceptPresent 3 2 2), .toDock .go]) := by
  decide +kernel

/-- The example's handover at a stage. -/
def dockStage (h : Handover) (b81 b82 b83 b84 : BagState) : State :=
  let s : State := collection 51400 .inHandover b81 b82 b83 b84
  { s with chu := { s.chu with handover := some h } }

/-- The handover with an ASSEMBLING and a LOST bag in its lists, a bag of another consignment, an unattached one and a pickup. -/
def foreignOffice : State :=
  let s : State := dockStage (scanningRecord 1 []) .assembling .sealed .lost .expected
  let s : State := s.setBag 5 (some { outBag .sealed 7011 ⟨1, 1, .working⟩ 5000 with consignment := some 8 })
  (s.setBag 6 (some { inBag .expected 7012 100 with consignment := none })).setBag 7
    (some (queuedBag .pickup 7013 (some 40) .ordinary))

/-- Each of their seals is foreign: REFUSE ABSENT, and the foreign count is 2 (R164). -/
theorem test_foreign_seals :
    ∀ q ∈ [700101, 900001, 7011, 7012, 7013],
      (after (.scan q .sound) foreignOffice).sent.drop foreignOffice.sent.length = [.toDock (.refuse .absent)] ∧
      (after (.scan q .sound) foreignOffice).chu.handover.map Handover.foreign = some 2 := by decide +kernel

theorem test_witness_ScanAndConfirm :
    (trading.Hears .dock ∧ trading.oc.state ≠ .held ∧ trading.oc.state ≠ .unconfigured ∧ trading.chu.handover = none ∧
      4294967295 < 4294967296) ∧
    (dockStage { scanningRecord 0 [] with stage := .verified } .sealed .sealed .expected .expected).chu.handover.map Handover.stage =
      some .verified ∧
    (let s : State := dockStage (scanningRecord 0 [83]) .sealed .scanned .received .expected
     s.Hears .dock ∧ s.chu.handover = some (scanningRecord 0 [83]) ∧ (scanningRecord 0 [83]).stage = .scanning ∧
     s.liveSeal 700101 = some (81, outBag .sealed 700101 ⟨1, 40, .working⟩ 200000) ∧
     s.liveSeal 700102 = some (82, outBag .scanned 700102 ⟨4, 30, .unfit⟩ 30000) ∧
     s.liveSeal 900001 = some (83, inBag .received 900001 500000) ∧ s.liveSeal 900002 = some (84, inBag .expected 900002 250000) ∧
     81 ∈ (s.consignment 3).outbound ∧ 84 ∈ (s.consignment 3).inbound ∧ s.liveSeal 4294967295 = none ∧ s.toScan 3 ≠ 0) ∧
    ((scanningRecord 1 []).foreign < 2 ∧ 2 ≤ (scanningRecord 2 []).foreign) ∧
    (let s : State := foreignOffice
     s.Hears .dock ∧ s.chu.handover = some (scanningRecord 1 []) ∧
       s.liveSeal 700101 = some (81, outBag .assembling 700101 ⟨1, 40, .working⟩ 200000) ∧
       s.liveSeal 900001 = some (83, inBag .lost 900001 500000) ∧
       s.liveSeal 7011 = some (5, { outBag .sealed 7011 ⟨1, 1, .working⟩ 5000 with consignment := some 8 }) ∧
       s.liveSeal 7012 = some (6, { inBag .expected 7012 100 with consignment := none }) ∧
       s.liveSeal 7013 = some (7, queuedBag .pickup 7013 (some 40) .ordinary) ∧
       5 ∉ (s.consignment 3).outbound ∧ 6 ∉ (s.consignment 3).inbound) ∧
    (let s : State := dockStage (scanningRecord 0 [83]) .scanned .scanned .received .expected
     s.toScan 3 = 0 ∧ s.bagsIn (s.consignment 3).outbound .scanned = [81, 82] ∧ s.bagsIn [83] .received = [83] ∧
       s.bagsIn (s.consignment 3).inbound .expected = [84]) ∧
    (let s : State := dockStage (scanningRecord 0 [84, 83]) .scanned .scanned .received .received
     s.toScan 3 = 0 ∧ s.bagsIn (s.consignment 3).inbound .expected = []) :=
  ⟨by decide +kernel, by decide +kernel, by decide +kernel, by decide +kernel⟩

theorem test_witness_HandoverIsAbandoned :
    (let s : State := dockStage (scanningRecord 0 [83]) .scanned .sealed .received .expected
     s.Hears .dock ∧ s.oc.state ≠ .held ∧ s.oc.state ≠ .unconfigured ∧ s.chu.handover = some (scanningRecord 0 [83]) ∧
     (scanningRecord 0 [83]).step = some 60 ∧ AbandonReason.foreign ≠ .restart ∧ s.slc.state ≠ .delay ∧ (s.bag 81).isSome = true) ∧
    (dockStage { scanningRecord 0 [] with stage := .verified } .sealed .sealed .expected .expected).chu.handover.map Handover.stage =
      some .verified ∧
    (trading.phase = .running ∧ trading.chu.handover = none ∧ trading.chu.handover.bind Handover.step = none) ∧
    (let s : State := (dockStage { scanningRecord 0 [] with stage := .verified } .sealed .sealed .expected .expected).locks
       (lockIn .delay (some { twoWindows with source := .collection }) .shut .thrown (some 5)).slc
     s.slc.state = .delay ∧ s.slc.opening = some { twoWindows with source := .collection } ∧
       s.oc.clock.before ⟨1210, 54000⟩ = true ∧ (⟨1210, 54000⟩ : OfficeTime).before ⟨1210, 54000⟩ = false ∧
       ((s.consignment 3).schedule.getD default).latest = ⟨1210, 54000⟩) ∧
    (courierWaits.slc.state = .delay ∧ courierWaits.slc.opening.bind Opening.mark = some .waiting ∧
      (courierWaits.locks { courierWaits.slc with opening := some { twoWindows with mark := some .waiting } }).slc.opening.map
        Opening.source = some .office) ∧
    (acceptsFrame .dock 33 [1] = false ∧ acceptsFrame .dock 36 [] = true ∧
      acceptsFrame .dock 255 [1, 2, 3, 4, 5, 6, 7, 8] = true ∧ (36 ≠ 32 ∧ 36 ≠ 33 ∧ 36 ≠ 34 ∧ 36 ≠ 35)) ∧
    (FailsCheck .dock (startMarker :: (bytesOfNat 1 0 ++ bytesOfNat 1 34 ++ [] ++ [0, 0])) ∧ FailsCheck .dock [startMarker, 9, 34] ∧
      FailsCheck (.station .one) (startMarker :: (bytesOfNat 1 1 ++ bytesOfNat 1 21 ++ [2] ++ crcBytes [1, 21, 2]))) ∧
    ((0x7F#8 ≠ startMarker) ∧ trading.receiver .dock = Receiver.rest ∧
      (trading.setReceiver .dock Receiver.hunt).receiver .dock = Receiver.hunt ∧
      (trading.setReceiver (.station .four) Receiver.hunt).receiver (.station .four) = Receiver.hunt ∧
      ((trading.setReceiver .slotReader { bytes := [0x7E], hunting := false }).receiver .slotReader).bytes ≠ []) :=
by
  refine ⟨?_, ?_, ?_, ?_, ?_, ?_,
    ⟨Or.inl ⟨34, [], [0, 0], by decide +kernel, by decide +kernel, by decide +kernel, rfl, by decide +kernel⟩,
      Or.inr ⟨9, 34, by decide +kernel, by decide +kernel, by decide +kernel⟩,
      Or.inl ⟨21, [2], crcBytes [1, 21, 2], by decide +kernel, by decide +kernel, by decide +kernel, rfl, by decide +kernel⟩⟩,
    ?_⟩ <;> decide +kernel

/-! #### The host line and the board -/

theorem test_witness_HostLineEvents :
    (trading.phase = .running ∧ 2097151 < 2097152 ∧ 2097152 ≤ 2097152 ∧ trading.hli.rx = []) ∧
    (({ trading with hli := { trading.hli with rx := [0x7E] } } : State).hli.rx ≠ []) ∧ trading.hli.tx = .idle ∧
    (let s : State := { trading with hli := { trading.hli with tx := .reply default, spacing := true } }
     s.hli.tx = .reply default ∧ s.hli.spacing = true ∧ ∀ n ∈ [(default : Notice)], ∀ q ∈ [true, false], s.hli.tx ≠ .notice n q) ∧
    State.reset.hli.tx = .notice Notice.restartCold true ∧ trading.hli.spacing = false ∧
    (NoticeKind.tillReconciled.num - 128 < 24 ∧ trading.hli.mask.getLsbD (NoticeKind.tillReconciled.num - 128) = false ∧
      (BitVec.allOnes 24).getLsbD (NoticeKind.tillReconciled.num - 128) = true ∧
      (List.replicate 31 (default : Notice)).length < 32 ∧ 32 ≤ (List.replicate 32 (default : Notice)).length ∧
      ({ trading with phase := .stopping } : State).phase ≠ .running ∧ trading.oc.deferred.length < 32) ∧
    (((List.replicate 7 (default : Reply)).filter fun r => !r.holdsPlace).length < 8 ∧
      8 ≤ ((List.replicate 8 (default : Reply)).filter fun r => !r.holdsPlace).length) := by decide +kernel

theorem test_witness_ControlledStop :
    trading.phase = .running ∧ ({ trading with phase := .off } : State).phase ≠ .running ∧
    ({ trading with phase := .inReset } : State).phase = .inReset ∧ ({ trading with phase := .stopped } : State).phase = .stopped ∧
    (stockExample.till 7).state = .composed ∧
    (stockExample.till 7).pending = some { prior := .closed, requested := 18000, composed := 18000, reduced := false } ∧
    stockExample.phase = .running ∧ (stockExample.till 96).state ≠ .composed := by decide +kernel

theorem test_witness_StartsAndWarmRestart :
    (let s : State := { alarmed .opened .retracted with phase := .starting }
     s.phase = .starting ∧ s.pins.powerFail = false ∧ s.valid = true ∧ s.slc.forced = true) ∧
    (let s : State := { trading with phase := .starting }
     s.phase = .starting ∧ s.pins.powerFail = false ∧ s.valid = true ∧ s.slc.forced = false ∧ s.slc.boltFault = false) ∧
    (trading.phase ≠ .starting ∧ ({ trading with valid := false } : State).valid = false) ∧
    (∃ missed : Nat → Bool, ∀ c, missed c = true ↔
      (courierWaits.consignment c).state = .scheduled ∧ courierWaits.chu.handover.map Handover.consignment ≠ some c ∧
        courierWaits.early c = false) :=
  ⟨by decide +kernel, by decide +kernel, by decide +kernel, _, fun _ => decide_eq_true_iff⟩

end Sys2Proof.Machine
end

section
/-! PROOFS. The view: what the laws of the device speak of, read from the state as functions of the record numbers; and what each
update of one record makes of it. -/

namespace Sys2Proof.Machine

/-- A bag record with the fields that no law reads blanked. -/
def Bag.core (x : Bag) : Bag :=
  { x with declared := none, result := none, attempts := none, queueClass := none, bypass := none, changed := default }

/-- What the laws read of a station: its assigned bag, its state, its enabled mark. -/
structure Duty where
  bag     : Option Nat
  state   : StationState
  enabled : Bool

/-- The duty of a station. -/
def Station.duty (x : Station) : Duty := { bag := x.job.map StationJob.bag, state := x.state, enabled := x.enabled }

/-- What the laws of the device read of the state. -/
structure View where
  denoms       : List Denom
  slot         : Nat → StockSlot
  reservations : List Reservation
  held         : List Nat
  till         : Nat → Till
  due          : List Nat
  bag          : Nat → Option Bag
  priority     : List Nat
  ordinary     : List Nat
  jobs         : List Nat
  duty         : Nat → Duty
  received     : List Nat
  outbound     : Nat → List Nat
  inbound      : Nat → List Nat
  totals       : Totals
  office       : OfficeState
  summary      : Option DaySummary
  operators    : List Operator
  profileA     : Profile
  profileB     : Profile
  profile      : Profile

/-- The view of a state. -/
def State.view (s : State) : View :=
  { denoms := s.st.denoms, slot := s.slot, reservations := s.st.reservations, held := s.st.held.map HeldCredit.bag
    till := s.till, due := s.tps.due.map DueEntry.till
    bag := fun b => (s.bag b).map Bag.core, priority := s.br.priority, ordinary := s.br.ordinary
    jobs := s.csc.jobs.map CountJob.bag, duty := fun n => (s.station n).duty
    received := (s.chu.handover.map Handover.received).getD []
    outbound := fun c => (s.consignment c).outbound, inbound := fun c => (s.consignment c).inbound
    totals := s.oc.totals, office := s.oc.state, summary := s.oc.summary, operators := s.oc.operators
    profileA := s.oc.profileA, profileB := s.oc.profileB, profile := s.profile }

/-- OC with the fields that no law reads blanked. -/
def Oc.core (o : Oc) : Oc :=
  { o with
    remembered := none, openMark := none, lastStart := .cold, clock := default, minuteTold := 0, deferred := []
    deferredOver := false }

/-! ### Updates that the view does not see -/

/-- The view depends on the records of ST, TPS, BR, CSC, CHU and OC alone. -/
theorem State.view_congr {s t : State} (hst : t.st = s.st) (htps : t.tps = s.tps) (hbr : t.br = s.br) (hcsc : t.csc = s.csc)
    (hchu : t.chu = s.chu) (hoc : t.oc.core = s.oc.core) : t.view = s.view := by
  cases s; cases t
  simp only [Oc.core, Oc.mk.injEq] at hst htps hbr hcsc hchu hoc
  obtain ⟨h1, -, -, -, h2, h3, -, -, h4, h5, h6, h7, -, -⟩ := hoc
  subst hst htps hbr hcsc hchu
  unfold State.view State.profile State.profileOf
  simp only [h1, h2, h3, h4, h5, h6, h7]
  rfl

@[simp] theorem State.place_oc_core (s : State) (k : NoticeKind) (ds : List Datum) : (s.place k ds).oc.core = s.oc.core := by
  rw [State.place_oc]
  rfl

@[simp] theorem State.place_view (s : State) (k : NoticeKind) (ds : List Datum) : (s.place k ds).view = s.view := by
  apply State.view_congr <;> simp

@[simp] theorem State.queueNotice_view (s : State) (n : Notice) : (s.queueNotice n).view = s.view := by
  apply State.view_congr <;> simp

@[simp] theorem State.startTx_view (s : State) : s.startTx.view = s.view := by
  apply State.view_congr <;> simp

@[simp] theorem State.formReply_view (s : State) (i : Instr) (c : Option Code) (ds : List Datum) :
    (s.formReply i c ds).view = s.view := by
  apply State.view_congr <;> simp

@[simp] theorem State.send_view (s : State) (r : SentRecord) : (s.send r).view = s.view := rfl

@[simp] theorem State.sendStation_view (s : State) (n : Nat) (r : ToStation) : (s.sendStation n r).view = s.view := rfl

@[simp] theorem State.changeSlc_view (s : State) (f : Slc → Slc) : (s.changeSlc f).view = s.view := rfl

@[simp] theorem State.setReceiver_view (s : State) (l : PartnerLine) (r : Receiver) : (s.setReceiver l r).view = s.view := by
  cases l <;> rfl

/-! ### The update of one record -/

/-- A record read after a write, whichever it is. -/
theorem nth_putNth {α : Type} {n : Nat} (d : α) (v : Vector α n) (k m : Nat) (x : α) :
    nth d (putNth v k x) m = if m = k ∧ 1 ≤ k ∧ k ≤ n then x else nth d v m := by
  split
  · rename_i h
    rw [h.1, nth_putNth_same _ _ _ _ h.2.1 h.2.2]
  · rename_i h
    by_cases hm : m = k
    · subst hm
      by_cases h0 : m = 0
      · simp [h0]
      · rw [putNth_outside _ _ _ (by omega)]
    · rw [nth_putNth_other _ _ _ _ _ hm]

/-- A numbered table read back after a write of a record that it has. -/
theorem nth_putNth_eq_update {α : Type} {n : Nat} (d : α) (v : Vector α n) (k : Nat) (x : α) (h1 : 1 ≤ k) (h2 : k ≤ n) :
    nth d (putNth v k x) = Function.update (nth d v) k x := by
  funext m
  rw [nth_putNth, Function.update_apply]
  simp [h1, h2]

theorem State.setTill_view (s : State) (n : Nat) (t : Till) (h1 : 1 ≤ n) (h2 : n ≤ 96) :
    (s.setTill n t).view = { s.view with till := Function.update s.view.till n t } := by
  have : (s.setTill n t).till = Function.update s.till n t := nth_putNth_eq_update _ _ _ _ h1 h2
  simp only [State.view, this]
  rfl

/-- Writing a till that the table does not have is no write. -/
theorem State.setTill_outside (s : State) (n : Nat) (t : Till) (h : ¬ (1 ≤ n ∧ n ≤ 96)) : s.setTill n t = s := by
  unfold State.setTill
  by_cases h0 : n = 0
  · simp [h0]
  · rw [putNth_outside _ _ _ (by omega)]

theorem State.setSlot_view (s : State) (d : Nat) (x : StockSlot) (h1 : 1 ≤ d) (h2 : d ≤ 12) :
    (s.setSlot d x).view = { s.view with slot := Function.update s.view.slot d x } := by
  have : (s.setSlot d x).slot = Function.update s.slot d x := nth_putNth_eq_update _ _ _ _ h1 h2
  simp only [State.view, this]
  rfl

theorem State.setSlot_outside (s : State) (d : Nat) (x : StockSlot) (h : ¬ (1 ≤ d ∧ d ≤ 12)) : s.setSlot d x = s := by
  unfold State.setSlot
  by_cases h0 : d = 0
  · simp [h0]
  · rw [putNth_outside _ _ _ (by omega)]

theorem State.setStation_view (s : State) (n : Nat) (x : Station) (h1 : 1 ≤ n) (h2 : n ≤ 4) :
    (s.setStation n x).view = { s.view with duty := Function.update s.view.duty n x.duty } := by
  have h : (s.setStation n x).station = Function.update s.station n x := nth_putNth_eq_update _ _ _ _ h1 h2
  have : (fun m => ((s.setStation n x).station m).duty) = Function.update s.view.duty n x.duty := by
    funext m
    rw [h, Function.update_apply, Function.update_apply]
    split <;> rfl
  simp only [State.view] at this ⊢
  rw [this]
  rfl

theorem State.setStation_outside (s : State) (n : Nat) (x : Station) (h : ¬ (1 ≤ n ∧ n ≤ 4)) : s.setStation n x = s := by
  unfold State.setStation
  by_cases h0 : n = 0
  · simp [h0]
  · rw [putNth_outside _ _ _ (by omega)]

theorem State.setConsignment_view (s : State) (c : Nat) (x : Consignment) (h1 : 1 ≤ c) (h2 : c ≤ 8) :
    (s.setConsignment c x).view =
      { s.view with
        outbound := Function.update s.view.outbound c x.outbound, inbound := Function.update s.view.inbound c x.inbound } := by
  have h : (s.setConsignment c x).consignment = Function.update s.consignment c x := nth_putNth_eq_update _ _ _ _ h1 h2
  have ho : (fun m => ((s.setConsignment c x).consignment m).outbound) = Function.update s.view.outbound c x.outbound := by
    funext m
    rw [h, Function.update_apply, Function.update_apply]
    split <;> rfl
  have hi : (fun m => ((s.setConsignment c x).consignment m).inbound) = Function.update s.view.inbound c x.inbound := by
    funext m
    rw [h, Function.update_apply, Function.update_apply]
    split <;> rfl
  simp only [State.view] at ho hi ⊢
  rw [ho, hi]
  rfl

theorem State.setConsignment_outside (s : State) (c : Nat) (x : Consignment) (h : ¬ (1 ≤ c ∧ c ≤ 8)) :
    s.setConsignment c x = s := by
  unfold State.setConsignment
  by_cases h0 : c = 0
  · simp [h0]
  · rw [putNth_outside _ _ _ (by omega)]

/-- A bag record read after a write, whichever it is. -/
theorem State.bag_setBag (s : State) (b c : Nat) (x : Option Bag) (hb : b < 256) :
    (s.setBag b x).bag c = if c = b then x else s.bag c := by
  split
  · rename_i h
    rw [h, State.bag_setBag_same _ _ _ hb]
  · rename_i h
    rw [State.bag_setBag_other _ _ _ _ h]

theorem State.setBag_view (s : State) (b : Nat) (x : Option Bag) (hb : b < 256) :
    (s.setBag b x).view = { s.view with bag := Function.update s.view.bag b (x.map Bag.core) } := by
  have h : (fun c => ((s.setBag b x).bag c).map Bag.core) = Function.update s.view.bag b (x.map Bag.core) := by
    funext c
    rw [State.bag_setBag _ _ _ _ hb, Function.update_apply]
    split <;> rfl
  simp only [State.view] at h ⊢
  rw [h]
  rfl

/-- A slot that is none of the register reads as FREE. -/
theorem State.bag_eq_none_of_le (s : State) (b : Nat) (h : 256 ≤ b) : s.bag b = none := by
  simp [State.bag, show ¬ b < 256 by omega]

theorem State.bag_changeBag (s : State) (b c : Nat) (f : Bag → Bag) :
    (s.changeBag b f).bag c = if c = b then (s.bag b).map f else s.bag c := by
  unfold State.changeBag
  split
  · rename_i h
    split
    · rename_i hc
      rw [hc, h]
      rfl
    · rfl
  · rename_i x h
    rw [State.bag_setBag _ _ _ _ (s.bag_some_lt _ _ h), h]
    rfl

/-- A bag record of the view changed; a FREE slot stays FREE. -/
def View.changeBag (v : View) (b : Nat) (g : Bag → Bag) : View :=
  { v with bag := Function.update v.bag b ((v.bag b).map g) }

/-- A change of a bag record is seen through what it makes of the fields that the laws read. -/
theorem State.changeBag_view (s : State) (b : Nat) (f g : Bag → Bag) (h : ∀ x, (f x).core = g x.core) :
    (s.changeBag b f).view = s.view.changeBag b g := by
  unfold State.changeBag View.changeBag
  split
  · rename_i hb
    have : s.view.bag b = none := by simp [State.view, hb]
    rw [this, Option.map_none, ← this, Function.update_eq_self]
  · rename_i x hb
    have : s.view.bag b = some x.core := by simp [State.view, hb]
    rw [State.setBag_view _ _ _ (s.bag_some_lt _ _ hb), this, Option.map_some, Option.map_some, h]

/-- A change of fields that no law reads is not seen. -/
theorem State.changeBag_view_same (s : State) (b : Nat) (f : Bag → Bag) (h : ∀ x, (f x).core = x.core) :
    (s.changeBag b f).view = s.view := by
  rw [s.changeBag_view b f id h]
  simp [View.changeBag]

theorem State.moveBag_view (s : State) (b : Nat) (st : BagState) :
    (s.moveBag b st).view = s.view.changeBag b fun x => { x with state := st } :=
  s.changeBag_view b _ _ fun _ => rfl

end Sys2Proof.Machine
end

section
/-! PROOFS. The laws of the device on a view, and the changes of a view that the operations of the part are made of. -/

namespace Sys2Proof.Machine

/-! ### Figures of a view -/

/-- What of a till's record the laws of the tills read. -/
def Till.session (t : Till) : TillState × Option Composition × Bool × List Nat × Nat :=
  (t.state, t.pending, t.onList, t.bags, t.rate)

/-- Pieces of a slot reserved from an area (R16). -/
def reservedIn (rs : List Reservation) (a : Source) (d : Nat) : Nat := (rs.map fun r => heldBy r.lines a d).sum

/-- Piece value of a slot under a definition, 0 for an unused slot. -/
def pieceValueIn (ds : List Denom) (d : Nat) : Nat := if d = 0 then 0 else (ds[d - 1]?.map Denom.value).getD 0

/-- The pieces of the four areas of a slot. -/
def StockSlot.pieces (x : StockSlot) : Nat := x.working + x.reserve + x.unfit + x.dispatch

/-- The stock value under a definition (R4). -/
def valueIn (ds : List Denom) (slot : Nat → StockSlot) : Nat :=
  ((upTo ds.length).map fun d => (slot d).pieces * pieceValueIn ds d).sum

/-- The value of content lines under a definition. -/
def linesValueIn (ds : List Denom) (ls : List ContentLine) : Nat := (ls.map fun l => l.pieces * pieceValueIn ds l.slot).sum

/-- No count of a slot passes the limit (R3). -/
def StockSlot.Limited (x : StockSlot) : Prop :=
  x.working ≤ pieceLimit ∧ x.reserve ≤ pieceLimit ∧ x.unfit ≤ pieceLimit ∧ x.dispatch ≤ pieceLimit ∧ x.suspect ≤ pieceLimit

/-- Pieces of a slot that content lines hold from either area. -/
def piecesOf (ls : List ContentLine) (d : Nat) : Nat := heldBy ls .working d + heldBy ls .unfit d

/-- Pieces that a bag slot holds in DISPATCH (R13). -/
def dispatchedBy (o : Option Bag) (d : Nat) : Nat := (o.map fun x => x.dispatched d).getD 0

/-- A station with a bag works on it (R106). -/
def StationState.Works (x : StationState) : Prop :=
  x = .assigned ∨ x = .counting ∨ ∃ r ∈ [HoldReason.jam, .suspect, .doubt, .pool], x = .held r

/-- A station with a bag works on it, and one that is not enabled is OFFLINE (R106, R125, R126). -/
def Duty.Sound (d : Duty) : Prop := (d.bag ≠ none → d.state.Works) ∧ (d.enabled = false → ∃ r, d.state = .offline r)

/-- The stations that count a bag. -/
def stationsOf (duty : Nat → Duty) (b : Nat) : List Nat := (upTo 4).filter fun n => decide ((duty n).bag = some b)

/-! ### The laws on a view -/

/-- The pickup-due list (R54). -/
structure View.Pickup (till : Nat → Till) (due : List Nat) : Prop where
  once   : due.Nodup
  marked : ∀ n, n ∈ due ↔ (till n).onList = true
  opened : ∀ n, (till n).onList = true → (till n).state = .opened

/-- The float reservations of a till. -/
def floatsOf (rs : List Reservation) (n : Nat) : List Reservation := rs.filter fun q => decide (q.owner = .till n)

/-- A till and its float reservations (R73, R74, R76). -/
structure View.FloatOf (ds : List Denom) (t : Till) (qs : List Reservation) : Prop where
  composed : t.state = .composed ↔ t.pending.isSome = true
  prior    : ∀ c, t.pending = some c → c.prior = .closed ∨ c.prior = .reconciled
  amounts  : ∀ c, t.pending = some c →
    1 ≤ c.composed ∧ c.composed ≤ c.requested ∧ c.requested ≤ 10000000 ∧ (c.reduced = true ↔ c.composed < c.requested)
  reserved : ∀ c, t.pending = some c →
    ∃ r, qs = [r] ∧ (∀ l ∈ r.lines, l.source = .working) ∧ linesValueIn ds r.lines = c.composed
  owned    : qs ≠ [] → t.state = .composed

/-- The floats composed and not confirmed (R73, R74, R76). -/
def View.Floats (till : Nat → Till) (rs : List Reservation) (ds : List Denom) : Prop :=
  ∀ n, View.FloatOf ds (till n) (floatsOf rs n)

/-- The limits of the areas (R3) and the content lines of a bag (R150). -/
structure View.Areas (slot : Nat → StockSlot) (bag : Nat → Option Bag) : Prop where
  limit : ∀ d, (slot d).Limited
  lines : ∀ b x, bag b = some x → (x.lines.map ContentLine.slot).Nodup

/-- The reservations lie within their areas, and cover the bags being assembled (R3, R14). -/
structure View.Reserves (ds : List Denom) (slot : Nat → StockSlot) (rs : List Reservation) (bag : Nat → Option Bag) : Prop where
  slots   : ds.length ≤ 12
  within  : ∀ d a, 1 ≤ d → d ≤ 12 → reservedIn rs a d ≤ (slot d).area a
  covered : ∀ b x, bag b = some x → x.kind = .outbound → x.state = .assembling → ∃ r ∈ rs, r.owner = .bag b ∧ r.lines = x.lines

/-- A list holds each bag of a state once, and no other. -/
structure View.Stands (bag : Nat → Option Bag) (bs : List Nat) (st : BagState) : Prop where
  once : bs.Nodup
  mem  : ∀ b, b ∈ bs ↔ (bag b).map Bag.state = some st

/-- A seal stands in at most one record that is neither FREE nor ORPHAN (R89). -/
def View.Seals (bag : Nat → Option Bag) : Prop :=
  ∀ b c x y, bag b = some x → bag c = some y → x.state ≠ .orphan → y.state ≠ .orphan → x.sealNo ≠ none →
    x.sealNo = y.sealNo → b = c

/-- Where a bag stands (R6, R89, R99, R114, R164). -/
structure View.Custody (bag : Nat → Option Bag) (queue jobs held received : List Nat) (duty : Nat → Duty) : Prop where
  queued   : View.Stands bag queue .queued
  counting : View.Stands bag jobs .counting
  stations : ∀ n b, (duty n).bag = some b → b ∈ jobs
  credited : View.Stands bag held .creditHeld
  received : received.Nodup ∧ ∀ b ∈ received, (bag b).map Bag.state = some .received
  seals    : View.Seals bag

/-- DISPATCH holds the pieces of the OUTBOUND bags in SEALED and SCANNED (R13). -/
def View.Dispatch (slot : Nat → StockSlot) (bag : Nat → Option Bag) : Prop :=
  ∀ d, 1 ≤ d → d ≤ 12 → (slot d).dispatch = ∑ b ∈ Finset.range 256, dispatchedBy (bag b) d

/-- The bags of the tills (R43, R57 to R62, R99). -/
structure View.Drains (bag : Nat → Option Bag) (till : Nat → Till) (priority : List Nat) : Prop where
  session  : ∀ b x n, bag b = some x → x.till = some n → x.state ≠ .counted → x.state ≠ .lost →
    b ∈ (till n).bags ∧ ((till n).state = .opened ∨ (till n).state = .draining)
  priority : ∀ b ∈ priority, ∃ x n, bag b = some x ∧ x.till = some n ∧ (till n).state = .draining

/-- The stations and the bags they count (R106, R114, R125, R126). -/
structure View.Jobs (bag : Nat → Option Bag) (duty : Nat → Duty) : Prop where
  assigned : ∀ b x, bag b = some x → x.state = .counting → 1 ≤ (stationsOf duty b).length ∧ (stationsOf duty b).length ≤ 2
  counting : ∀ n b, (duty n).bag = some b → (bag b).map Bag.state = some .counting
  sound    : ∀ n, (duty n).Sound

/-- The lists of the consignments (R94, R148). -/
structure View.Lists (outs ins : Nat → List Nat) (bag : Nat → Option Bag) : Prop where
  outbound : ∀ c b, b ∈ outs c → ∃ x, bag b = some x ∧ x.kind = .outbound ∧ x.consignment = some c
  once     : ∀ c, (outs c).Nodup
  inbound  : ∀ c b, b ∈ ins c → ∃ x, bag b = some x ∧ x.kind = .inbound ∧ x.consignment = some c
  orphan   : ∀ b x, bag b = some x → x.state = .orphan → x.kind = .unknown

/-! ### The changes of a view -/

/-- The queue of a view. -/
def View.queue (v : View) : List Nat := v.priority ++ v.ordinary

/-- A new bag record: no lines, a state that no list follows, and a seal that no live record carries (R89, R90). -/
structure Bag.Fresh (v : View) (x : Bag) : Prop where
  lines  : x.lines = []
  state  : x.state = .declared ∨ x.state = .orphan ∨ x.state = .lost ∨ x.state = .expected
  fresh  : x.state ≠ .orphan → x.sealNo ≠ none → ∀ c y, v.bag c = some y → y.state ≠ .orphan → x.sealNo ≠ y.sealNo
  orphan : x.state = .orphan → x.kind = .unknown

/-- A class of the queue takes a bag at one end: the PRIORITY class one of a DRAINING till alone (R99). -/
structure View.Enqueues (v : View) (bs p o : List Nat) : Prop where
  perm    : (p ++ o).Perm (bs ++ v.queue)
  drained : ∀ c ∈ p, c ∈ v.priority ∨ c ∈ bs ∧ ∃ x n, v.bag c = some x ∧ x.till = some n ∧ (v.till n).state = .draining

/-- A bag leaves the outbound list of its consignment. -/
def View.unlist (v : View) (b : Nat) (o : Option Nat) : Nat → List Nat :=
  match o with
  | none => v.outbound
  | some c => Function.update v.outbound c ((v.outbound c).filter fun q => decide (q ≠ b))

/-- The reservations that an owner does not hold. -/
def View.without (v : View) (o : Owner) : List Reservation := v.reservations.filter fun r => decide (r.owner ≠ o)

/-- Every bag of a list changed. -/
def View.changeBags (v : View) (bs : List Nat) (g : Bag → Bag) : Nat → Option Bag :=
  fun b => if b ∈ bs then (v.bag b).map g else v.bag b

/-- The bags of a list that stand in a state. -/
def View.standing (v : View) (bs : List Nat) (st : BagState) : List Nat :=
  bs.filter fun b => decide ((v.bag b).map Bag.state = some st)

/-- The moves of a bag between states that no list follows. -/
inductive Moves : BagState → BagState → Prop
  | lost {st : BagState} (h : st = .declared ∨ st = .expected ∨ st = .lost) : Moves st .lost
  | sealed {st : BagState} (h : st = .scanned ∨ st = .sealed) : Moves st .sealed
  | scanned {st : BagState} (h : st = .sealed) : Moves st .scanned
  | expected {st : BagState} (h : st = .received ∨ st = .expected) : Moves st .expected

/-- A job ends: its stations have no bag any more, and are as sound as they were. -/
structure View.EndsJob (v : View) (b : Nat) (duty : Nat → Duty) : Prop where
  stood : b ∈ v.jobs ∨ ∃ n, (v.duty n).bag = some b
  freed : ∀ n, (v.duty n).bag = some b → (duty n).bag = none ∧ ((v.duty n).Sound → (duty n).Sound)
  left  : ∀ n, (v.duty n).bag ≠ some b → duty n = v.duty n

/-- The changes that the operations of the part are made of, each with what it rests on. -/
inductive Change : View → View → Prop
  /-- Figures of a till that no law reads. -/
  | figures {v} (n : Nat) (t : Till) (h : t.session = (v.till n).session) :
    Change v { v with till := Function.update v.till n t }
  /-- A till joins the pickup-due list (R54). -/
  | listed {v} (n : Nat) (hs : (v.till n).state = .opened) (hl : (v.till n).onList = false) :
    Change v { v with till := Function.update v.till n { v.till n with onList := true }, due := v.due ++ [n] }
  /-- A till leaves the pickup-due list (R54, R59). -/
  | unlisted {v} (n : Nat) :
    Change v { v with
      till := Function.update v.till n { v.till n with onList := false }, due := v.due.filter fun m => decide (m ≠ n) }
  /-- A DRAINING till reconciles (R62). -/
  | reconciled {v} (n : Nat) (i : Option Int) (hs : (v.till n).state = .draining)
    (hb : ∀ b ∈ (v.till n).bags, ∀ x, v.bag b = some x → x.state = .counted ∨ x.state = .lost) :
    Change v { v with till := Function.update v.till n { v.till n with state := .reconciled, variance := i } }
  /-- A new bag joins the session of a till (R57 to R59). -/
  | joined {v} (n b : Nat) (x : Bag) (hb : v.bag b = none) (hx : x.Fresh v) (hn : x.till = some n)
    (hs : (v.till n).state = .opened ∨ (v.till n).state = .draining) :
    Change v { v with
      bag := Function.update v.bag b (some x)
      till := Function.update v.till n { v.till n with bags := (v.till n).bags ++ [b] } }
  /-- A till off the list starts to drain (R59, R100). -/
  | drained {v} (n : Nat) (hs : (v.till n).state = .opened) (hl : (v.till n).onList = false) :
    Change v { v with
      till := Function.update v.till n { v.till n with state := .draining }
      priority := v.priority ++ v.ordinary.filter fun b => decide ((v.bag b).bind Bag.till = some n)
      ordinary := v.ordinary.filter fun b => !decide ((v.bag b).bind Bag.till = some n) }
  /-- A float is withdrawn (R47, R48). -/
  | withdrawn {v} (n : Nat) (hs : (v.till n).state = .composed) :
    Change v { v with
      reservations := v.without (.till n)
      till := Function.update v.till n
        { v.till n with state := ((v.till n).pending.map Composition.prior).getD .closed, pending := none } }
  /-- A reservation of a till that is not COMPOSED goes (R15). -/
  | unreserved {v} (n : Nat) (hs : (v.till n).state ≠ .composed) : Change v { v with reservations := v.without (.till n) }
  /-- Every float was withdrawn, and no float reservation stays (R19, R66). -/
  | swept {v} (p : Reservation → Bool) (hs : View.Floats v.till v.reservations v.denoms → ∀ n, (v.till n).state ≠ .composed)
    (hp : ∀ r b, r.owner = .bag b → p r = true) (ht : ∀ r n, r.owner = .till n → p r = false) :
    Change v { v with reservations := v.reservations.filter p }
  /-- Stock moves between the areas, or in and out with the totals (R4 to R10). -/
  | traded {v} (slot : Nat → StockSlot) (q : Totals) (hl : ∀ d, (v.slot d).Limited → (slot d).Limited)
    (hd : ∀ d, (slot d).dispatch = (v.slot d).dispatch)
    (hr : ∀ d a, reservedIn v.reservations a d ≤ (v.slot d).area a → reservedIn v.reservations a d ≤ (slot d).area a)
    (hv : v.denoms.length ≤ 12 →
      (valueIn v.denoms slot : Int) + q.moved = valueIn v.denoms v.slot + v.totals.moved) :
    Change v { v with slot := slot, totals := q }
  /-- A new definition over empty areas and no bag (R2). -/
  | defined {v} (ds : List Denom) (hds : ds.length ≤ 12) (hs : ∀ d, (v.slot d).pieces = 0) (hb : ∀ b, v.bag b = none) :
    Change v { v with denoms := ds, slot := fun d => (v.slot d).cleared }
  /-- A bag is assembled, its lines reserved (R150). -/
  | assembled {v} (c b : Nat) (x : Bag) (r : Reservation) (hb : v.bag b = none) (hk : x.kind = .outbound)
    (hs : x.state = .assembling) (hc : x.consignment = some c) (ht : x.till = none) (hq : x.sealNo = none)
    (ho : r.owner = .bag b) (hl : r.lines = x.lines) (hn : (x.lines.map ContentLine.slot).Nodup)
    (hw : ∀ d a, reservedIn v.reservations a d ≤ (v.slot d).area a →
      reservedIn v.reservations a d + heldBy x.lines a d ≤ (v.slot d).area a)
    (hr : v.reservations.length < 16) :
    Change v { v with
      bag := Function.update v.bag b (some x), reservations := v.reservations ++ [r]
      outbound := Function.update v.outbound c (v.outbound c ++ [b]) }
  /-- The seal move (R11, R151). -/
  | sealed {v} (b n : Nat) (x : Bag) (slot : Nat → StockSlot) (hb : v.bag b = some x) (h256 : b < 256)
    (hk : x.kind = .outbound) (hs : x.state = .assembling)
    (hq : ∀ c y, v.bag c = some y → y.state ≠ .orphan → y.sealNo ≠ some n)
    (hfit : ∀ l ∈ x.lines, (v.slot l.slot).dispatch + l.pieces ≤ pieceLimit)
    (hslot : ∀ d, 1 ≤ d → d ≤ 12 → (slot d).working = (v.slot d).working - heldBy x.lines .working d ∧
      (slot d).unfit = (v.slot d).unfit - heldBy x.lines .unfit d ∧
      (slot d).dispatch = (v.slot d).dispatch + piecesOf x.lines d ∧
      (slot d).reserve = (v.slot d).reserve ∧ (slot d).suspect = (v.slot d).suspect)
    (hout : ∀ d, ¬ (1 ≤ d ∧ d ≤ 12) → slot d = v.slot d) :
    Change v { v with
      slot := slot, reservations := v.without (.bag b)
      bag := Function.update v.bag b (some { x with sealNo := some n, state := .sealed }) }
  /-- An assembled bag is discarded (R152). -/
  | discarded {v} (b : Nat) (x : Bag) (hb : v.bag b = some x) (hk : x.kind = .outbound) (hs : x.state = .assembling) :
    Change v { v with
      reservations := v.without (.bag b), outbound := v.unlist b x.consignment, bag := Function.update v.bag b none }
  /-- A sealed bag is unsealed (R12, R153). -/
  | unsealed {v} (b : Nat) (x : Bag) (slot : Nat → StockSlot) (hb : v.bag b = some x) (h256 : b < 256)
    (hk : x.kind = .outbound) (hs : x.state = .sealed)
    (hfit : ∀ l ∈ x.lines, (v.slot l.slot).area l.source + l.pieces ≤ pieceLimit)
    (hslot : ∀ d, 1 ≤ d → d ≤ 12 → (slot d).working = (v.slot d).working + heldBy x.lines .working d ∧
      (slot d).unfit = (v.slot d).unfit + heldBy x.lines .unfit d ∧
      (slot d).dispatch = (v.slot d).dispatch - piecesOf x.lines d ∧
      (slot d).reserve = (v.slot d).reserve ∧ (slot d).suspect = (v.slot d).suspect)
    (hout : ∀ d, ¬ (1 ≤ d ∧ d ≤ 12) → slot d = v.slot d) :
    Change v { v with slot := slot, outbound := v.unlist b x.consignment, bag := Function.update v.bag b none }
  /-- The SCANNED bags of a consignment are handed over (R13, R165). -/
  | handedOver {v} (c : Nat) (outs : List Nat) (slot : Nat → StockSlot) (q : Totals)
    (ho : outs = v.standing (v.outbound c) .scanned) (h256 : ∀ b ∈ outs, b < 256)
    (hslot : ∀ d, slot d = { v.slot d with
      dispatch := (v.slot d).dispatch - (outs.map fun b => piecesOf (((v.bag b).map Bag.lines).getD []) d).sum })
    (hq : q.moved = v.totals.moved + ((outs.map fun b => linesValueIn v.denoms (((v.bag b).map Bag.lines).getD [])).sum : Nat)) :
    Change v { v with slot := slot, totals := q, bag := v.changeBags outs fun x => { x with state := .handedOver } }
  /-- The RECEIVED bags of the handover enter the count queue (R165). -/
  | takenIn {v} :
    Change v { v with
      bag := v.changeBags (v.standing v.received .received) fun x => { x with state := .queued }
      ordinary := v.ordinary ++ v.standing v.received .received, received := [] }
  /-- The inbound bags left EXPECTED leave their consignment (R165). -/
  | left {v} (c : Nat) :
    Change v { v with
      bag := v.changeBags (v.standing (v.inbound c) .expected) fun x => { x with consignment := none }
      inbound := Function.update v.inbound c
        ((v.inbound c).filter fun b => decide (b ∉ v.standing (v.inbound c) .expected)) }
  /-- The outbound bags of a consignment are unattached (R159). -/
  | unattached {v} (c : Nat) :
    Change v { v with
      bag := v.changeBags (v.outbound c) fun x => { x with consignment := none }
      outbound := Function.update v.outbound c [] }
  /-- A bag joins a consignment (R154). -/
  | attached {v} (c b : Nat) (x : Bag) (hb : v.bag b = some x) (hn : x.consignment = none) (ho : x.state ≠ .orphan)
    (hk : x.kind = .outbound ∨ x.kind = .inbound) :
    Change v { v with
      bag := Function.update v.bag b (some { x with consignment := some c })
      outbound := if x.kind = .outbound then Function.update v.outbound c (v.outbound c ++ [b]) else v.outbound
      inbound := if x.kind = .outbound then v.inbound else Function.update v.inbound c (v.inbound c ++ [b]) }
  /-- A delivery is expected (R155). -/
  | expected {v} (c b : Nat) (x : Bag) (hb : v.bag b = none) (hx : x.Fresh v) (ht : x.till = none) (hk : x.kind = .inbound)
    (hc : x.consignment = some c) :
    Change v { v with
      bag := Function.update v.bag b (some x), inbound := Function.update v.inbound c (v.inbound c ++ [b]) }
  /-- A consignment record begins with empty lists (R149). -/
  | emptied {v} (c : Nat) :
    Change v { v with outbound := Function.update v.outbound c [], inbound := Function.update v.inbound c [] }
  /-- A new bag of no till (R90, R91, R94, R97). -/
  | created {v} (b : Nat) (x : Bag) (hb : v.bag b = none) (hx : x.Fresh v) (ht : x.till = none) :
    Change v { v with bag := Function.update v.bag b (some x) }
  /-- An orphan's slot is freed (R95). -/
  | removed {v} (b : Nat) (x : Bag) (hb : v.bag b = some x) (hs : x.state = .orphan) :
    Change v { v with bag := Function.update v.bag b none }
  /-- A bag moves between states that no list follows. -/
  | moved {v} (b : Nat) (x : Bag) (st : BagState) (hb : v.bag b = some x) (hm : Moves x.state st)
    (hr : x.state = .received → b ∉ v.received) :
    Change v { v with bag := Function.update v.bag b (some { x with state := st }) }
  /-- An EXPECTED bag is checked in (R164). -/
  | scannedIn {v} (b : Nat) (x : Bag) (hb : v.bag b = some x) (hs : x.state = .expected) :
    Change v { v with
      bag := Function.update v.bag b (some { x with state := .received }), received := v.received ++ [b] }
  /-- The handover ends, or begins anew, with no bag received (R162, R163, R166). -/
  | forgotten {v} : Change v { v with received := [] }
  /-- A bag enters the count queue (R93, R98). -/
  | queued {v} (b : Nat) (x : Bag) (p o : List Nat) (hb : v.bag b = some x) (hs : x.state = .declared ∨ x.state = .countHeld)
    (hq : v.Enqueues [b] p o) :
    Change v { v with
      bag := Function.update v.bag b (some { x with state := .queued }), priority := p, ordinary := o }
  /-- A bag is assigned to one or two IDLE stations (R114). -/
  | assigned {v} (b : Nat) (ns : List Nat) (hb : b ∈ v.queue) (hn : ns.Nodup) (h1 : 1 ≤ ns.length) (h2 : ns.length ≤ 2)
    (hi : ∀ n ∈ ns, 1 ≤ n ∧ n ≤ 4 ∧ (v.duty n).state = .idle) :
    Change v { v with
      bag := Function.update v.bag b ((v.bag b).map fun x => { x with state := .counting })
      priority := v.priority.filter fun q => decide (q ≠ b), ordinary := v.ordinary.filter fun q => decide (q ≠ b)
      jobs := v.jobs ++ [b]
      duty := fun n => if n ∈ ns then { bag := some b, state := .assigned, enabled := (v.duty n).enabled } else v.duty n }
  /-- A job ends with its bag QUEUED again (R101, R127). -/
  | requeued {v} (b : Nat) (x : Bag) (p o : List Nat) (duty : Nat → Duty) (he : v.EndsJob b duty) (hb : v.bag b = some x)
    (hq : v.Enqueues [b] p o) :
    Change v { v with
      bag := Function.update v.bag b (some { x with state := .queued }), priority := p, ordinary := o
      jobs := v.jobs.filter fun q => decide (q ≠ b), duty := duty }
  /-- A job ends with its bag COUNT_HELD or COUNTED (R127, R131). -/
  | parked {v} (b : Nat) (st : BagState) (duty : Nat → Duty) (he : v.EndsJob b duty) (hs : st = .countHeld ∨ st = .counted) :
    Change v { v with
      bag := Function.update v.bag b ((v.bag b).map fun x => { x with state := st })
      jobs := v.jobs.filter fun q => decide (q ≠ b), duty := duty }
  /-- A job ends with its credit held (R5, R131). -/
  | withheld {v} (b : Nat) (duty : Nat → Duty) (he : v.EndsJob b duty) :
    Change v { v with
      bag := Function.update v.bag b ((v.bag b).map fun x => { x with state := .creditHeld }), held := v.held ++ [b]
      jobs := v.jobs.filter fun q => decide (q ≠ b), duty := duty }
  /-- A held credit is taken (R6). -/
  | retried {v} (b : Nat) (hb : b ∈ v.held) :
    Change v { v with
      bag := Function.update v.bag b ((v.bag b).map fun x => { x with state := .counted })
      held := v.held.filter fun q => decide (q ≠ b) }
  /-- A station changes state with the bag that it has, or loses one that it did not work on (R109, R123 to R126). -/
  | station {v} (n : Nat) (d : Duty) (hb : d.bag = (v.duty n).bag ∨ d.bag = none ∧ ¬ (v.duty n).Sound)
    (hs : (v.duty n).Sound → d.Sound) :
    Change v { v with duty := Function.update v.duty n d }
  /-- Every job ends at a stop or a restart (R105, R133). -/
  | stopped {v} (bs p o : List Nat) (bag : Nat → Option Bag) (hn : bs.Nodup)
    (hc : ∀ b ∈ bs, (v.bag b).map Bag.state = some .counting)
    (hbag : ∀ b, bag b = (v.bag b).map fun x =>
      if x.state = .counting then { x with state := if b ∈ bs then .queued else .countHeld } else x)
    (hq : v.Enqueues bs p o) :
    Change v { v with
      bag := bag, priority := p, ordinary := o, jobs := []
      duty := fun n => { bag := none, state := .offline .start, enabled := (v.duty n).enabled } }

/-- The day closes (R25, R28, R63, R104, R156). -/
inductive DayCloses : View → View → Prop
  | mk {v} (d : DaySummary) (freed : Nat → Bool) (hd : d.totals = v.totals) (ho : v.office ≠ .closedDay) :
    DayCloses v { v with
      bag := fun b => (v.bag b).filter fun x => !x.finished
      outbound := fun c => if freed c then [] else (v.outbound c).filter fun b => !(v.bag b).any Bag.finished
      inbound := fun c => if freed c then [] else (v.inbound c).filter fun b => !(v.bag b).any Bag.finished
      till := fun n => if (v.till n).state = .reconciled then { v.till n with bags := [] } else v.till n
      totals := Totals.zero, office := .closedDay, summary := some d }

/-- What an operation does to the view: changes, and, where `day` is set, the close of the day. -/
inductive Act : Bool → View → View → Prop
  | change {day v w} (h : Change v w) : Act day v w
  | day {v w} (h : DayCloses v w) : Act true v w

/-- One act after another. -/
abbrev Chain (day : Bool) : View → View → Prop := Relation.ReflTransGen (Act day)

/-- The first change of a request that writes what no other operation does. -/
inductive Begin : View → View → Prop
  /-- A float is composed (R45, R72 to R77). -/
  | composed {v} (n : Nat) (c : Composition) (r : Reservation)
    (hs : (v.till n).state = .closed ∨ (v.till n).state = .reconciled) (hp : c.prior = (v.till n).state)
    (ha : 1 ≤ c.composed ∧ c.composed ≤ c.requested ∧ c.requested ≤ 10000000 ∧ (c.reduced = true ↔ c.composed < c.requested))
    (hm : c.composed < c.requested → classOf v.profile.floatMin (v.till n).cls ≤ c.composed) (ho : r.owner = .till n)
    (hl : ∀ l ∈ r.lines, l.source = .working) (hv : linesValueIn v.denoms r.lines = c.composed)
    (hw : ∀ d, 1 ≤ d → d ≤ 12 → reservedIn v.reservations .working d ≤ (v.slot d).working →
      reservedIn v.reservations .working d + heldBy r.lines .working d ≤ (v.slot d).working)
    (hr : v.reservations.length < 16) :
    Begin v { v with
      reservations := v.reservations ++ [r]
      till := Function.update v.till n { v.till n with state := .composed, pending := some c } }
  /-- A float is confirmed (R8, R46). -/
  | confirmed {v} (n : Nat) (t : Till) (ls : List ContentLine) (slot : Nat → StockSlot) (q : Totals)
    (hs : (v.till n).state = .composed)
    (ht : t.session = (.opened, none, false, [], v.profile.rateInit * 16))
    (hls : ls = ((v.reservations.find? fun r => decide (r.owner = .till n)).map Reservation.lines).getD [])
    (hslot : ∀ d, 1 ≤ d → d ≤ 12 → (slot d).working = (v.slot d).working - heldBy ls .working d ∧
      (slot d).unfit = (v.slot d).unfit - heldBy ls .unfit d ∧ (slot d).dispatch = (v.slot d).dispatch ∧
      (slot d).reserve = (v.slot d).reserve ∧ (slot d).suspect = (v.slot d).suspect)
    (hout : ∀ d, ¬ (1 ≤ d ∧ d ≤ 12) → slot d = v.slot d) (hq : q.moved = v.totals.moved + (linesValueIn v.denoms ls : Nat)) :
    Begin v { v with
      slot := slot, reservations := v.without (.till n), totals := q, till := Function.update v.till n t }
  /-- A till's takings are reported (R50, R51). -/
  | reported {v} (n : Nat) (t : Till) (hs : t.session = ((v.till n).state, (v.till n).pending, (v.till n).onList, (v.till n).bags, t.rate))
    (hr : t.rate = (v.till n).rate ∨
      (v.profile.rateMin ≤ v.profile.rateMax → v.profile.rateMin * 16 ≤ t.rate ∧ t.rate ≤ v.profile.rateMax * 16)) :
    Begin v { v with till := Function.update v.till n t }
  /-- The operator table changes (R32). -/
  | operators {v} (os : List Operator)
    (h : (v.operators.map Operator.ident).Nodup → (∀ o ∈ v.operators, 1 ≤ o.ident ∧ o.ident ≤ 65535) →
      (os.map Operator.ident).Nodup ∧ ∀ o ∈ os, 1 ≤ o.ident ∧ o.ident ≤ 65535)
    (hl : v.operators.length ≤ 32 → os.length ≤ 32) :
    Begin v { v with operators := os }
  /-- A profile is written, or selected (R35 to R37). -/
  | profiles {v} (a b p : Profile) (ha : v.profileA.InRange → a.InRange) (hb : v.profileB.InRange → b.InRange) :
    Begin v { v with profileA := a, profileB := b, profile := p }
  /-- The office changes state (R22, R24, R26). -/
  | office {v} (x : OfficeState) : Begin v { v with office := x }

/-- The view of an opened day: the watermarks and the SUSPECT held counts, and the totals at zero (R7, R17, R23). -/
def View.opened (v : View) : View :=
  { v with slot := fun d => (v.slot d).atOpenDay, totals := Totals.zero, office := .trading }

/-- What one command makes of the view, a cold start aside. -/
inductive Path : View → View → Prop
  /-- Acts alone. -/
  | acts {v w} (h : Chain true v w) : Path v w
  /-- A request that begins with a write of its own. -/
  | request {v u w} (h : Begin v u) (hc : Chain true u w) : Path v w
  /-- The day opens (R23). -/
  | opened {v w} (hc : Chain true v.opened w)
    (hw : w.office = .trading ∧ w.totals = Totals.zero ∧ w.slot = v.opened.slot ∧ w.denoms = v.denoms) : Path v w
  /-- A stop or a warm restart, which leaves the office HELD (R38, R41). -/
  | stop {v u} (h : Chain false v u) : Path v { u with office := .held }

end Sys2Proof.Machine
end

section

/-! PROOFS. Changes: the tills, agreed upon.

    What the laws of the tills need of two views that agree on the tills. -/

namespace Sys2Proof.Machine

/-- The list law rests on each till's on-list mark and on its OPEN state alone. -/
theorem View.Pickup.of_agree {till till' : Nat → Till} {due : List Nat} (h : View.Pickup till due)
    (hl : ∀ n, (till' n).onList = (till n).onList)
    (hs : ∀ n, (till n).onList = true → (till n).state = .opened → (till' n).state = .opened) : View.Pickup till' due where
  once := h.once
  marked n := by rw [hl, h.marked]
  opened n hn := hs n (hl n ▸ hn) (h.opened n (hl n ▸ hn))

/-- A till of another state, or off the list, changes no more than its figures. -/
theorem View.Pickup.update {till : Nat → Till} {due : List Nat} (h : View.Pickup till due) (n : Nat) (t : Till)
    (hl : t.onList = (till n).onList) (hs : (till n).onList = true → (till n).state = .opened → t.state = .opened) :
    View.Pickup (Function.update till n t) due := by
  refine h.of_agree (fun m => ?_) (fun m => ?_) <;> rw [Function.update_apply] <;> split <;> grind

theorem Change.keeps_pickup {v w : View} (h : Change v w) (hp : View.Pickup v.till v.due) :
    View.Pickup w.till w.due := by
  have off : ∀ n, (v.till n).state ≠ .opened → (v.till n).onList = false := fun n hs => by
    grind [hp.opened n]
  cases h with
  | figures n t h =>
    simp only [Till.session, Prod.mk.injEq] at h
    obtain ⟨hs, -, hl, -, -⟩ := h
    exact hp.update n t hl fun _ ho => hs ▸ ho
  | listed n hs hl =>
    have hn : n ∉ v.due := by simp [hp.marked, hl]
    refine ⟨List.nodup_append.2 ⟨hp.once, by simp, by grind⟩, fun m => ?_, fun m => ?_⟩
    · have := hp.marked m
      by_cases hm : m = n <;> simp_all
    · have := hp.opened m
      by_cases hm : m = n <;> simp_all
  | unlisted n =>
    refine ⟨hp.once.filter _, fun m => ?_, fun m => ?_⟩
    · have := hp.marked m
      by_cases hm : m = n <;> simp_all
    · have := hp.opened m
      by_cases hm : m = n <;> simp_all
  | reconciled n i hs hb => exact hp.update n _ rfl (by simp [hs])
  | joined n b x hb hx hn hs => exact hp.update n _ rfl fun _ h => h
  | drained n hs hl => exact hp.update n _ rfl (by simp [hl])
  | withdrawn n hs => exact hp.update n _ rfl (by simp [hs])
  | _ => exact hp

end Sys2Proof.Machine
end

section

/-! PROOFS. Changes: lines counted.

    The pieces that content lines and reservations hold of one slot and area. -/

namespace Sys2Proof.Machine

/-! ### Content lines and reservations, counted -/

theorem heldBy_nil (a : Source) (d : Nat) : heldBy [] a d = 0 := rfl

theorem heldBy_cons (l : ContentLine) (ls : List ContentLine) (a : Source) (d : Nat) :
    heldBy (l :: ls) a d = (if l.slot = d ∧ l.source = a then l.pieces else 0) + heldBy ls a d := by
  unfold heldBy
  rw [List.filter_cons]
  by_cases h : l.slot = d ∧ l.source = a
  · simp [h]
  · have : (decide (l.slot = d) && decide (l.source = a)) = false := by simpa using h
    simp [this, h]

theorem heldBy_append (ls ms : List ContentLine) (a : Source) (d : Nat) :
    heldBy (ls ++ ms) a d = heldBy ls a d + heldBy ms a d := by
  simp [heldBy]

/-- A line lies within what its list holds from its source. -/
theorem pieces_le_heldBy {ls : List ContentLine} {l : ContentLine} (h : l ∈ ls) : l.pieces ≤ heldBy ls l.source l.slot := by
  induction ls with
  | nil => simp at h
  | cons m ls ih =>
    rw [heldBy_cons]
    rcases List.mem_cons.1 h with rfl | h
    · simp
    · have := ih h
      omega

theorem reservedIn_cons (r : Reservation) (rs : List Reservation) (a : Source) (d : Nat) :
    reservedIn (r :: rs) a d = heldBy r.lines a d + reservedIn rs a d := by
  simp [reservedIn]

theorem reservedIn_append (rs qs : List Reservation) (a : Source) (d : Nat) :
    reservedIn (rs ++ qs) a d = reservedIn rs a d + reservedIn qs a d := by
  simp [reservedIn]

theorem reservedIn_singleton (r : Reservation) (a : Source) (d : Nat) : reservedIn [r] a d = heldBy r.lines a d := by
  simp [reservedIn]

/-- Fewer reservations hold no more pieces. -/
theorem reservedIn_filter_le (rs : List Reservation) (p : Reservation → Bool) (a : Source) (d : Nat) :
    reservedIn (rs.filter p) a d ≤ reservedIn rs a d :=
  (List.filter_sublist.map _).sum_le_sum (by simp)

/-- What one reservation holds lies within what all hold. -/
theorem heldBy_le_reservedIn {rs : List Reservation} {r : Reservation} (h : r ∈ rs) (a : Source) (d : Nat) :
    heldBy r.lines a d ≤ reservedIn rs a d :=
  List.single_le_sum (by simp) _ (List.mem_map_of_mem h)

/-- The reservations that an owner does not hold, and one that it does, lie within them all. -/
theorem heldBy_add_without_le {rs : List Reservation} {r : Reservation} (h : r ∈ rs) (a : Source) (d : Nat) :
    heldBy r.lines a d + reservedIn (rs.filter fun q => decide (q.owner ≠ r.owner)) a d ≤ reservedIn rs a d := by
  induction rs with
  | nil => simp at h
  | cons q rs ih =>
    rw [List.filter_cons, reservedIn_cons]
    rcases List.mem_cons.1 h with rfl | h
    · simpa using reservedIn_filter_le rs _ a d
    · have hrs := ih h
      split
      · rw [reservedIn_cons]
        omega
      · omega

theorem pieceValueIn_eq_zero {ds : List Denom} {d : Nat} (h : d = 0 ∨ ds.length < d) : pieceValueIn ds d = 0 := by
  unfold pieceValueIn
  split
  · rfl
  · rw [List.getElem?_eq_none (by omega)]
    rfl

end Sys2Proof.Machine
end

section

/-! PROOFS. Changes: the floats.

    Every change keeps the law of the floats composed. -/

namespace Sys2Proof.Machine

/-! ### The floats -/

theorem mem_floatsOf {rs : List Reservation} {n : Nat} {r : Reservation} : r ∈ floatsOf rs n ↔ r ∈ rs ∧ r.owner = .till n := by
  simp [floatsOf]

theorem floatsOf_append (rs qs : List Reservation) (n : Nat) : floatsOf (rs ++ qs) n = floatsOf rs n ++ floatsOf qs n := by
  simp [floatsOf]

theorem floatsOf_filter_of_keep (rs : List Reservation) (p : Reservation → Bool) (n : Nat)
    (h : ∀ r, r.owner = .till n → p r = true) : floatsOf (rs.filter p) n = floatsOf rs n := by
  unfold floatsOf
  rw [List.filter_filter]
  apply List.filter_congr
  intro r _
  by_cases hr : r.owner = .till n <;> simp [hr, h]

theorem floatsOf_filter_of_drop (rs : List Reservation) (p : Reservation → Bool) (n : Nat)
    (h : ∀ r, r.owner = .till n → p r = false) : floatsOf (rs.filter p) n = [] := by
  simp only [floatsOf, List.filter_filter, List.filter_eq_nil_iff]
  intro r _
  by_cases hr : r.owner = .till n <;> simp [hr, h]

/-- A till that is not COMPOSED keeps the law with no composition and no reservation. -/
theorem View.FloatOf.idle (ds : List Denom) {t : Till} (hs : t.state ≠ .composed) (hp : t.pending = none) :
    View.FloatOf ds t [] where
  composed := by simp [hs, hp]
  prior := by simp [hp]
  amounts := by simp [hp]
  reserved := by simp [hp]
  owned h := absurd rfl h

/-- The law of a till's float rests on its composition and on whether it is COMPOSED. -/
theorem View.FloatOf.congr {ds : List Denom} {t t' : Till} {qs : List Reservation} (h : View.FloatOf ds t qs)
    (hs : t'.state = .composed ↔ t.state = .composed) (hp : t'.pending = t.pending) : View.FloatOf ds t' qs where
  composed := by rw [hs, hp, h.composed]
  prior := hp ▸ h.prior
  amounts := hp ▸ h.amounts
  reserved := hp ▸ h.reserved
  owned hq := hs.2 (h.owned hq)

theorem View.FloatOf.pending_eq_none {ds : List Denom} {t : Till} {qs : List Reservation} (h : View.FloatOf ds t qs)
    (hs : t.state ≠ .composed) : t.pending = none := by
  rw [Ne, h.composed] at hs
  simpa using hs

theorem View.FloatOf.lines_eq_nil {ds : List Denom} {t : Till} {qs : List Reservation} (h : View.FloatOf ds t qs)
    (hs : t.state ≠ .composed) : qs = [] := by
  by_contra hq
  exact hs (h.owned hq)

/-- A till's record changes, not its float. -/
theorem View.Floats.update {till : Nat → Till} {rs : List Reservation} {ds : List Denom} (h : View.Floats till rs ds) (n : Nat)
    (t : Till) (hs : t.state = .composed ↔ (till n).state = .composed) (hp : t.pending = (till n).pending) :
    View.Floats (Function.update till n t) rs ds := by
  intro m
  rw [Function.update_apply]
  split
  · rename_i hm
    subst hm
    exact (h m).congr hs hp
  · exact h m

/-- The reservations of bags are no floats. -/
theorem View.Floats.of_floatsOf {till : Nat → Till} {rs qs : List Reservation} {ds : List Denom} (h : View.Floats till rs ds)
    (hq : ∀ n, (till n).state = .composed → floatsOf qs n = floatsOf rs n)
    (ho : ∀ n, (till n).state ≠ .composed → floatsOf qs n = []) : View.Floats till qs ds := by
  intro m
  by_cases hm : (till m).state = .composed
  · rw [hq m hm]
    exact h m
  · rw [ho m hm]
    exact View.FloatOf.idle ds hm ((h m).pending_eq_none hm)

/-- A float is held from WORKING, so its slots are not empty (R3, R76). -/
theorem View.Floats.not_composed {till : Nat → Till} {rs : List Reservation} {ds : List Denom} {slot : Nat → StockSlot}
    {bag : Nat → Option Bag} (h : View.Floats till rs ds) (hr : View.Reserves ds slot rs bag)
    (hs : ∀ d, (slot d).pieces = 0) (n : Nat) : (till n).state ≠ .composed := by
  intro hn
  obtain ⟨c, hc⟩ := Option.isSome_iff_exists.1 ((h n).composed.1 hn)
  obtain ⟨r, hq, hw, hv⟩ := (h n).reserved c hc
  have hpos : 1 ≤ linesValueIn ds r.lines := hv ▸ ((h n).amounts c hc).1
  have hr' : r ∈ rs := (mem_floatsOf.1 (hq ▸ List.mem_singleton_self r)).1
  have hzero : ∀ l ∈ r.lines, l.pieces * pieceValueIn ds l.slot = 0 := by
    intro l hl
    by_cases hd : l.slot = 0 ∨ ds.length < l.slot
    · simp [pieceValueIn_eq_zero hd]
    · have h1 := pieces_le_heldBy hl
      have h2 := heldBy_le_reservedIn hr' l.source l.slot
      have h3 := hr.within l.slot .working (by omega) (by have := hr.slots; omega)
      have h4 := hs l.slot
      rw [hw l hl] at h1 h2
      simp only [StockSlot.area, StockSlot.pieces] at h3 h4
      simp [show l.pieces = 0 by omega]
  have : linesValueIn ds r.lines = 0 := by
    simpa [linesValueIn, List.sum_eq_zero_iff] using hzero
  omega

theorem Change.keeps_floats {v w : View} (h : Change v w) (hf : View.Floats v.till v.reservations v.denoms)
    (hr : View.Reserves v.denoms v.slot v.reservations v.bag) : View.Floats w.till w.reservations w.denoms := by
  cases h with
  | figures n t h =>
    simp only [Till.session, Prod.mk.injEq] at h
    obtain ⟨hs, hp, -, -, -⟩ := h
    exact hf.update n t (by rw [hs]) hp
  | listed n hs hl => exact hf.update n _ .rfl rfl
  | unlisted n => exact hf.update n _ .rfl rfl
  | reconciled n i hs hb => exact hf.update n _ (by simp [hs]) rfl
  | joined n b x hb hx hn hs => exact hf.update n _ .rfl rfl
  | drained n hs hl => exact hf.update n _ (by simp [hs]) rfl
  | withdrawn n hs =>
    intro m
    by_cases hm : m = n
    · subst hm
      have hq : floatsOf (v.without (.till m)) m = [] := floatsOf_filter_of_drop _ _ _ (by simp +contextual)
      simp only [Function.update_self, hq]
      apply View.FloatOf.idle
      · obtain ⟨c, hc⟩ := Option.isSome_iff_exists.1 ((hf m).composed.1 hs)
        rcases (hf m).prior c hc with hp | hp <;> simp [hc, hp]
      · rfl
    · have hq : floatsOf (v.without (.till n)) m = floatsOf v.reservations m :=
        floatsOf_filter_of_keep _ _ _ (by simp +contextual [hm])
      simpa [Function.update_of_ne hm, hq] using hf m
  | unreserved n hs =>
    refine hf.of_floatsOf (fun m hm => ?_) fun m hm => ?_
    · exact floatsOf_filter_of_keep _ _ _ (by grind)
    · have := (hf m).lines_eq_nil hm
      rw [List.eq_nil_iff_forall_not_mem] at this ⊢
      intro r hr
      obtain ⟨hr, ho⟩ := mem_floatsOf.1 hr
      exact this r (mem_floatsOf.2 ⟨List.mem_of_mem_filter hr, ho⟩)
  | swept p hs hp ht =>
    refine hf.of_floatsOf (fun m hm => absurd hm (hs hf m)) fun m _ => ?_
    exact floatsOf_filter_of_drop _ _ _ fun r => ht r m
  | defined ds hds hs hb =>
    intro m
    have hm := hf.not_composed hr hs m
    exact (hf m).lines_eq_nil hm ▸ View.FloatOf.idle ds hm ((hf m).pending_eq_none hm)
  | assembled c b x r hb hk hs hc ht hq ho hl hn hw hlen =>
    have hfl : ∀ m, floatsOf (v.reservations ++ [r]) m = floatsOf v.reservations m := fun m => by
      rw [floatsOf_append]
      simp [floatsOf, ho]
    exact fun m => hfl m ▸ hf m
  | sealed b n x slot hb h256 hk hs hq hfit hslot hout =>
    have hfl : ∀ m, floatsOf (v.without (.bag b)) m = floatsOf v.reservations m :=
      fun m => floatsOf_filter_of_keep _ _ _ (by simp +contextual)
    exact fun m => hfl m ▸ hf m
  | discarded b x hb hk hs =>
    have hfl : ∀ m, floatsOf (v.without (.bag b)) m = floatsOf v.reservations m :=
      fun m => floatsOf_filter_of_keep _ _ _ (by simp +contextual)
    exact fun m => hfl m ▸ hf m
  | _ => exact hf

end Sys2Proof.Machine
end

section

/-! PROOFS. Changes: the bags of a change.

    What a change makes of the bags, one equation per change. -/

namespace Sys2Proof.Machine

/-! ### What a change makes of the bags -/

/-- A record as it was, but for its state, its consignment and its seal: it does not begin to be assembled or to be an orphan. -/
structure Bag.Becomes (x y : Bag) : Prop where
  lines      : y.lines = x.lines
  kind       : y.kind = x.kind
  till       : y.till = x.till
  assembling : y.state = .assembling → x.state = .assembling
  orphan     : y.state = .orphan → x.state = .orphan

theorem Bag.Becomes.refl (x : Bag) : x.Becomes x := ⟨rfl, rfl, rfl, id, id⟩

/-- A record moved to a state in which it is neither assembled nor an orphan. -/
theorem Bag.Becomes.state (x : Bag) {st : BagState} (ha : st ≠ .assembling) (ho : st ≠ .orphan) : x.Becomes { x with state := st } :=
  ⟨rfl, rfl, rfl, fun h => absurd h ha, fun h => absurd h ho⟩

/-- Every record of a register comes from one of another. -/
def BagsFrom (bag bag' : Nat → Option Bag) : Prop := ∀ b y, bag' b = some y → ∃ x, bag b = some x ∧ x.Becomes y

theorem BagsFrom.refl (bag : Nat → Option Bag) : BagsFrom bag bag := fun _ y h => ⟨y, h, .refl y⟩

theorem BagsFrom.set {bag : Nat → Option Bag} {b : Nat} {x y : Bag} (hb : bag b = some x) (h : x.Becomes y) :
    BagsFrom bag (Function.update bag b (some y)) := by
  intro c z hc
  rw [Function.update_apply] at hc
  split at hc
  · rename_i hcb
    obtain rfl : y = z := by simpa using hc
    exact ⟨x, hcb ▸ hb, h⟩
  · exact ⟨z, hc, .refl z⟩

theorem BagsFrom.map {bag : Nat → Option Bag} (b : Nat) {g : Bag → Bag} (h : ∀ x, bag b = some x → x.Becomes (g x)) :
    BagsFrom bag (Function.update bag b ((bag b).map g)) := by
  cases hb : bag b with
  | none =>
    rw [Option.map_none, ← hb, Function.update_eq_self]
    exact .refl bag
  | some x => exact .set hb (h x hb)

theorem BagsFrom.erase (bag : Nat → Option Bag) (b : Nat) : BagsFrom bag (Function.update bag b none) := by
  intro c z hc
  rw [Function.update_apply] at hc
  split at hc
  · simp at hc
  · exact ⟨z, hc, .refl z⟩

theorem BagsFrom.changeBags (v : View) (bs : List Nat) {g : Bag → Bag} (h : ∀ x : Bag, x.Becomes (g x)) :
    BagsFrom v.bag (v.changeBags bs g) := by
  intro c z hc
  unfold View.changeBags at hc
  split at hc
  · obtain ⟨x, hx, rfl⟩ := Option.map_eq_some_iff.1 hc
    exact ⟨x, hx, h x⟩
  · exact ⟨z, hc, .refl z⟩

/-- A change enters a new record, whose lines name no slot twice and whose reservation, if it is being assembled, stands. -/
structure View.Registers (v w : View) (b : Nat) (x : Bag) : Prop where
  free       : v.bag b = none
  bag        : w.bag = Function.update v.bag b (some x)
  lines      : (x.lines.map ContentLine.slot).Nodup
  orphan     : x.state = .orphan → x.kind = .unknown
  assembling : x.state = .assembling → ∃ r ∈ w.reservations, r.owner = .bag b ∧ r.lines = x.lines
  dispatched : ∀ d, x.dispatched d = 0

theorem Bag.Fresh.not_assembling {v : View} {x : Bag} (h : x.Fresh v) : x.state ≠ .assembling := by
  rcases h.state with h | h | h | h <;> simp [h]

theorem Bag.Fresh.registers {v w : View} {b : Nat} {x : Bag} (h : x.Fresh v) (hb : v.bag b = none)
    (hw : w.bag = Function.update v.bag b (some x)) : v.Registers w b x where
  free := hb
  bag := hw
  lines := by simp [h.lines]
  orphan := h.orphan
  assembling ha := absurd ha h.not_assembling
  dispatched d := by simp [Bag.dispatched, h.lines, heldBy]

theorem Moves.not_assembling {a st : BagState} (h : Moves a st) : st ≠ .assembling := by cases h <;> simp

theorem Moves.not_orphan {a st : BagState} (h : Moves a st) : st ≠ .orphan := by cases h <;> simp

/-- A change enters one new bag record, or none. -/
theorem Change.bags {v w : View} (h : Change v w) : BagsFrom v.bag w.bag ∨ ∃ b x, v.Registers w b x := by
  cases h with
  | joined n b x hb hx hn hs => exact .inr ⟨b, x, hx.registers hb rfl⟩
  | expected c b x hb hx ht hk hc => exact .inr ⟨b, x, hx.registers hb rfl⟩
  | created b x hb hx ht => exact .inr ⟨b, x, hx.registers hb rfl⟩
  | assembled c b x r hb hk hs hc ht hq ho hl hn hw hr =>
    exact .inr ⟨b, x, hb, rfl, hn, by simp [hs], fun _ => ⟨r, by simp, ho, hl⟩, by simp [Bag.dispatched, hs]⟩
  | sealed b n x slot hb h256 hk hs hq hfit hslot hout => exact .inl (.set hb ⟨rfl, rfl, rfl, by simp, by simp⟩)
  | discarded b x hb hk hs => exact .inl (.erase _ _)
  | unsealed b x slot hb h256 hk hs hfit hslot hout => exact .inl (.erase _ _)
  | handedOver c outs slot q ho h256 hslot hq => exact .inl (.changeBags _ _ fun x => .state x (by simp) (by simp))
  | takenIn => exact .inl (.changeBags _ _ fun x => .state x (by simp) (by simp))
  | left c => exact .inl (.changeBags _ _ fun x => ⟨rfl, rfl, rfl, id, id⟩)
  | unattached c => exact .inl (.changeBags _ _ fun x => ⟨rfl, rfl, rfl, id, id⟩)
  | attached c b x hb hn ho hk => exact .inl (.set hb ⟨rfl, rfl, rfl, id, id⟩)
  | removed b x hb hs => exact .inl (.erase _ _)
  | moved b x st hb hm hr => exact .inl (.set hb (.state x hm.not_assembling hm.not_orphan))
  | scannedIn b x hb hs => exact .inl (.set hb (.state x (by simp) (by simp)))
  | queued b x p o hb hs hq => exact .inl (.set hb (.state x (by simp) (by simp)))
  | assigned b ns hb hn h1 h2 hi => exact .inl (.map b fun x _ => .state x (by simp) (by simp))
  | requeued b x p o duty he hb hq => exact .inl (.set hb (.state x (by simp) (by simp)))
  | parked b st duty he hs => exact .inl (.map b fun x _ => .state x (by rcases hs with h | h <;> simp [h]) (by rcases hs with h | h <;> simp [h]))
  | withheld b duty he => exact .inl (.map b fun x _ => .state x (by simp) (by simp))
  | retried b hb => exact .inl (.map b fun x _ => .state x (by simp) (by simp))
  | stopped bs p o bag hn hc hbag hq =>
    refine .inl fun c y hy => ?_
    simp only [hbag] at hy
    obtain ⟨x, hx, rfl⟩ := Option.map_eq_some_iff.1 hy
    refine ⟨x, hx, ?_⟩
    split
    · split
      · exact .state x (by simp) (by simp)
      · exact .state x (by simp) (by simp)
    · exact .refl x
  | _ => exact .inl (.refl _)

/-- The reservation of a bag stays while the bag is being assembled. -/
theorem Change.keeps_bag_reservation {v w : View} (h : Change v w) {r : Reservation} {b : Nat} {y : Bag}
    (hr : r ∈ v.reservations) (ho : r.owner = .bag b) (hy : w.bag b = some y) (ha : y.state = .assembling) :
    r ∈ w.reservations := by
  cases h with
  | withdrawn n hs => exact List.mem_filter.2 ⟨hr, by simp [ho]⟩
  | unreserved n hs => exact List.mem_filter.2 ⟨hr, by simp [ho]⟩
  | swept p hs hp ht => exact List.mem_filter.2 ⟨hr, hp r b ho⟩
  | assembled c b x r hb hk hs hc ht hq ho hl hn hw hr => simp_all
  | sealed c n x slot hb h256 hk hs hq hfit hslot hout =>
    have hc : b ≠ c := by
      rintro rfl
      simp only [Function.update_self, Option.some.injEq] at hy
      subst hy
      simp at ha
    exact List.mem_filter.2 ⟨hr, by simp [ho, hc]⟩
  | discarded c x hb hk hs =>
    have hc : b ≠ c := by
      rintro rfl
      simp at hy
    exact List.mem_filter.2 ⟨hr, by simp [ho, hc]⟩
  | _ => exact hr

/-! ### The areas and their reservations -/

/-- The bags' clauses of the laws of the areas and of the reservations. -/
theorem Change.keeps_lines {v w : View} (h : Change v w)
    (hl : ∀ b x, v.bag b = some x → (x.lines.map ContentLine.slot).Nodup) :
    ∀ b x, w.bag b = some x → (x.lines.map ContentLine.slot).Nodup := by
  intro b y hy
  rcases h.bags with hb | ⟨c, x, hx⟩
  · obtain ⟨x, hx, hxy⟩ := hb b y hy
    exact hxy.lines ▸ hl b x hx
  · rw [hx.bag, Function.update_apply] at hy
    split at hy
    · obtain rfl := Option.some.inj hy
      exact hx.lines
    · exact hl b y hy

theorem Change.keeps_covered {v w : View} (h : Change v w)
    (hc : ∀ b x, v.bag b = some x → x.kind = .outbound → x.state = .assembling → ∃ r ∈ v.reservations, r.owner = .bag b ∧ r.lines = x.lines) :
    ∀ b x, w.bag b = some x → x.kind = .outbound → x.state = .assembling → ∃ r ∈ w.reservations, r.owner = .bag b ∧ r.lines = x.lines := by
  intro b y hy hk ha
  rcases h.bags with hb | ⟨c, x, hx⟩
  · obtain ⟨x, hx, hxy⟩ := hb b y hy
    obtain ⟨r, hr, ho, hl⟩ := hc b x hx (hxy.kind ▸ hk) (hxy.assembling ha)
    exact ⟨r, h.keeps_bag_reservation hr ho hy ha, ho, hl.trans hxy.lines.symm⟩
  · have hy' := hy
    rw [hx.bag, Function.update_apply] at hy'
    split at hy'
    · rename_i hbc
      obtain rfl := Option.some.inj hy'
      exact hbc ▸ hx.assembling ha
    · obtain ⟨r, hr, ho, hl⟩ := hc b y hy' hk ha
      exact ⟨r, h.keeps_bag_reservation hr ho hy ha, ho, hl⟩

end Sys2Proof.Machine
end

section

/-! PROOFS. Changes: the stock of a change.

    The areas and what is reserved from them, across a change. -/

namespace Sys2Proof.Machine

/-- Lines of other slots hold nothing of a slot. -/
theorem heldBy_of_not_mem {ls : List ContentLine} {d : Nat} (h : ∀ l ∈ ls, l.slot ≠ d) (a : Source) : heldBy ls a d = 0 := by
  have : (ls.filter fun l => decide (l.slot = d) && decide (l.source = a)) = [] := by
    rw [List.filter_eq_nil_iff]
    intro l hl
    simp [h l hl]
  simp [heldBy, this]

/-- Where lines name no slot twice, one line holds all of a slot, or none does. -/
theorem heldBy_of_nodup {ls : List ContentLine} (h : (ls.map ContentLine.slot).Nodup) (d : Nat) :
    (∀ a, heldBy ls a d = 0) ∨
      ∃ l ∈ ls, l.slot = d ∧ ∀ a, heldBy ls a d = if l.source = a then l.pieces else 0 := by
  induction ls with
  | nil => exact .inl fun a => rfl
  | cons l ls ih =>
    simp only [List.map_cons, List.nodup_cons] at h
    obtain ⟨hl, h⟩ := h
    by_cases hd : l.slot = d
    · refine .inr ⟨l, by simp, hd, fun a => ?_⟩
      have hne : ∀ m ∈ ls, m.slot ≠ d := fun m hm he => hl (List.mem_map.2 ⟨m, hm, he.trans hd.symm⟩)
      rw [heldBy_cons, heldBy_of_not_mem hne]
      simp [hd]
    · rcases ih h with h0 | ⟨m, hm, hmd, hma⟩
      · exact .inl fun a => by simp [heldBy_cons, hd, h0]
      · exact .inr ⟨m, by simp [hm], hmd, fun a => by simp [heldBy_cons, hd, hma]⟩

/-- No slot of a table passes the limit, where one that has a line fits. -/
theorem add_piecesOf_le {ls : List ContentLine} (h : (ls.map ContentLine.slot).Nodup) {d n : Nat} (hn : n ≤ pieceLimit)
    (hfit : ∀ l ∈ ls, l.slot = d → n + l.pieces ≤ pieceLimit) : n + piecesOf ls d ≤ pieceLimit := by
  rcases heldBy_of_nodup h d with h0 | ⟨l, hl, hd, hh⟩
  · simpa [piecesOf, h0] using hn
  · have := hfit l hl hd
    cases hs : l.source <;> simpa [piecesOf, hh, hs] using this

theorem add_heldBy_le {ls : List ContentLine} (h : (ls.map ContentLine.slot).Nodup) {d n : Nat} {a : Source} (hn : n ≤ pieceLimit)
    (hfit : ∀ l ∈ ls, l.slot = d → l.source = a → n + l.pieces ≤ pieceLimit) : n + heldBy ls a d ≤ pieceLimit := by
  rcases heldBy_of_nodup h d with h0 | ⟨l, hl, hd, hh⟩
  · simpa [h0] using hn
  · rw [hh]
    split
    · exact hfit l hl hd ‹_›
    · simpa using hn

theorem Change.keeps_areas {v w : View} (h : Change v w) (ha : View.Areas v.slot v.bag) :
    View.Areas w.slot w.bag := by
  refine ⟨?_, h.keeps_lines ha.lines⟩
  cases h with
  | traded slot q hl hd hr hv => exact fun d => hl d (ha.limit d)
  | defined ds hds hs hb =>
    intro d
    obtain ⟨hw, hr, hu, hd, hs⟩ := ha.limit d
    exact ⟨hw, hr, hu, hd, Nat.zero_le _⟩
  | sealed b n x slot hb h256 hk hs hq hfit hslot hout =>
    intro d
    show (slot d).Limited
    by_cases hd : 1 ≤ d ∧ d ≤ 12
    · obtain ⟨hw, hr, hu, hdp, hsu⟩ := ha.limit d
      obtain ⟨ew, eu, ed, er, es⟩ := hslot d hd.1 hd.2
      have hp := add_piecesOf_le (ha.lines b x hb) hdp fun l hl hld => by
        have := hfit l hl
        rwa [hld] at this
      exact ⟨by omega, by omega, by omega, by omega, by omega⟩
    · rw [hout d hd]
      exact ha.limit d
  | unsealed b x slot hb h256 hk hs hfit hslot hout =>
    intro d
    show (slot d).Limited
    by_cases hd : 1 ≤ d ∧ d ≤ 12
    · obtain ⟨hw, hr, hu, hdp, hsu⟩ := ha.limit d
      obtain ⟨ew, eu, ed, er, es⟩ := hslot d hd.1 hd.2
      have hp := add_heldBy_le (a := .working) (ha.lines b x hb) hw fun l hl hld hla => by
        have := hfit l hl
        rwa [hld, hla] at this
      have hq := add_heldBy_le (a := .unfit) (ha.lines b x hb) hu fun l hl hld hla => by
        have := hfit l hl
        rwa [hld, hla] at this
      exact ⟨by omega, by omega, by omega, by omega, by omega⟩
    · rw [hout d hd]
      exact ha.limit d
  | handedOver c outs slot q ho h256 hslot hq =>
    intro d
    obtain ⟨hw, hr, hu, hdp, hsu⟩ := ha.limit d
    simp only [hslot d]
    exact ⟨hw, hr, hu, (Nat.sub_le _ _).trans hdp, hsu⟩
  | _ => exact ha.limit

/-- Reservations dropped leave the rest within its area. -/
theorem reservedIn_filter_trans {rs : List Reservation} {p : Reservation → Bool} {a : Source} {d n : Nat}
    (h : reservedIn rs a d ≤ n) : reservedIn (rs.filter p) a d ≤ n :=
  (reservedIn_filter_le rs p a d).trans h

theorem Change.keeps_reserves {v w : View} (h : Change v w)
    (hr : View.Reserves v.denoms v.slot v.reservations v.bag) : View.Reserves w.denoms w.slot w.reservations w.bag := by
  have hcov := h.keeps_covered hr.covered
  cases h with
  | withdrawn n hs => exact ⟨hr.slots, fun d a h1 h2 => reservedIn_filter_trans (hr.within d a h1 h2), hcov⟩
  | unreserved n hs => exact ⟨hr.slots, fun d a h1 h2 => reservedIn_filter_trans (hr.within d a h1 h2), hcov⟩
  | swept p hs hp ht => exact ⟨hr.slots, fun d a h1 h2 => reservedIn_filter_trans (hr.within d a h1 h2), hcov⟩
  | traded slot q hl hd hres hv => exact ⟨hr.slots, fun d a h1 h2 => hres d a (hr.within d a h1 h2), hcov⟩
  | defined ds hds hs hb =>
    refine ⟨hds, fun d a h1 h2 => ?_, hcov⟩
    have := hr.within d a h1 h2
    cases a <;> exact this
  | assembled c b x r hb hk hs hc ht hq ho hl hn hw hlen =>
    refine ⟨hr.slots, fun d a h1 h2 => ?_, hcov⟩
    rw [reservedIn_append, reservedIn_singleton, hl]
    exact hw d a (hr.within d a h1 h2)
  | sealed b n x slot hb h256 hk hs hq hfit hslot hout =>
    refine ⟨hr.slots, fun d a h1 h2 => ?_, hcov⟩
    obtain ⟨r, hmem, ho, hl⟩ := hr.covered b x hb hk hs
    have hsum := heldBy_add_without_le hmem a d
    have hwithin := hr.within d a h1 h2
    obtain ⟨ew, eu, -, -, -⟩ := hslot d h1 h2
    rw [hl, ho] at hsum
    cases a <;> simp only [StockSlot.area, View.without, ew, eu] at * <;> omega
  | discarded b x hb hk hs => exact ⟨hr.slots, fun d a h1 h2 => reservedIn_filter_trans (hr.within d a h1 h2), hcov⟩
  | unsealed b x slot hb h256 hk hs hfit hslot hout =>
    refine ⟨hr.slots, fun d a h1 h2 => ?_, hcov⟩
    have hwithin := hr.within d a h1 h2
    obtain ⟨ew, eu, -, -, -⟩ := hslot d h1 h2
    cases a <;> simp only [StockSlot.area, ew, eu] at * <;> omega
  | handedOver c outs slot q ho h256 hslot hq =>
    refine ⟨hr.slots, fun d a h1 h2 => ?_, hcov⟩
    have hwithin := hr.within d a h1 h2
    cases a <;> simpa only [StockSlot.area, hslot] using hwithin
  | _ => exact ⟨hr.slots, hr.within, hcov⟩

end Sys2Proof.Machine
end

section

/-! PROOFS. Changes: custody.

    Every change keeps each bag where its state says. -/

namespace Sys2Proof.Machine

/-! ### Custody -/

/-- The list of a state goes with the bags that have it. -/
theorem View.Stands.congr {bag bag' : Nat → Option Bag} {bs : List Nat} {st : BagState} (h : View.Stands bag bs st)
    (hs : ∀ b, (bag' b).map Bag.state = some st ↔ (bag b).map Bag.state = some st) : View.Stands bag' bs st :=
  ⟨h.once, fun b => (h.mem b).trans (hs b).symm⟩

/-- One bag changes, and the list with it. -/
theorem View.Stands.update {bag : Nat → Option Bag} {bs cs : List Nat} {st : BagState} (h : View.Stands bag bs st) {b : Nat}
    {o : Option Bag} (hc : cs.Nodup) (hm : ∀ c, c ≠ b → (c ∈ cs ↔ c ∈ bs)) (hb : b ∈ cs ↔ o.map Bag.state = some st) :
    View.Stands (Function.update bag b o) cs st := by
  refine ⟨hc, fun c => ?_⟩
  rw [Function.update_apply]
  split
  · rename_i hcb
    rw [hcb, hb]
  · rename_i hcb
    rw [hm c hcb, h.mem c]

/-- A bag goes from one state that the list does not follow to another. -/
theorem View.Stands.pass {bag : Nat → Option Bag} {bs : List Nat} {st : BagState} (h : View.Stands bag bs st) {b : Nat}
    {o : Option Bag} (h1 : (bag b).map Bag.state ≠ some st) (h2 : o.map Bag.state ≠ some st) :
    View.Stands (Function.update bag b o) bs st :=
  h.update h.once (fun _ _ => .rfl) (by rw [h.mem b]; exact iff_of_false h1 h2)

/-- A bag enters the state, and the list. -/
theorem View.Stands.enter {bag : Nat → Option Bag} {bs cs : List Nat} {st : BagState} (h : View.Stands bag bs st) {b : Nat}
    {o : Option Bag} (h1 : (bag b).map Bag.state ≠ some st) (h2 : o.map Bag.state = some st) (hp : cs.Perm (b :: bs)) :
    View.Stands (Function.update bag b o) cs st := by
  have hb : b ∉ bs := fun hb => h1 ((h.mem b).1 hb)
  refine h.update (hp.nodup_iff.2 (List.nodup_cons.2 ⟨hb, h.once⟩)) (fun c hc => ?_) ?_
  · rw [hp.mem_iff]
    simp [hc]
  · rw [hp.mem_iff]
    simp [h2]

/-- A bag leaves the state, and the list. -/
theorem View.Stands.leave {bag : Nat → Option Bag} {bs : List Nat} {st : BagState} (h : View.Stands bag bs st) {b : Nat}
    {o : Option Bag} (h2 : o.map Bag.state ≠ some st) :
    View.Stands (Function.update bag b o) (bs.filter fun q => decide (q ≠ b)) st :=
  h.update (h.once.filter _) (fun c hc => by simp [hc]) (by simpa using h2)

/-- Seals stand as they stood, or leave. -/
theorem View.Seals.of_from {bag bag' : Nat → Option Bag} (h : View.Seals bag)
    (hf : ∀ b y, bag' b = some y → y.state ≠ .orphan → ∃ x, bag b = some x ∧ x.state ≠ .orphan ∧ x.sealNo = y.sealNo) :
    View.Seals bag' := by
  intro b c x y hb hc hx hy hn he
  obtain ⟨x', hb', hx', hbx⟩ := hf b x hb hx
  obtain ⟨y', hc', hy', hcy⟩ := hf c y hc hy
  exact h b c x' y' hb' hc' hx' hy' (hbx ▸ hn) (by rw [hbx, hcy, he])

/-- A record takes a seal that no other live record carries. -/
theorem View.Seals.enter {bag : Nat → Option Bag} (h : View.Seals bag) (b : Nat) {x : Bag}
    (hx : x.state ≠ .orphan → x.sealNo ≠ none → ∀ c y, c ≠ b → bag c = some y → y.state ≠ .orphan → x.sealNo ≠ y.sealNo) :
    View.Seals (Function.update bag b (some x)) := by
  intro c d y z hc hd hy hz hn he
  rw [Function.update_apply] at hc hd
  split at hc <;> split at hd
  · simp_all
  · obtain rfl := Option.some.inj hc
    exact absurd he (hx hy hn d z ‹_› hd hz)
  · obtain rfl := Option.some.inj hd
    exact absurd he.symm (hx hz (he ▸ hn) c y ‹_› hc hy)
  · exact h c d y z hc hd hy hz hn he

/-- A record keeps its seal, and was live where it is. -/
theorem View.Seals.set {bag : Nat → Option Bag} (h : View.Seals bag) {b : Nat} {x : Bag} {o : Option Bag} (hb : bag b = some x)
    (ho : ∀ y, o = some y → y.sealNo = x.sealNo ∧ (y.state ≠ .orphan → x.state ≠ .orphan)) :
    View.Seals (Function.update bag b o) := by
  refine h.of_from fun c y hc hy => ?_
  rw [Function.update_apply] at hc
  split at hc
  · rename_i hcb
    obtain ⟨hs, ho⟩ := ho y hc
    exact ⟨x, hcb ▸ hb, ho hy, hs.symm⟩
  · exact ⟨y, hc, hy, rfl⟩

/-- Records change, each with its seal, and are live where they were. -/
theorem View.Seals.changeBags {v : View} (h : View.Seals v.bag) (bs : List Nat) {g : Bag → Bag}
    (hg : ∀ b ∈ bs, ∀ x, v.bag b = some x → (g x).sealNo = x.sealNo ∧ ((g x).state ≠ .orphan → x.state ≠ .orphan)) :
    View.Seals (v.changeBags bs g) := by
  refine h.of_from fun c y hc hy => ?_
  unfold View.changeBags at hc
  split at hc
  · obtain ⟨x, hx, rfl⟩ := Option.map_eq_some_iff.1 hc
    obtain ⟨hs, ho⟩ := hg c ‹_› x hx
    exact ⟨x, hx, ho hy, hs.symm⟩
  · exact ⟨y, hc, hy, rfl⟩

/-- The states whose bags stand in a list. -/
def BagState.Listed (st : BagState) : Prop := st = .queued ∨ st = .counting ∨ st = .creditHeld

/-- Bags change, but none to or from a state that a list follows. -/
theorem View.Custody.quiet {bag bag' : Nat → Option Bag} {queue jobs held received : List Nat} {duty : Nat → Duty}
    (h : View.Custody bag queue jobs held received duty)
    (hs : ∀ st b, st.Listed → ((bag' b).map Bag.state = some st ↔ (bag b).map Bag.state = some st))
    (hr : ∀ b ∈ received, (bag' b).map Bag.state = some .received) (hq : View.Seals bag') :
    View.Custody bag' queue jobs held received duty where
  queued := h.queued.congr fun b => hs _ b (.inl rfl)
  counting := h.counting.congr fun b => hs _ b (.inr (.inl rfl))
  stations := h.stations
  credited := h.credited.congr fun b => hs _ b (.inr (.inr rfl))
  received := ⟨h.received.1, hr⟩
  seals := hq

/-- A RECEIVED bag of the handover stays, where another bag changes. -/
theorem View.Custody.received_update {bag : Nat → Option Bag} {queue jobs held received : List Nat} {duty : Nat → Duty}
    (h : View.Custody bag queue jobs held received duty) {b : Nat} (o : Option Bag)
    (hb : (bag b).map Bag.state = some .received → b ∉ received) :
    received.Nodup ∧ ∀ c ∈ received, (Function.update bag b o c).map Bag.state = some .received := by
  refine ⟨h.received.1, fun c hc => ?_⟩
  have hcr := h.received.2 c hc
  have hcb : c ≠ b := by
    rintro rfl
    exact hb hcr hc
  rw [Function.update_of_ne hcb]
  exact hcr

/-- One bag changes, but not to or from a state that a list follows. -/
theorem View.Custody.pass {bag : Nat → Option Bag} {queue jobs held received : List Nat} {duty : Nat → Duty}
    (h : View.Custody bag queue jobs held received duty) {b : Nat} {o : Option Bag}
    (h1 : ∀ st, (bag b).map Bag.state = some st → ¬ st.Listed) (h2 : ∀ st, o.map Bag.state = some st → ¬ st.Listed)
    (hr : (bag b).map Bag.state = some .received → b ∉ received) (hq : View.Seals (Function.update bag b o)) :
    View.Custody (Function.update bag b o) queue jobs held received duty where
  queued := h.queued.pass (fun e => h1 _ e (.inl rfl)) fun e => h2 _ e (.inl rfl)
  counting := h.counting.pass (fun e => h1 _ e (.inr (.inl rfl))) fun e => h2 _ e (.inr (.inl rfl))
  stations := h.stations
  credited := h.credited.pass (fun e => h1 _ e (.inr (.inr rfl))) fun e => h2 _ e (.inr (.inr rfl))
  received := h.received_update o hr
  seals := hq

/-- A new record of no listed state. -/
theorem View.Custody.register {bag : Nat → Option Bag} {queue jobs held received : List Nat} {duty : Nat → Duty}
    (h : View.Custody bag queue jobs held received duty) {b : Nat} {x : Bag} (hb : bag b = none) (hx : ¬ x.state.Listed)
    (hq : x.state ≠ .orphan → x.sealNo ≠ none → ∀ c y, bag c = some y → y.state ≠ .orphan → x.sealNo ≠ y.sealNo) :
    View.Custody (Function.update bag b (some x)) queue jobs held received duty :=
  h.pass (by simp [hb]) (by simpa using hx) (by simp [hb]) (h.seals.enter b fun hs hn c y _ hy => hq hs hn c y hy)

theorem Bag.Fresh.not_listed {v : View} {x : Bag} (h : x.Fresh v) : ¬ x.state.Listed := by
  rcases h.state with h | h | h | h <;> simp [BagState.Listed, h]

theorem Moves.not_listed {a st : BagState} (h : Moves a st) : ¬ a.Listed ∧ ¬ st.Listed ∧ a ≠ .orphan ∧ a ≠ .counting := by
  cases h <;> grind [BagState.Listed]

/-- The bag of a job that ends is COUNTING. -/
theorem View.EndsJob.counting {v : View} {b : Nat} {duty : Nat → Duty} (he : v.EndsJob b duty)
    (hc : View.Custody v.bag v.queue v.jobs v.held v.received v.duty) : ∃ x, v.bag b = some x ∧ x.state = .counting := by
  have hb : b ∈ v.jobs := by
    rcases he.stood with h | ⟨n, hn⟩
    · exact h
    · exact hc.stations n b hn
  exact Option.map_eq_some_iff.1 ((hc.counting.mem b).1 hb)

/-- The stations left with a bag have one of another job. -/
theorem View.EndsJob.stations {v : View} {b : Nat} {duty : Nat → Duty} (he : v.EndsJob b duty)
    (hc : View.Custody v.bag v.queue v.jobs v.held v.received v.duty) (n c : Nat) (hn : (duty n).bag = some c) :
    c ∈ v.jobs.filter fun q => decide (q ≠ b) := by
  by_cases hb : (v.duty n).bag = some b
  · simp [(he.freed n hb).1] at hn
  · rw [he.left n hb] at hn
    have := hc.stations n c hn
    grind

/-- The order in a list is no matter. -/
theorem View.Stands.perm {bag : Nat → Option Bag} {bs cs : List Nat} {st : BagState} (h : View.Stands bag bs st)
    (hp : cs.Perm bs) : View.Stands bag cs st :=
  ⟨hp.nodup_iff.2 h.once, fun b => hp.mem_iff.trans (h.mem b)⟩

/-- Several bags enter the state, and the list. -/
theorem View.Stands.enterAll {bag bag' : Nat → Option Bag} {bs cs ds : List Nat} {st : BagState} (h : View.Stands bag bs st)
    (hn : ds.Nodup) (hd : ∀ b ∈ ds, (bag b).map Bag.state ≠ some st) (hp : cs.Perm (ds ++ bs))
    (hs : ∀ b, (bag' b).map Bag.state = some st ↔ b ∈ ds ∨ (bag b).map Bag.state = some st) : View.Stands bag' cs st := by
  refine ⟨hp.nodup_iff.2 (List.nodup_append.2 ⟨hn, h.once, fun a ha b hb hab => ?_⟩), fun b => ?_⟩
  · exact hd a ha ((h.mem a).1 (hab ▸ hb))
  · rw [hp.mem_iff, List.mem_append, hs b, h.mem b]

theorem View.mem_standing {v : View} {bs : List Nat} {st : BagState} {b : Nat} :
    b ∈ v.standing bs st ↔ b ∈ bs ∧ (v.bag b).map Bag.state = some st := by
  simp [View.standing]

/-- Records change, not their states. -/
theorem View.changeBags_state {v : View} (bs : List Nat) {g : Bag → Bag} (hg : ∀ x, (g x).state = x.state) (b : Nat) :
    (v.changeBags bs g b).map Bag.state = (v.bag b).map Bag.state := by
  unfold View.changeBags
  split
  · cases v.bag b <;> simp [hg]
  · rfl

/-- The bags of a list that stand in a state move to another. -/
theorem View.standing_moved_state (v : View) (bs : List Nat) (st tt : BagState) (b : Nat) :
    (v.changeBags (v.standing bs st) (fun x => { x with state := tt }) b).map Bag.state =
      if b ∈ v.standing bs st then some tt else (v.bag b).map Bag.state := by
  unfold View.changeBags
  split
  · rename_i hb
    obtain ⟨x, hx, -⟩ := Option.map_eq_some_iff.1 (View.mem_standing.1 hb).2
    simp [hx]
  · rfl

theorem View.Seals.standing_moved {v : View} (h : View.Seals v.bag) (bs : List Nat) {st tt : BagState} (hst : st ≠ .orphan) :
    View.Seals (v.changeBags (v.standing bs st) fun x => { x with state := tt }) := by
  refine h.changeBags _ fun b hb x hx => ⟨rfl, fun _ => ?_⟩
  have := (View.mem_standing.1 hb).2
  rw [hx] at this
  obtain rfl : x.state = st := by simpa using this
  exact hst

/-- Records change, each with its state and its seal. -/
theorem View.Custody.changeBags {v : View} {queue jobs held received : List Nat} {duty : Nat → Duty}
    (h : View.Custody v.bag queue jobs held received duty) (bs : List Nat) {g : Bag → Bag} (hs : ∀ x, (g x).state = x.state)
    (hq : ∀ x, (g x).sealNo = x.sealNo) : View.Custody (v.changeBags bs g) queue jobs held received duty := by
  refine h.quiet (fun st b _ => ?_) (fun b hb => ?_) (h.seals.changeBags _ fun _ _ x _ => ⟨hq x, by rw [hs]; exact id⟩)
  · rw [v.changeBags_state _ hs]
  · rw [v.changeBags_state _ hs]
    exact h.received.2 b hb

/-- A state in the queue is not one of the others. -/
theorem View.Custody.of_mem_queue {bag : Nat → Option Bag} {queue jobs held received : List Nat} {duty : Nat → Duty}
    (h : View.Custody bag queue jobs held received duty) {b : Nat} (hb : b ∈ queue) : ∃ x, bag b = some x ∧ x.state = .queued :=
  Option.map_eq_some_iff.1 ((h.queued.mem b).1 hb)

theorem Change.keeps_custody {v w : View} (h : Change v w)
    (hc : View.Custody v.bag v.queue v.jobs v.held v.received v.duty) :
    View.Custody w.bag w.queue w.jobs w.held w.received w.duty := by
  cases h with
  | joined n b x hb hx hn hs => exact hc.register hb hx.not_listed hx.fresh
  | expected c b x hb hx ht hk hcs => exact hc.register hb hx.not_listed hx.fresh
  | created b x hb hx ht => exact hc.register hb hx.not_listed hx.fresh
  | assembled c b x r hb hk hs hcs ht hq ho hl hn hw hlen =>
    exact hc.register hb (by simp [hs, BagState.Listed]) (by simp [hq])
  | drained n hs hl =>
    refine { hc with queued := hc.queued.perm ?_ }
    rw [View.queue, View.queue, List.append_assoc]
    exact (List.filter_append_perm _ _).append_left _
  | sealed b n x slot hb h256 hk hs hq hfit hslot hout =>
    refine hc.pass (by simp [hb, hs, BagState.Listed]) (by simp [BagState.Listed]) (by simp [hb, hs]) (hc.seals.enter b ?_)
    exact fun _ _ c y _ hy ho => Ne.symm (hq c y hy ho)
  | discarded b x hb hk hs =>
    exact hc.pass (by simp [hb, hs, BagState.Listed]) (by simp) (by simp [hb, hs]) (hc.seals.set hb (by simp))
  | unsealed b x slot hb h256 hk hs hfit hslot hout =>
    exact hc.pass (by simp [hb, hs, BagState.Listed]) (by simp) (by simp [hb, hs]) (hc.seals.set hb (by simp))
  | handedOver c outs slot q ho h256 hslot hq =>
    subst ho
    refine hc.quiet (fun st b hl => ?_) (fun b hb => ?_) (hc.seals.standing_moved _ (by simp))
    · rw [View.standing_moved_state]
      have := @View.mem_standing v (v.outbound c) .scanned b
      grind [BagState.Listed]
    · rw [View.standing_moved_state]
      have := @View.mem_standing v (v.outbound c) .scanned b
      grind [hc.received.2 b hb]
  | takenIn =>
    have hmem := fun b => @View.mem_standing v v.received .received b
    have hstate := v.standing_moved_state v.received .received .queued
    have hcong : ∀ st b, st ≠ .received → st ≠ .queued →
        ((v.changeBags (v.standing v.received .received) (fun x => { x with state := .queued }) b).map Bag.state = some st ↔
          (v.bag b).map Bag.state = some st) := by
      intro st b h1 h2
      rw [hstate]
      grind
    refine ⟨hc.queued.enterAll (ds := v.standing v.received .received) (hc.received.1.filter _) (fun b hb => ?_) ?_ fun b => ?_,
      hc.counting.congr fun b => hcong _ b (by simp) (by simp), hc.stations,
      hc.credited.congr fun b => hcong _ b (by simp) (by simp), by simp, hc.seals.standing_moved _ (by simp)⟩
    · simp [((hmem b).1 hb).2]
    · rw [View.queue, View.queue, ← List.append_assoc]
      exact List.perm_append_comm
    · rw [hstate]
      grind
  | left c => exact hc.changeBags _ (fun _ => rfl) fun _ => rfl
  | unattached c => exact hc.changeBags _ (fun _ => rfl) fun _ => rfl
  | attached c b x hb hn ho hk =>
    have hstate : ∀ d, (Function.update v.bag b (some { x with consignment := some c }) d).map Bag.state =
        (v.bag d).map Bag.state := by
      intro d
      by_cases hd : d = b <;> simp [hd, hb]
    refine hc.quiet (fun st d _ => by rw [hstate]) (fun d hd => ?_) (hc.seals.set hb (by simp [ho]))
    rw [hstate]
    exact hc.received.2 d hd
  | removed b x hb hs =>
    exact hc.pass (by simp [hb, hs, BagState.Listed]) (by simp) (by simp [hb, hs]) (hc.seals.set hb (by simp))
  | moved b x st hb hm hr =>
    obtain ⟨h1, h2, h3, -⟩ := hm.not_listed
    exact hc.pass (by simpa [hb] using h1) (by simpa using h2) (by simpa [hb] using hr) (hc.seals.set hb (by simp [h3]))
  | scannedIn b x hb hs =>
    have hn : b ∉ v.received := fun h => by simpa [hb, hs] using hc.received.2 b h
    refine ⟨hc.queued.pass (by simp [hb, hs]) (by simp), hc.counting.pass (by simp [hb, hs]) (by simp), hc.stations,
      hc.credited.pass (by simp [hb, hs]) (by simp), ⟨?_, fun c h => ?_⟩, hc.seals.set hb (by simp [hs])⟩
    · exact List.nodup_append.2 ⟨hc.received.1, by simp, by grind⟩
    · by_cases hcb : c = b
      · simp [hcb]
      · simpa [hcb] using hc.received.2 c (by simpa [hcb] using h)
  | forgotten => exact { hc with received := by simp }
  | queued b x p o hb hs hq =>
    have hx : ¬ x.state.Listed ∧ x.state ≠ .received ∧ x.state ≠ .orphan := by grind [BagState.Listed]
    obtain ⟨hl, hr, ho⟩ := hx
    simp only [BagState.Listed, not_or] at hl
    obtain ⟨h1, h2, h3⟩ := hl
    exact ⟨hc.queued.enter (by simpa [hb] using h1) rfl hq.perm, hc.counting.pass (by simpa [hb] using h2) (by simp), hc.stations,
      hc.credited.pass (by simpa [hb] using h3) (by simp), hc.received_update _ (by simp [hb, hr]), hc.seals.set hb (by simp [ho])⟩
  | assigned b ns hb hn h1 h2 hi =>
    obtain ⟨x, hx, hs⟩ := hc.of_mem_queue hb
    simp only [hx, Option.map_some]
    refine ⟨?_, ?_, fun n c hnc => ?_, hc.credited.pass (by simp [hx, hs]) (by simp), hc.received_update _ (by simp [hx, hs]),
      hc.seals.set hx (by simp [hs])⟩
    · rw [View.queue, ← List.filter_append]
      exact hc.queued.leave (by simp)
    · exact hc.counting.enter (by simp [hx, hs]) rfl (List.perm_append_singleton _ _)
    · have := hc.stations n c
      grind
  | requeued b x p o duty he hb hq =>
    obtain ⟨y, hy, hs⟩ := he.counting hc
    obtain rfl := Option.some.inj (hb.symm.trans hy)
    exact ⟨hc.queued.enter (by simp [hb, hs]) rfl hq.perm, hc.counting.leave (by simp), he.stations hc,
      hc.credited.pass (by simp [hb, hs]) (by simp), hc.received_update _ (by simp [hb, hs]), hc.seals.set hb (by simp [hs])⟩
  | parked b st duty he hst =>
    obtain ⟨x, hx, hs⟩ := he.counting hc
    simp only [hx, Option.map_some]
    have hst' : st ≠ .queued ∧ st ≠ .counting ∧ st ≠ .creditHeld := by grind
    obtain ⟨h1, h2, h3⟩ := hst'
    exact ⟨hc.queued.pass (by simp [hx, hs]) (by simpa using h1), hc.counting.leave (by simpa using h2), he.stations hc,
      hc.credited.pass (by simp [hx, hs]) (by simpa using h3), hc.received_update _ (by simp [hx, hs]),
      hc.seals.set hx (by simp [hs])⟩
  | withheld b duty he =>
    obtain ⟨x, hx, hs⟩ := he.counting hc
    simp only [hx, Option.map_some]
    exact ⟨hc.queued.pass (by simp [hx, hs]) (by simp), hc.counting.leave (by simp), he.stations hc,
      hc.credited.enter (by simp [hx, hs]) rfl (List.perm_append_singleton _ _), hc.received_update _ (by simp [hx, hs]),
      hc.seals.set hx (by simp [hs])⟩
  | retried b hb =>
    obtain ⟨x, hx, hs⟩ := Option.map_eq_some_iff.1 ((hc.credited.mem b).1 hb)
    simp only [hx, Option.map_some]
    exact ⟨hc.queued.pass (by simp [hx, hs]) (by simp), hc.counting.pass (by simp [hx, hs]) (by simp), hc.stations,
      hc.credited.leave (by simp), hc.received_update _ (by simp [hx, hs]), hc.seals.set hx (by simp [hs])⟩
  | station n d hb hs =>
    refine { hc with stations := fun m b hm => ?_ }
    have := hc.stations m b
    grind [Function.update_apply]
  | stopped bs p o bag hn hcs hbag hq =>
    have hstate : ∀ b, (bag b).map Bag.state =
        if (v.bag b).map Bag.state = some .counting then some (if b ∈ bs then .queued else .countHeld)
        else (v.bag b).map Bag.state := by
      intro b
      rw [hbag]
      cases v.bag b with
      | none => rfl
      | some x => by_cases hx : x.state = .counting <;> simp [hx]
    refine ⟨hc.queued.enterAll hn (fun b hb => by simp [hcs b hb]) hq.perm fun b => ?_, ⟨by simp, fun b => ?_⟩, by simp,
      hc.credited.congr fun b => ?_, ⟨hc.received.1, fun b hb => ?_⟩, hc.seals.of_from fun b y hy ho => ?_⟩
    · have := hcs b
      rw [hstate]
      grind
    · rw [hstate]
      grind
    · rw [hstate]
      grind
    · have := hc.received.2 b hb
      rw [hstate, this]
      simp
    · simp only [hbag] at hy
      obtain ⟨x, hx, rfl⟩ := Option.map_eq_some_iff.1 hy
      refine ⟨x, hx, ?_⟩
      grind
  | _ => exact hc

end Sys2Proof.Machine
end

section

/-! PROOFS. Changes: the consignments' lists.

    Every change keeps the lists of the consignments and the orphans. -/

namespace Sys2Proof.Machine

/-! ### The lists of the consignments -/

/-- Every record of a register stays in another, with its kind and its consignment. -/
def BagsStay (bag bag' : Nat → Option Bag) : Prop :=
  ∀ b x, bag b = some x → ∃ y, bag' b = some y ∧ y.kind = x.kind ∧ y.consignment = x.consignment

theorem BagsStay.refl (bag : Nat → Option Bag) : BagsStay bag bag := fun _ x h => ⟨x, h, rfl, rfl⟩

theorem BagsStay.set {bag : Nat → Option Bag} {b : Nat} {y : Bag}
    (h : ∀ x, bag b = some x → y.kind = x.kind ∧ y.consignment = x.consignment) :
    BagsStay bag (Function.update bag b (some y)) := by
  intro c z hc
  by_cases hcb : c = b
  · subst hcb
    exact ⟨y, by simp, h z hc⟩
  · exact ⟨z, by simpa [hcb] using hc, rfl, rfl⟩

theorem BagsStay.map (bag : Nat → Option Bag) (b : Nat) {g : Bag → Bag}
    (h : ∀ x, (g x).kind = x.kind ∧ (g x).consignment = x.consignment) :
    BagsStay bag (Function.update bag b ((bag b).map g)) := by
  cases hb : bag b with
  | none =>
    rw [Option.map_none, ← hb, Function.update_eq_self]
    exact .refl bag
  | some x =>
    refine .set fun z hz => ?_
    obtain rfl := Option.some.inj (hb.symm.trans hz)
    exact h x

theorem BagsStay.changeBags (v : View) (bs : List Nat) {g : Bag → Bag}
    (h : ∀ x, (g x).kind = x.kind ∧ (g x).consignment = x.consignment) : BagsStay v.bag (v.changeBags bs g) := by
  intro c z hc
  unfold View.changeBags
  split
  · exact ⟨g z, by rw [hc]; rfl, h z⟩
  · exact ⟨z, hc, rfl, rfl⟩

/-- An orphan is of kind UNKNOWN, whatever changes (R94). -/
theorem Change.keeps_orphans {v w : View} (h : Change v w)
    (ho : ∀ b x, v.bag b = some x → x.state = .orphan → x.kind = .unknown) :
    ∀ b x, w.bag b = some x → x.state = .orphan → x.kind = .unknown := by
  intro b y hy hs
  rcases h.bags with hb | ⟨c, x, hx⟩
  · obtain ⟨x, hx, hxy⟩ := hb b y hy
    exact hxy.kind ▸ ho b x hx (hxy.orphan hs)
  · rw [hx.bag, Function.update_apply] at hy
    split at hy
    · obtain rfl := Option.some.inj hy
      exact hx.orphan hs
    · exact ho b y hy hs

/-- The lists stay, and so do the records that they name. -/
theorem View.Lists.stay {outs ins : Nat → List Nat} {bag bag' : Nat → Option Bag} (h : View.Lists outs ins bag)
    (hs : BagsStay bag bag') (ho : ∀ b x, bag' b = some x → x.state = .orphan → x.kind = .unknown) :
    View.Lists outs ins bag' where
  outbound c b hb := by
    obtain ⟨x, hx, hk, hc⟩ := h.outbound c b hb
    obtain ⟨y, hy, hyk, hyc⟩ := hs b x hx
    exact ⟨y, hy, hyk.trans hk, hyc.trans hc⟩
  once := h.once
  inbound c b hb := by
    obtain ⟨x, hx, hk, hc⟩ := h.inbound c b hb
    obtain ⟨y, hy, hyk, hyc⟩ := hs b x hx
    exact ⟨y, hy, hyk.trans hk, hyc.trans hc⟩
  orphan := ho

/-- The lists with no mention of a slot that is freed. -/
theorem View.Lists.erase {outs ins outs' ins' : Nat → List Nat} {bag bag' : Nat → Option Bag} (h : View.Lists outs ins bag)
    (h1 : ∀ c, (outs' c).Sublist (outs c)) (h2 : ∀ c, (ins' c).Sublist (ins c))
    (hs : ∀ b x, bag b = some x → (∃ c, b ∈ outs' c ∨ b ∈ ins' c) →
      ∃ y, bag' b = some y ∧ y.kind = x.kind ∧ y.consignment = x.consignment)
    (ho : ∀ b x, bag' b = some x → x.state = .orphan → x.kind = .unknown) : View.Lists outs' ins' bag' where
  outbound c b hb := by
    obtain ⟨x, hx, hk, hc⟩ := h.outbound c b ((h1 c).subset hb)
    obtain ⟨y, hy, hyk, hyc⟩ := hs b x hx ⟨c, .inl hb⟩
    exact ⟨y, hy, hyk.trans hk, hyc.trans hc⟩
  once c := (h.once c).sublist (h1 c)
  inbound c b hb := by
    obtain ⟨x, hx, hk, hc⟩ := h.inbound c b ((h2 c).subset hb)
    obtain ⟨y, hy, hyk, hyc⟩ := hs b x hx ⟨c, .inr hb⟩
    exact ⟨y, hy, hyk.trans hk, hyc.trans hc⟩
  orphan := ho

theorem View.unlist_sublist (v : View) (b : Nat) (o : Option Nat) (c : Nat) : (v.unlist b o c).Sublist (v.outbound c) := by
  cases o with
  | none => exact .refl _
  | some d =>
    simp only [View.unlist, Function.update_apply]
    split
    · rename_i h
      exact h ▸ List.filter_sublist
    · exact .refl _

/-- A bag that leaves the list of its consignment stands in no outbound list. -/
theorem View.Lists.not_mem_unlist {v : View} {b : Nat} {x : Bag} (h : View.Lists v.outbound v.inbound v.bag) (hb : v.bag b = some x)
    (c : Nat) : b ∉ v.unlist b x.consignment c := by
  intro hc
  obtain ⟨y, hy, -, hyc⟩ := h.outbound c b ((v.unlist_sublist b _ c).subset hc)
  obtain rfl := Option.some.inj (hb.symm.trans hy)
  simp [hyc, View.unlist] at hc

/-- The slot of an outbound bag is freed, and leaves the list of its consignment. -/
theorem View.Lists.discard {v : View} {b : Nat} {x : Bag} (h : View.Lists v.outbound v.inbound v.bag) (hb : v.bag b = some x)
    (hk : x.kind = .outbound) : View.Lists (v.unlist b x.consignment) v.inbound (Function.update v.bag b none) := by
  refine h.erase (v.unlist_sublist b _) (fun _ => .refl _) (fun e y hy he => ⟨y, ?_, rfl, rfl⟩) fun c y hc => ?_
  · rw [Function.update_of_ne]
    · exact hy
    · rintro rfl
      obtain ⟨c, hc | hc⟩ := he
      · exact h.not_mem_unlist hb c hc
      · obtain ⟨z, hz, hzk, -⟩ := h.inbound c e hc
        simp_all
  · rw [Function.update_apply] at hc
    split at hc
    · simp at hc
    · exact h.orphan c y hc

theorem Change.keeps_lists {v w : View} (h : Change v w) (hl : View.Lists v.outbound v.inbound v.bag) :
    View.Lists w.outbound w.inbound w.bag := by
  have ho := h.keeps_orphans hl.orphan
  cases h with
  | joined n b x hb hx hn hs => exact hl.stay (.set (by simp [hb])) ho
  | created b x hb hx ht => exact hl.stay (.set (by simp [hb])) ho
  | expected c b x hb hx ht hk hc =>
    have := hl.stay (.set (by simp [hb])) ho
    refine { this with inbound := fun d e he => ?_ }
    by_cases hd : d = c ∧ e = b
    · exact ⟨x, by simp [hd.2], hk, by rw [hc, hd.1]⟩
    · exact this.inbound d e (by grind)
  | assembled c b x r hb hk hs hc ht hq hro hrl hn hw hlen =>
    have := hl.stay (.set (by simp [hb])) ho
    refine { this with outbound := fun d e he => ?_, once := fun d => ?_ }
    · by_cases hd : d = c ∧ e = b
      · exact ⟨x, by simp [hd.2], hk, by rw [hc, hd.1]⟩
      · exact this.outbound d e (by grind)
    · by_cases hd : d = c
      · have hbo : b ∉ v.outbound c := fun hm => by
          obtain ⟨y, hy, -⟩ := hl.outbound c b hm
          simp [hb] at hy
        simpa [hd] using List.nodup_append.2 ⟨hl.once c, by simp, by grind⟩
      · simpa [hd] using hl.once d
  | attached c b x hb hn hox hk =>
    have hno : ∀ d, b ∉ v.outbound d := fun d hm => by
      obtain ⟨y, hy, -, hyc⟩ := hl.outbound d b hm
      simp_all
    have hni : ∀ d, b ∉ v.inbound d := fun d hm => by
      obtain ⟨y, hy, -, hyc⟩ := hl.inbound d b hm
      simp_all
    refine ⟨fun d e he => ?_, fun d => ?_, fun d e he => ?_, ho⟩
    · by_cases heb : e = b
      · have := hno d
        exact ⟨{ x with consignment := some c }, by simp [heb], by grind, by grind⟩
      · have := hl.outbound d e (by grind)
        simpa [heb] using this
    · have := hno d
      have := hl.once d
      dsimp only
      split
      · by_cases hd : d = c
        · subst hd
          simpa using List.nodup_append.2 ⟨hl.once d, by simp, by grind⟩
        · simpa [hd] using hl.once d
      · exact hl.once d
    · by_cases heb : e = b
      · have := hni d
        exact ⟨{ x with consignment := some c }, by simp [heb], by grind, by grind⟩
      · have := hl.inbound d e (by grind)
        simpa [heb] using this
  | sealed b n x slot hb h256 hk hs hq hfit hslot hout => exact hl.stay (.set (by simp [hb])) ho
  | discarded b x hb hk hs =>
    exact hl.discard hb hk
  | unsealed b x slot hb h256 hk hs hfit hslot hout => exact hl.discard hb hk
  | handedOver c outs slot q hos h256 hslot hq => exact hl.stay (.changeBags _ _ fun _ => ⟨rfl, rfl⟩) ho
  | takenIn => exact hl.stay (.changeBags _ _ fun _ => ⟨rfl, rfl⟩) ho
  | left c =>
    refine hl.erase (fun _ => .refl _) (fun d => ?_) (fun e y hy he => ⟨y, ?_, rfl, rfl⟩) ho
    · simp only [Function.update_apply]
      split
      · rename_i h
        exact h ▸ List.filter_sublist
      · exact .refl _
    · obtain ⟨d, hd⟩ := he
      have hle : e ∉ v.standing (v.inbound c) .expected := fun hm => by
        obtain ⟨hm, -⟩ := View.mem_standing.1 hm
        obtain ⟨z, hz, hzk, hzc⟩ := hl.inbound c e hm
        obtain rfl := Option.some.inj (hy.symm.trans hz)
        rcases hd with hd | hd
        · obtain ⟨u, hu, huk, -⟩ := hl.outbound d e hd
          simp_all
        · by_cases hdc : d = c
          · simp_all
          · obtain ⟨u, hu, -, huc⟩ := hl.inbound d e (by simpa [hdc] using hd)
            simp_all
      simpa [View.changeBags, hle] using hy
  | unattached c =>
    refine hl.erase (fun d => ?_) (fun _ => .refl _) (fun e y hy he => ⟨y, ?_, rfl, rfl⟩) ho
    · by_cases hd : d = c <;> simp [hd]
    · obtain ⟨d, hd⟩ := he
      have hle : e ∉ v.outbound c := fun hm => by
        obtain ⟨z, hz, hzk, hzc⟩ := hl.outbound c e hm
        obtain rfl := Option.some.inj (hy.symm.trans hz)
        rcases hd with hd | hd
        · by_cases hdc : d = c
          · simp_all
          · obtain ⟨u, hu, -, huc⟩ := hl.outbound d e (by simpa [hdc] using hd)
            simp_all
        · obtain ⟨u, hu, huk, -⟩ := hl.inbound d e hd
          simp_all
      simpa [View.changeBags, hle] using hy
  | emptied c =>
    refine hl.erase (fun d => ?_) (fun d => ?_) (fun e y hy he => ⟨y, hy, rfl, rfl⟩) ho
    · by_cases hd : d = c <;> simp [hd]
    · by_cases hd : d = c <;> simp [hd]
  | removed b x hb hs =>
    refine hl.erase (fun _ => .refl _) (fun _ => .refl _) (fun e y hy he => ⟨y, ?_, rfl, rfl⟩) ho
    have hk := hl.orphan b x hb hs
    have heb : e ≠ b := by
      rintro rfl
      obtain ⟨d, hd | hd⟩ := he
      · obtain ⟨u, hu, huk, -⟩ := hl.outbound d e hd
        simp_all
      · obtain ⟨u, hu, huk, -⟩ := hl.inbound d e hd
        simp_all
    simpa [heb] using hy
  | moved b x st hb hm hr => exact hl.stay (.set (by simp [hb])) ho
  | scannedIn b x hb hs => exact hl.stay (.set (by simp [hb])) ho
  | queued b x p o hb hs hq => exact hl.stay (.set (by simp [hb])) ho
  | assigned b ns hb hn h1 h2 hi => exact hl.stay (.map _ _ fun _ => ⟨rfl, rfl⟩) ho
  | requeued b x p o duty he hb hq => exact hl.stay (.set (by simp [hb])) ho
  | parked b st duty he hs => exact hl.stay (.map _ _ fun _ => ⟨rfl, rfl⟩) ho
  | withheld b duty he => exact hl.stay (.map _ _ fun _ => ⟨rfl, rfl⟩) ho
  | retried b hb => exact hl.stay (.map _ _ fun _ => ⟨rfl, rfl⟩) ho
  | stopped bs p o bag hn hc hbag hq =>
    refine hl.stay (fun b x hx => ?_) ho
    simp only [hbag, hx, Option.map_some, Option.some.injEq, exists_eq_left']
    split <;> exact ⟨rfl, rfl⟩
  | _ => exact hl

end Sys2Proof.Machine
end

section

/-! PROOFS. Changes: DISPATCH.

    Every change keeps DISPATCH equal to the outbound bags sealed and scanned. -/

namespace Sys2Proof.Machine

/-! ### DISPATCH -/

/-- A bag's pieces in DISPATCH depend on its kind, its state and its lines. -/
theorem Bag.dispatched_eq_zero {x : Bag} (h : ¬ (x.kind = .outbound ∧ (x.state = .sealed ∨ x.state = .scanned))) (d : Nat) :
    x.dispatched d = 0 := if_neg h

theorem Bag.dispatched_eq_zero_of_state {x : Bag} (h1 : x.state ≠ .sealed) (h2 : x.state ≠ .scanned) (d : Nat) :
    x.dispatched d = 0 := Bag.dispatched_eq_zero (by simp [h1, h2]) d

/-- The pieces of all bags in DISPATCH, where one bag changes. -/
theorem sum_dispatchedBy_update (bag : Nat → Option Bag) {b : Nat} (o : Option Bag) (d : Nat) (hb : b < 256) :
    (∑ c ∈ Finset.range 256, dispatchedBy (Function.update bag b o c) d) + dispatchedBy (bag b) d =
      (∑ c ∈ Finset.range 256, dispatchedBy (bag c) d) + dispatchedBy o d := by
  have hm : b ∈ Finset.range 256 := Finset.mem_range.2 hb
  rw [← Finset.add_sum_erase _ _ hm, ← Finset.add_sum_erase _ (fun c => dispatchedBy (bag c) d) hm, Function.update_self]
  have : ∑ c ∈ (Finset.range 256).erase b, dispatchedBy (Function.update bag b o c) d =
      ∑ c ∈ (Finset.range 256).erase b, dispatchedBy (bag c) d := by
    refine Finset.sum_congr rfl fun c hc => ?_
    rw [Function.update_of_ne (Finset.ne_of_mem_erase hc)]
  omega

/-- Bags change, but not in DISPATCH. -/
theorem View.Dispatch.congr {slot : Nat → StockSlot} {bag bag' : Nat → Option Bag} (h : View.Dispatch slot bag)
    (hb : ∀ b d, dispatchedBy (bag' b) d = dispatchedBy (bag b) d) : View.Dispatch slot bag' := by
  intro d h1 h2
  rw [h d h1 h2]
  exact Finset.sum_congr rfl fun b _ => (hb b d).symm

/-- One bag changes, but not in DISPATCH. -/
theorem View.Dispatch.pass {slot : Nat → StockSlot} {bag : Nat → Option Bag} (h : View.Dispatch slot bag) {b : Nat}
    {o : Option Bag} (hb : ∀ d, dispatchedBy o d = dispatchedBy (bag b) d) :
    View.Dispatch slot (Function.update bag b o) := by
  refine h.congr fun c d => ?_
  by_cases hc : c = b <;> simp [hc, hb]

/-- A record of the register changes, outside DISPATCH before and after. -/
theorem View.Dispatch.set {slot : Nat → StockSlot} {bag : Nat → Option Bag} (h : View.Dispatch slot bag) {b : Nat} {x : Bag}
    {o : Option Bag} (hb : bag b = some x) (hx : x.state ≠ .sealed ∧ x.state ≠ .scanned)
    (ho : ∀ y, o = some y → y.state ≠ .sealed ∧ y.state ≠ .scanned) : View.Dispatch slot (Function.update bag b o) := by
  refine h.pass fun d => ?_
  rw [hb]
  cases o with
  | none => simp [dispatchedBy, Bag.dispatched_eq_zero_of_state hx.1 hx.2]
  | some y =>
    simp [dispatchedBy, Bag.dispatched_eq_zero_of_state hx.1 hx.2, Bag.dispatched_eq_zero_of_state (ho y rfl).1 (ho y rfl).2]

/-- Records change, each with its kind, its state and its lines. -/
theorem View.Dispatch.changeBags {v : View} (h : View.Dispatch v.slot v.bag) (bs : List Nat) {g : Bag → Bag}
    (hg : ∀ x d, (g x).dispatched d = x.dispatched d) : View.Dispatch v.slot (v.changeBags bs g) := by
  refine h.congr fun b d => ?_
  unfold View.changeBags dispatchedBy
  split
  · cases v.bag b <;> simp [hg]
  · rfl

/-- What the bags of a list without repeats have, as a sum over the register. -/
theorem sum_range_ite_mem (bs : List Nat) (hn : bs.Nodup) (h : ∀ b ∈ bs, b < 256) (f : Nat → Nat) :
    (∑ b ∈ Finset.range 256, if b ∈ bs then f b else 0) = (bs.map f).sum := by
  rw [← Finset.sum_filter, ← List.sum_toFinset _ hn]
  congr 1
  ext b
  simp only [Finset.mem_filter, Finset.mem_range, List.mem_toFinset]
  exact ⟨fun hb => hb.2, fun hb => ⟨h b hb, hb⟩⟩

/-- The bags of a handover leave DISPATCH. -/
theorem View.Dispatch.handOver {v : View} {slot : Nat → StockSlot} (h : View.Dispatch v.slot v.bag)
    (hl : View.Lists v.outbound v.inbound v.bag) (c : Nat) (h256 : ∀ b ∈ v.standing (v.outbound c) .scanned, b < 256)
    (hslot : ∀ d, slot d = { v.slot d with
      dispatch := (v.slot d).dispatch -
        ((v.standing (v.outbound c) .scanned).map fun b => piecesOf (((v.bag b).map Bag.lines).getD []) d).sum }) :
    View.Dispatch slot (v.changeBags (v.standing (v.outbound c) .scanned) fun x => { x with state := .handedOver }) := by
  intro d h1 h2
  have hsplit : ∀ b, dispatchedBy (v.bag b) d =
      dispatchedBy (v.changeBags (v.standing (v.outbound c) .scanned) (fun x => { x with state := .handedOver }) b) d +
        if b ∈ v.standing (v.outbound c) .scanned then piecesOf (((v.bag b).map Bag.lines).getD []) d else 0 := by
    intro b
    unfold View.changeBags
    split
    · rename_i hb
      obtain ⟨hm, hs⟩ := View.mem_standing.1 hb
      obtain ⟨x, hx, hk, -⟩ := hl.outbound c b hm
      have hs : x.state = .scanned := by simpa [hx] using hs
      simp [dispatchedBy, hx, Bag.dispatched, hk, hs, piecesOf]
    · rfl
  have hsum := h d h1 h2
  rw [Finset.sum_congr rfl fun b _ => hsplit b, Finset.sum_add_distrib,
    sum_range_ite_mem (v.standing (v.outbound c) .scanned) ((hl.once c).filter _) h256] at hsum
  simp only [hslot, hsum]
  omega

theorem Moves.dispatched {x : Bag} {st : BagState} (h : Moves x.state st) (d : Nat) :
    ({ x with state := st } : Bag).dispatched d = x.dispatched d := by
  simp only [Bag.dispatched]
  generalize x.state = a at h
  congr 1
  cases h <;> grind

theorem Change.keeps_dispatch {v w : View} (h : Change v w) (hd : View.Dispatch v.slot v.bag)
    (hc : View.Custody v.bag v.queue v.jobs v.held v.received v.duty) (hl : View.Lists v.outbound v.inbound v.bag) :
    View.Dispatch w.slot w.bag := by
  have hnew : ∀ {b x}, v.Registers w b x → View.Dispatch v.slot (Function.update v.bag b (some x)) := fun {b x} hx =>
    hd.pass fun d => by simp [dispatchedBy, hx.free, hx.dispatched]
  cases h with
  | traded slot q hlim hdis hr hv =>
    intro d h1 h2
    rw [← hd d h1 h2]
    exact hdis d
  | defined ds hds hs hb => exact hd
  | joined n b x hb hx hn hs => exact hnew (hx.registers hb rfl)
  | expected c b x hb hx ht hk hcs => exact hnew (hx.registers hb rfl)
  | created b x hb hx ht => exact hnew (hx.registers hb rfl)
  | assembled c b x r hb hk hs hcs ht hq ho hrl hn hw hlen =>
    exact hd.pass fun d => by simp [dispatchedBy, hb, Bag.dispatched_eq_zero_of_state, hs]
  | sealed b n x slot hb h256 hk hs hq hfit hslot hout =>
    intro d h1 h2
    obtain ⟨-, -, hdis, -, -⟩ := hslot d h1 h2
    have hold := hd d h1 h2
    have hsum := sum_dispatchedBy_update v.bag (some { x with sealNo := some n, state := .sealed }) d h256
    have hx : dispatchedBy (v.bag b) d = 0 := by simp [dispatchedBy, hb, Bag.dispatched, hs]
    have hy : dispatchedBy (some { x with sealNo := some n, state := .sealed }) d = piecesOf x.lines d := by
      simp [dispatchedBy, Bag.dispatched, hk, piecesOf]
    rw [hx, hy] at hsum
    dsimp only
    omega
  | discarded b x hb hk hs => exact hd.set hb (by simp [hs]) (by simp)
  | unsealed b x slot hb h256 hk hs hfit hslot hout =>
    intro d h1 h2
    obtain ⟨-, -, hdis, -, -⟩ := hslot d h1 h2
    have hold := hd d h1 h2
    have hsum := sum_dispatchedBy_update v.bag none d h256
    have hx : dispatchedBy (v.bag b) d = piecesOf x.lines d := by simp [dispatchedBy, hb, Bag.dispatched, hk, hs, piecesOf]
    have hy : dispatchedBy none d = 0 := rfl
    rw [hx, hy] at hsum
    dsimp only
    omega
  | handedOver c outs slot q ho h256 hslot hq =>
    subst ho
    exact hd.handOver hl c h256 hslot
  | takenIn =>
    refine hd.congr fun b d => ?_
    dsimp only [View.changeBags]
    split
    · rename_i hb
      obtain ⟨x, hx, hs⟩ := Option.map_eq_some_iff.1 (View.mem_standing.1 hb).2
      simp [hx, dispatchedBy, Bag.dispatched, hs]
    · rfl
  | left c => exact hd.changeBags _ fun _ _ => rfl
  | unattached c => exact hd.changeBags _ fun _ _ => rfl
  | attached c b x hb hn ho hk =>
    refine hd.pass fun d => ?_
    rw [hb]
    rfl
  | removed b x hb hs => exact hd.set hb (by simp [hs]) (by simp)
  | moved b x st hb hm hr =>
    refine hd.pass fun d => ?_
    rw [hb]
    exact hm.dispatched d
  | scannedIn b x hb hs => exact hd.set hb (by simp [hs]) (by simp)
  | queued b x p o hb hs hq => exact hd.set hb (by rcases hs with hs | hs <;> simp [hs]) (by simp)
  | assigned b ns hb hn h1 h2 hi =>
    obtain ⟨x, hx, hs⟩ := hc.of_mem_queue hb
    exact hd.set hx (by simp [hs]) (by simp [hx])
  | requeued b x p o duty he hb hq =>
    obtain ⟨y, hy, hs⟩ := he.counting hc
    exact hd.set hy (by simp [hs]) (by simp)
  | parked b st duty he hs =>
    obtain ⟨y, hy, hys⟩ := he.counting hc
    exact hd.set hy (by simp [hys]) (by rcases hs with hs | hs <;> simp [hy, hs])
  | withheld b duty he =>
    obtain ⟨y, hy, hs⟩ := he.counting hc
    exact hd.set hy (by simp [hs]) (by simp [hy])
  | retried b hb =>
    obtain ⟨x, hx, hs⟩ := Option.map_eq_some_iff.1 ((hc.credited.mem b).1 hb)
    exact hd.set hx (by simp [hs]) (by simp [hx])
  | stopped bs p o bag hn hcs hbag hq =>
    refine hd.congr fun b d => ?_
    simp only [hbag]
    cases hb : v.bag b with
    | none => rfl
    | some x =>
      by_cases hx : x.state = .counting
      · by_cases hbs : b ∈ bs <;> simp [dispatchedBy, Bag.dispatched, hx, hbs]
      · simp [hx]
  | _ => exact hd

end Sys2Proof.Machine
end

section

/-! PROOFS. Changes: the stations.

    Every change keeps the bags in COUNTING and their stations. -/

namespace Sys2Proof.Machine

/-! ### The stations and their jobs -/

theorem nodup_upTo (n : Nat) : (upTo n).Nodup := List.nodup_range.map fun a b h => by simpa using h

/-- Every job has one or two stations, and every station is sound. -/
def View.Manned (jobs : List Nat) (duty : Nat → Duty) : Prop :=
  (∀ b ∈ jobs, 1 ≤ (stationsOf duty b).length ∧ (stationsOf duty b).length ≤ 2) ∧ ∀ n, (duty n).Sound

/-- Where custody holds, the law of the stations speaks of the jobs and the duties alone. -/
theorem View.Custody.jobs_iff {bag : Nat → Option Bag} {queue jobs held received : List Nat} {duty : Nat → Duty}
    (h : View.Custody bag queue jobs held received duty) : View.Jobs bag duty ↔ View.Manned jobs duty := by
  constructor
  · rintro ⟨ha, -, hs⟩
    refine ⟨fun b hb => ?_, hs⟩
    obtain ⟨x, hx, hxs⟩ := Option.map_eq_some_iff.1 ((h.counting.mem b).1 hb)
    exact ha b x hx hxs
  · rintro ⟨ha, hs⟩
    exact ⟨fun b x hx hxs => ha b ((h.counting.mem b).2 (by simp [hx, hxs])), fun n b hn => (h.counting.mem b).1 (h.stations n b hn), hs⟩

theorem stationsOf_congr {duty duty' : Nat → Duty} {b : Nat} (h : ∀ n, (duty' n).bag = some b ↔ (duty n).bag = some b) :
    stationsOf duty' b = stationsOf duty b := by
  simp [stationsOf, h]

/-- The stations of one job are freed. -/
theorem View.EndsJob.manned {v : View} {b : Nat} {duty : Nat → Duty} (he : v.EndsJob b duty) (h : View.Manned v.jobs v.duty) :
    View.Manned (v.jobs.filter fun q => decide (q ≠ b)) duty := by
  refine ⟨fun c hc => ?_, fun n => ?_⟩
  · obtain ⟨hc, hcb⟩ := List.mem_filter.1 hc
    rw [stationsOf_congr (duty := v.duty)]
    · exact h.1 c hc
    · intro n
      by_cases hn : (v.duty n).bag = some b
      · rw [(he.freed n hn).1, hn]
        simp at hcb
        simp [Ne.symm hcb]
      · rw [he.left n hn]
  · by_cases hn : (v.duty n).bag = some b
    · exact (he.freed n hn).2 (h.2 n)
    · rw [he.left n hn]
      exact h.2 n

/-- An IDLE station that is sound has no bag, and is enabled. -/
theorem Duty.Sound.of_idle {d : Duty} (h : d.Sound) (hi : d.state = .idle) : d.bag = none ∧ d.enabled = true := by
  obtain ⟨hb, he⟩ := h
  constructor
  · by_contra hn
    simpa [StationState.Works, hi] using hb hn
  · by_contra hn
    simpa [hi] using he (by simpa using hn)

theorem Change.keeps_manned {v w : View} (h : Change v w) (hm : View.Manned v.jobs v.duty)
    (hc : View.Custody v.bag v.queue v.jobs v.held v.received v.duty) : View.Manned w.jobs w.duty := by
  cases h with
  | assigned b ns hb hn h1 h2 hi =>
    obtain ⟨hj, hs⟩ := hm
    obtain ⟨x, hx, hxs⟩ := hc.of_mem_queue hb
    have hbj : b ∉ v.jobs := fun h => by simpa [hx, hxs] using (hc.counting.mem b).1 h
    have hfree : ∀ n ∈ ns, (v.duty n).bag = none ∧ (v.duty n).enabled = true := fun n h => (hs n).of_idle (hi n h).2.2
    refine ⟨fun c hcj => ?_, fun n => ?_⟩
    · rcases List.mem_append.1 hcj with hcj | hcj
      · rw [stationsOf_congr (duty := v.duty)]
        · exact hj c hcj
        · intro n
          have := hfree n
          grind
      · obtain rfl : c = b := by simpa using hcj
        have hperm : (stationsOf (fun n => if n ∈ ns then ({ bag := some c, state := .assigned, enabled := (v.duty n).enabled } : Duty)
            else v.duty n) c).Perm ns := by
          unfold stationsOf
          rw [List.perm_ext_iff_of_nodup ((nodup_upTo 4).filter _) hn]
          intro n
          simp only [List.mem_filter, mem_upTo, decide_eq_true_eq]
          have := hi n
          have := hc.stations n c
          grind
        rw [hperm.length_eq]
        exact ⟨h1, h2⟩
    · dsimp only
      split
      · rename_i hns
        exact ⟨fun _ => .inl rfl, by simp [(hfree n hns).2]⟩
      · exact hs n
  | requeued b x p o duty he hb hq => exact he.manned hm
  | parked b st duty he hs => exact he.manned hm
  | withheld b duty he => exact he.manned hm
  | station n d hb hs =>
    have hbag : d.bag = (v.duty n).bag := hb.resolve_right fun h => h.2 (hm.2 n)
    refine ⟨fun c hcj => ?_, fun m => ?_⟩
    · rw [stationsOf_congr (duty := v.duty)]
      · exact hm.1 c hcj
      · intro m
        by_cases hmn : m = n <;> simp [hmn, hbag]
    · by_cases hmn : m = n
      · simpa [hmn] using hs (hm.2 n)
      · simpa [hmn] using hm.2 m
  | stopped bs p o bag hn hcs hbag hq => exact ⟨by simp, fun n => ⟨by simp, fun _ => ⟨_, rfl⟩⟩⟩
  | _ => exact hm

/-! ### The bags of the tills -/

/-- A record keeps its till, and is not taken back from COUNTED or LOST. -/
structure Bag.Draws (x y : Bag) : Prop where
  till : y.till = x.till
  done : y.state ≠ .counted → y.state ≠ .lost → x.state ≠ .counted ∧ x.state ≠ .lost

/-- Every record of a register comes from one of another, with its till. -/
theorem View.Drains.of_from {bag bag' : Nat → Option Bag} {till : Nat → Till} {priority : List Nat}
    (h : View.Drains bag till priority) (hf : ∀ b y, bag' b = some y → ∃ x, bag b = some x ∧ x.Draws y)
    (hs : ∀ b ∈ priority, ∀ x, bag b = some x → ∃ y, bag' b = some y ∧ y.till = x.till) : View.Drains bag' till priority where
  session b y n hb ht h1 h2 := by
    obtain ⟨x, hx, hxy⟩ := hf b y hb
    obtain ⟨h3, h4⟩ := hxy.done h1 h2
    exact h.session b x n hx (hxy.till ▸ ht) h3 h4
  priority b hb := by
    obtain ⟨x, n, hx, ht, hd⟩ := h.priority b hb
    obtain ⟨y, hy, hyt⟩ := hs b hb x hx
    exact ⟨y, n, hy, hyt.trans ht, hd⟩

theorem View.Drains.set {bag : Nat → Option Bag} {till : Nat → Till} {priority : List Nat} (h : View.Drains bag till priority)
    {b : Nat} {x y : Bag} (hb : bag b = some x) (hxy : x.Draws y) : View.Drains (Function.update bag b (some y)) till priority := by
  refine h.of_from (fun c z hc => ?_) fun c _ z hc => ?_
  · by_cases hcb : c = b
    · obtain rfl : y = z := by simpa [hcb] using hc
      exact ⟨x, hcb ▸ hb, hxy⟩
    · exact ⟨z, by simpa [hcb] using hc, rfl, fun h1 h2 => ⟨h1, h2⟩⟩
  · by_cases hcb : c = b
    · subst hcb
      obtain rfl := Option.some.inj (hb.symm.trans hc)
      exact ⟨y, by simp, hxy.till⟩
    · exact ⟨z, by simpa [hcb] using hc, rfl⟩

theorem View.Drains.erase {bag : Nat → Option Bag} {till : Nat → Till} {priority : List Nat} (h : View.Drains bag till priority)
    {b : Nat} (hb : b ∉ priority) : View.Drains (Function.update bag b none) till priority := by
  refine h.of_from (fun c z hc => ?_) fun c hcp z hc => ⟨z, ?_, rfl⟩
  · by_cases hcb : c = b
    · simp [hcb] at hc
    · exact ⟨z, by simpa [hcb] using hc, rfl, fun h1 h2 => ⟨h1, h2⟩⟩
  · rw [Function.update_of_ne]
    · exact hc
    · rintro rfl
      exact hb hcp

/-- A new record of no till. -/
theorem View.Drains.register {bag : Nat → Option Bag} {till : Nat → Till} {priority : List Nat} (h : View.Drains bag till priority)
    {b : Nat} {x : Bag} (hb : bag b = none) (ht : x.till = none) : View.Drains (Function.update bag b (some x)) till priority where
  session c y n hc hn h1 h2 := by
    by_cases hcb : c = b
    · obtain rfl : x = y := by simpa [hcb] using hc
      simp [ht] at hn
    · exact h.session c y n (by simpa [hcb] using hc) hn h1 h2
  priority c hc := by
    obtain ⟨y, n, hy, hyn⟩ := h.priority c hc
    refine ⟨y, n, ?_, hyn⟩
    rw [Function.update_of_ne]
    · exact hy
    · rintro rfl
      simp [hb] at hy

theorem View.Drains.changeBags {v : View} (h : View.Drains v.bag v.till v.priority) (bs : List Nat) {g : Bag → Bag}
    (hg : ∀ b ∈ bs, ∀ x, v.bag b = some x → x.Draws (g x)) : View.Drains (v.changeBags bs g) v.till v.priority := by
  refine h.of_from (fun c z hc => ?_) fun c _ z hc => ?_
  · unfold View.changeBags at hc
    split at hc
    · obtain ⟨x, hx, rfl⟩ := Option.map_eq_some_iff.1 hc
      exact ⟨x, hx, hg c ‹_› x hx⟩
    · exact ⟨z, hc, rfl, fun h1 h2 => ⟨h1, h2⟩⟩
  · unfold View.changeBags
    split
    · exact ⟨g z, by simp [hc], (hg c ‹_› z hc).till⟩
    · exact ⟨z, hc, rfl⟩

/-- The PRIORITY class changes by bags of DRAINING tills alone. -/
theorem View.Drains.reclass {bag : Nat → Option Bag} {till : Nat → Till} {priority p : List Nat} (h : View.Drains bag till priority)
    (hp : ∀ c ∈ p, c ∈ priority ∨ ∃ x n, bag c = some x ∧ x.till = some n ∧ (till n).state = .draining) : View.Drains bag till p where
  session := h.session
  priority c hc := (hp c hc).elim (h.priority c) id

/-- A till's record changes, not its session. -/
theorem View.Drains.update {bag : Nat → Option Bag} {till : Nat → Till} {priority : List Nat} (h : View.Drains bag till priority)
    (n : Nat) (t : Till) (hb : t.bags = (till n).bags) (hs : t.state = (till n).state) :
    View.Drains bag (Function.update till n t) priority := by
  have hts : ∀ m, (Function.update till n t m).bags = (till m).bags ∧ (Function.update till n t m).state = (till m).state := by
    intro m
    by_cases hm : m = n
    · subst hm
      simp [hb, hs]
    · simp [hm]
  refine ⟨fun b x m => ?_, fun b => ?_⟩
  · rw [(hts m).1, (hts m).2]
    exact h.session b x m
  · intro hb
    obtain ⟨x, m, hx, hm, hd⟩ := h.priority b hb
    exact ⟨x, m, hx, hm, (hts m).2.trans hd⟩

theorem Moves.done {x : Bag} {st : BagState} (h : Moves x.state st) : x.Draws { x with state := st } := by
  refine ⟨rfl, ?_⟩
  dsimp only
  generalize x.state = a at h
  cases h <;> grind

theorem Change.keeps_drains {v w : View} (h : Change v w) (hd : View.Drains v.bag v.till v.priority)
    (hc : View.Custody v.bag v.queue v.jobs v.held v.received v.duty) : View.Drains w.bag w.till w.priority := by
  have hqueued : ∀ b ∈ v.priority, ∃ x, v.bag b = some x ∧ x.state = .queued := fun b hb =>
    hc.of_mem_queue (List.mem_append_left _ hb)
  have hout : ∀ {b x}, v.bag b = some x → x.state ≠ .queued → b ∉ v.priority := fun {b x} hb hx hp => by
    obtain ⟨y, hy, hys⟩ := hqueued b hp
    obtain rfl := Option.some.inj (hb.symm.trans hy)
    exact hx hys
  cases h with
  | figures n t h =>
    simp only [Till.session, Prod.mk.injEq] at h
    obtain ⟨hs, -, -, hb, -⟩ := h
    exact hd.update n t hb hs
  | listed n hs hl => exact hd.update n _ rfl rfl
  | unlisted n => exact hd.update n _ rfl rfl
  | reconciled n i hs hb =>
    have hopen : ∀ b x m, v.bag b = some x → x.till = some m → x.state ≠ .counted → x.state ≠ .lost → m ≠ n := by
      rintro b x m hx ht h1 h2 rfl
      rcases hb b (hd.session b x m hx ht h1 h2).1 x hx with h | h
      · exact h1 h
      · exact h2 h
    refine ⟨fun b x m hx ht h1 h2 => ?_, fun b hbp => ?_⟩
    · simpa [hopen b x m hx ht h1 h2] using hd.session b x m hx ht h1 h2
    · obtain ⟨x, m, hx, hm, hmd⟩ := hd.priority b hbp
      obtain ⟨y, hy, hyq⟩ := hqueued b hbp
      obtain rfl := Option.some.inj (hx.symm.trans hy)
      exact ⟨x, m, hx, hm, by simpa [hopen b x m hx hm (by simp [hyq]) (by simp [hyq])] using hmd⟩
  | joined n b x hb hx hn hs =>
    have hbags : ∀ m, (v.till m).bags ⊆
        (Function.update v.till n { v.till n with bags := (v.till n).bags ++ [b] } m).bags := by
      intro m
      by_cases hm : m = n <;> simp [hm]
    have hstate : ∀ m, (Function.update v.till n { v.till n with bags := (v.till n).bags ++ [b] } m).state = (v.till m).state := by
      intro m
      by_cases hm : m = n <;> simp [hm]
    refine ⟨fun c y m hc hm h1 h2 => ?_, fun c hc => ?_⟩
    · rw [hstate]
      by_cases hcb : c = b
      · obtain rfl : x = y := by simpa [hcb] using hc
        obtain rfl : n = m := Option.some.inj (hn.symm.trans hm)
        simpa [hcb] using hs
      · obtain ⟨h3, h4⟩ := hd.session c y m (by simpa [hcb] using hc) hm h1 h2
        exact ⟨hbags m h3, h4⟩
    · obtain ⟨y, m, hy, hym, hmd⟩ := hd.priority c hc
      have hcb : c ≠ b := by
        rintro rfl
        simp [hb] at hy
      exact ⟨y, m, by simpa [hcb] using hy, hym, (hstate m).trans hmd⟩
  | drained n hs hl =>
    have hstate : ∀ m, (v.till m).state = .opened ∨ (v.till m).state = .draining →
        (Function.update v.till n { v.till n with state := .draining } m).state = .opened ∨
          (Function.update v.till n { v.till n with state := .draining } m).state = .draining := by
      intro m
      by_cases hm : m = n <;> simp [hm]
    refine ⟨fun c y m hc hm h1 h2 => ?_, fun c hc => ?_⟩
    · obtain ⟨h3, h4⟩ := hd.session c y m hc hm h1 h2
      refine ⟨?_, hstate m h4⟩
      by_cases hmn : m = n
      · simpa [hmn] using hmn ▸ h3
      · simpa [hmn] using h3
    · rcases List.mem_append.1 hc with hc | hc
      · obtain ⟨y, m, hy, hym, hmd⟩ := hd.priority c hc
        have hmn : m ≠ n := by
          rintro rfl
          simp [hs] at hmd
        exact ⟨y, m, hy, hym, by simpa [hmn] using hmd⟩
      · obtain ⟨y, hy, hyn⟩ := Option.bind_eq_some_iff.1 (of_decide_eq_true (List.mem_filter.1 hc).2)
        exact ⟨y, n, hy, hyn, by simp⟩
  | withdrawn n hs =>
    have hother : ∀ m, (v.till m).state = .opened ∨ (v.till m).state = .draining → m ≠ n := by
      rintro m hm rfl
      simp [hs] at hm
    refine ⟨fun c y m hc hm h1 h2 => ?_, fun c hc => ?_⟩
    · have := hd.session c y m hc hm h1 h2
      simpa [hother m this.2] using this
    · obtain ⟨y, m, hy, hym, hmd⟩ := hd.priority c hc
      exact ⟨y, m, hy, hym, by simpa [hother m (.inr hmd)] using hmd⟩
  | assembled c b x r hb hk hs hcs ht hq ho hrl hn hw hlen => exact hd.register hb ht
  | expected c b x hb hx ht hk hcs => exact hd.register hb ht
  | created b x hb hx ht => exact hd.register hb ht
  | sealed b n x slot hb h256 hk hs hq hfit hslot hout => exact hd.set hb ⟨rfl, by simp [hs]⟩
  | discarded b x hb hk hs => exact hd.erase (hout hb (by simp [hs]))
  | unsealed b x slot hb h256 hk hs hfit hslot _ => exact hd.erase (hout hb (by simp [hs]))
  | handedOver c outs slot q ho h256 hslot hq =>
    subst ho
    refine hd.changeBags _ fun b hb x hx => ⟨rfl, fun _ _ => ?_⟩
    have := (View.mem_standing.1 hb).2
    simp_all
  | takenIn =>
    refine hd.changeBags _ fun b hb x hx => ⟨rfl, fun _ _ => ?_⟩
    have := (View.mem_standing.1 hb).2
    simp_all
  | left c => exact hd.changeBags _ fun _ _ _ _ => ⟨rfl, fun h1 h2 => ⟨h1, h2⟩⟩
  | unattached c => exact hd.changeBags _ fun _ _ _ _ => ⟨rfl, fun h1 h2 => ⟨h1, h2⟩⟩
  | attached c b x hb hn ho hk => exact hd.set hb ⟨rfl, fun h1 h2 => ⟨h1, h2⟩⟩
  | removed b x hb hs => exact hd.erase (hout hb (by simp [hs]))
  | moved b x st hb hm hr => exact hd.set hb hm.done
  | scannedIn b x hb hs => exact hd.set hb ⟨rfl, by simp [hs]⟩
  | queued b x p o hb hs hq =>
    refine (hd.reclass fun c hc => (hq.drained c hc).imp_right And.right).set hb ⟨rfl, fun _ _ => ?_⟩
    rcases hs with hs | hs <;> simp [hs]
  | assigned b ns hb hn h1 h2 hi =>
    obtain ⟨x, hx, hs⟩ := hc.of_mem_queue hb
    simp only [hx, Option.map_some]
    exact (hd.reclass fun c hc => .inl (List.mem_of_mem_filter hc)).set hx ⟨rfl, by simp [hs]⟩
  | requeued b x p o duty he hb hq =>
    obtain ⟨y, hy, hs⟩ := he.counting hc
    obtain rfl := Option.some.inj (hb.symm.trans hy)
    exact (hd.reclass fun c hc => (hq.drained c hc).imp_right And.right).set hb ⟨rfl, by simp [hs]⟩
  | parked b st duty he hs =>
    obtain ⟨x, hx, hxs⟩ := he.counting hc
    simp only [hx, Option.map_some]
    exact hd.set hx ⟨rfl, by simp [hxs]⟩
  | withheld b duty he =>
    obtain ⟨x, hx, hs⟩ := he.counting hc
    simp only [hx, Option.map_some]
    exact hd.set hx ⟨rfl, by simp [hs]⟩
  | retried b hb =>
    obtain ⟨x, hx, hs⟩ := Option.map_eq_some_iff.1 ((hc.credited.mem b).1 hb)
    simp only [hx, Option.map_some]
    exact hd.set hx ⟨rfl, by simp [hs]⟩
  | stopped bs p o bag hn hcs hbag hq =>
    refine (hd.reclass fun c hc => (hq.drained c hc).imp_right And.right).of_from (fun b y hb => ?_) fun b _ x hx => ?_
    · simp only [hbag] at hb
      obtain ⟨x, hx, rfl⟩ := Option.map_eq_some_iff.1 hb
      refine ⟨x, hx, ?_⟩
      split
      · exact ⟨rfl, by simp_all⟩
      · exact ⟨rfl, fun h1 h2 => ⟨h1, h2⟩⟩
    · simp only [hbag, hx, Option.map_some, Option.some.injEq, exists_eq_left']
      split <;> rfl
  | _ => exact hd

end Sys2Proof.Machine
end

section

/-! PROOFS. Changes: left alone.

    What a change leaves unchanged. -/

namespace Sys2Proof.Machine

/-! ### What the changes leave alone -/

theorem Change.rate {v w : View} (h : Change v w) (n : Nat) : (w.till n).rate = (v.till n).rate := by
  cases h with
  | figures m t h =>
    simp only [Till.session, Prod.mk.injEq] at h
    obtain ⟨-, -, -, -, hr⟩ := h
    by_cases hn : n = m <;> simp [hn, hr]
  | listed m hs hl => by_cases hn : n = m <;> simp [hn]
  | unlisted m => by_cases hn : n = m <;> simp [hn]
  | reconciled m i hs hb => by_cases hn : n = m <;> simp [hn]
  | joined m b x hb hx hxn hs => by_cases hn : n = m <;> simp [hn]
  | drained m hs hl => by_cases hn : n = m <;> simp [hn]
  | withdrawn m hs => by_cases hn : n = m <;> simp [hn]
  | _ => rfl

/-- No change composes a float. -/
theorem Change.pending {v w : View} (h : Change v w) {n : Nat} {c : Composition}
    (hc : (w.till n).pending = some c) : (v.till n).pending = some c := by
  cases h with
  | figures m t h =>
    simp only [Till.session, Prod.mk.injEq] at h
    obtain ⟨-, hp, -, -, -⟩ := h
    by_cases hn : n = m <;> simp_all
  | listed m hs hl => by_cases hn : n = m <;> simp_all
  | unlisted m => by_cases hn : n = m <;> simp_all
  | reconciled m i hs hb => by_cases hn : n = m <;> simp_all
  | joined m b x hb hx hxn hs => by_cases hn : n = m <;> simp_all
  | drained m hs hl => by_cases hn : n = m <;> simp_all
  | withdrawn m hs => by_cases hn : n = m <;> simp_all
  | _ => exact hc

theorem Change.reservations_length {v w : View} (h : Change v w) (hv : v.reservations.length ≤ 16) :
    w.reservations.length ≤ 16 := by
  cases h with
  | assembled c b x r hb hk hs hcs ht hq ho hrl hn hw hlen => simpa using hlen
  | withdrawn n hs => exact (List.length_filter_le _ _).trans hv
  | unreserved n hs => exact (List.length_filter_le _ _).trans hv
  | swept p hs hp ht => exact (List.length_filter_le _ _).trans hv
  | sealed b n x slot hb h256 hk hs hq hfit hslot hout => exact (List.length_filter_le _ _).trans hv
  | discarded b x hb hk hs => exact (List.length_filter_le _ _).trans hv
  | _ => exact hv

/-- The operators and the profiles are no part of a change. -/
theorem Change.settings {v w : View} (h : Change v w) :
    w.operators = v.operators ∧ w.profileA = v.profileA ∧ w.profileB = v.profileB := by
  cases h <;> exact ⟨rfl, rfl, rfl⟩

/-- The office is no part of a change. -/
theorem Change.office {v w : View} (h : Change v w) : w.office = v.office ∧ w.summary = v.summary := by
  cases h <;> exact ⟨rfl, rfl⟩

/-! ### The first change of a request -/

theorem Begin.keeps_pickup {v w : View} (h : Begin v w) (hp : View.Pickup v.till v.due) : View.Pickup w.till w.due := by
  have off : ∀ n, (v.till n).state ≠ .opened → (v.till n).onList = false := fun n hs => by
    grind [hp.opened n]
  cases h with
  | composed n c r hs hpr ha hm ho hl hv hw hr =>
    have hn := off n (by rcases hs with hs | hs <;> simp [hs])
    exact hp.update n _ rfl (by simp [hn])
  | confirmed n t ls slot q hs ht hls hslot hout hq =>
    simp only [Till.session, Prod.mk.injEq] at ht
    obtain ⟨hst, -, hl, -, -⟩ := ht
    exact hp.update n t (by rw [hl, off n (by simp [hs])]) fun _ _ => hst
  | reported n t hs hr =>
    simp only [Till.session, Prod.mk.injEq] at hs
    obtain ⟨hst, -, hl, -, -⟩ := hs
    exact hp.update n t hl fun _ ho => hst.trans ho
  | _ => exact hp

theorem Begin.keeps_floats {v w : View} (h : Begin v w) (hf : View.Floats v.till v.reservations v.denoms) :
    View.Floats w.till w.reservations w.denoms := by
  cases h with
  | composed n c r hs hpr ha hm ho hl hv hw hr =>
    intro m
    dsimp only
    rw [floatsOf_append]
    by_cases hmn : m = n
    · subst hmn
      have hno : floatsOf v.reservations m = [] := (hf m).lines_eq_nil (by rcases hs with hs | hs <;> simp [hs])
      have hr1 : floatsOf [r] m = [r] := by simp [floatsOf, ho]
      rw [hno, hr1, Function.update_self]
      refine ⟨by simp, ?_, ?_, ?_, by simp⟩
      · rintro _ ⟨⟩
        exact hpr ▸ hs
      · rintro _ ⟨⟩
        exact ha
      · rintro _ ⟨⟩
        exact ⟨r, by simp, hl, hv⟩
    · have hr0 : floatsOf [r] m = [] := by simp [floatsOf, ho, Ne.symm hmn]
      simpa [hr0, hmn] using hf m
  | confirmed n t ls slot q hs ht hls hslot hout hq =>
    simp only [Till.session, Prod.mk.injEq] at ht
    obtain ⟨hst, hp, -, -, -⟩ := ht
    intro m
    by_cases hm : m = n
    · subst hm
      have hq : floatsOf (v.without (.till m)) m = [] := floatsOf_filter_of_drop _ _ _ (by simp +contextual)
      simp only [Function.update_self, hq]
      exact View.FloatOf.idle _ (by simp [hst]) hp
    · have hq : floatsOf (v.without (.till n)) m = floatsOf v.reservations m :=
        floatsOf_filter_of_keep _ _ _ (by simp +contextual [hm])
      simpa [Function.update_of_ne hm, hq] using hf m
  | reported n t hs hr =>
    simp only [Till.session, Prod.mk.injEq] at hs
    obtain ⟨hst, hp, -, -, -⟩ := hs
    exact hf.update n t (by rw [hst]) hp
  | _ => exact hf

theorem Begin.keeps_areas {v w : View} (h : Begin v w) (ha : View.Areas v.slot v.bag) : View.Areas w.slot w.bag := by
  cases h with
  | confirmed n t ls slot q hs ht hls hslot hout hq =>
    refine ⟨fun d => ?_, ha.lines⟩
    show (slot d).Limited
    by_cases hd : 1 ≤ d ∧ d ≤ 12
    · obtain ⟨hw, hr, hu, hdp, hsu⟩ := ha.limit d
      obtain ⟨ew, eu, ed, er, es⟩ := hslot d hd.1 hd.2
      exact ⟨by omega, by omega, by omega, by omega, by omega⟩
    · rw [hout d hd]
      exact ha.limit d
  | _ => exact ha

/-- The reservation of a till found, or none. -/
theorem heldBy_find_add_without_le (rs : List Reservation) (o : Owner) (a : Source) (d : Nat) :
    heldBy (((rs.find? fun r => decide (r.owner = o)).map Reservation.lines).getD []) a d +
      reservedIn (rs.filter fun q => decide (q.owner ≠ o)) a d ≤ reservedIn rs a d := by
  cases hf : rs.find? fun r => decide (r.owner = o) with
  | none =>
    simpa [heldBy] using reservedIn_filter_le rs _ a d
  | some r =>
    have ho : r.owner = o := by simpa using List.find?_some hf
    simpa [ho] using heldBy_add_without_le (List.mem_of_find?_eq_some hf) a d

theorem Begin.keeps_reserves {v w : View} (h : Begin v w) (hr : View.Reserves v.denoms v.slot v.reservations v.bag) :
    View.Reserves w.denoms w.slot w.reservations w.bag := by
  cases h with
  | composed n c r hs hpr ha hm ho hl hv hw hlen =>
    refine ⟨hr.slots, fun d a h1 h2 => ?_, fun b x hb hk hx => ?_⟩
    · dsimp only
      rw [reservedIn_append, reservedIn_singleton]
      cases a with
      | working => exact hw d h1 h2 (hr.within d .working h1 h2)
      | unfit =>
        have : heldBy r.lines .unfit d = 0 := by
          have : (r.lines.filter fun l => decide (l.slot = d) && decide (l.source = .unfit)) = [] := by
            rw [List.filter_eq_nil_iff]
            intro l hlm
            simp [hl l hlm]
          simp [heldBy, this]
        rw [this]
        exact hr.within d .unfit h1 h2
    · obtain ⟨q, hq, hqb⟩ := hr.covered b x hb hk hx
      exact ⟨q, List.mem_append_left _ hq, hqb⟩
  | confirmed n t ls slot q hs ht hls hslot hout hq =>
    refine ⟨hr.slots, fun d a h1 h2 => ?_, fun b x hb hk hx => ?_⟩
    · have hsum := heldBy_find_add_without_le v.reservations (.till n) a d
      have hwithin := hr.within d a h1 h2
      obtain ⟨ew, eu, -, -, -⟩ := hslot d h1 h2
      rw [← hls] at hsum
      cases a <;> simp only [StockSlot.area, View.without, ew, eu] at * <;> omega
    · obtain ⟨q, hq, hqb, hql⟩ := hr.covered b x hb hk hx
      exact ⟨q, List.mem_filter.2 ⟨hq, by simp [hqb]⟩, hqb, hql⟩
  | _ => exact hr

theorem Begin.keeps_dispatch {v w : View} (h : Begin v w) (hd : View.Dispatch v.slot v.bag) : View.Dispatch w.slot w.bag := by
  cases h with
  | confirmed n t ls slot q hs ht hls hslot hout hq =>
    intro d h1 h2
    obtain ⟨-, -, ed, -, -⟩ := hslot d h1 h2
    exact ed.trans (hd d h1 h2)
  | _ => exact hd

/-- A request begins with no bag, no job and no list of a consignment. -/
theorem Begin.same {v w : View} (h : Begin v w) :
    w.bag = v.bag ∧ w.priority = v.priority ∧ w.ordinary = v.ordinary ∧ w.jobs = v.jobs ∧ w.held = v.held ∧
      w.received = v.received ∧ w.duty = v.duty ∧ w.outbound = v.outbound ∧ w.inbound = v.inbound ∧ w.denoms = v.denoms := by
  cases h <;> exact ⟨rfl, rfl, rfl, rfl, rfl, rfl, rfl, rfl, rfl, rfl⟩

theorem Begin.keeps_drains {v w : View} (h : Begin v w) (hd : View.Drains v.bag v.till v.priority)
    : View.Drains w.bag w.till w.priority := by
  have hother : ∀ n t, (v.till n).state ≠ .opened → (v.till n).state ≠ .draining →
      View.Drains v.bag (Function.update v.till n t) v.priority := by
    intro n t h1 h2
    refine ⟨fun b x m hb hm h3 h4 => ?_, fun b hb => ?_⟩
    · obtain ⟨hbm, hs⟩ := hd.session b x m hb hm h3 h4
      have hmn : m ≠ n := by
        rintro rfl
        rcases hs with hs | hs
        · exact h1 hs
        · exact h2 hs
      simpa [hmn] using ⟨hbm, hs⟩
    · obtain ⟨x, m, hx, hm, hs⟩ := hd.priority b hb
      have hmn : m ≠ n := by
        rintro rfl
        exact h2 hs
      exact ⟨x, m, hx, hm, by simpa [hmn] using hs⟩
  cases h with
  | composed n c r hs hpr ha hm ho hl hv hw hr => exact hother n _ (by rcases hs with hs | hs <;> simp [hs]) (by rcases hs with hs | hs <;> simp [hs])
  | confirmed n t ls slot q hs ht hls hslot hout hq => exact hother n t (by simp [hs]) (by simp [hs])
  | reported n t hs hr =>
    simp only [Till.session, Prod.mk.injEq] at hs
    obtain ⟨hst, -, -, hb, -⟩ := hs
    exact hd.update n t hb hst
  | _ => exact hd

theorem Begin.reservations_length {v w : View} (h : Begin v w) (hv : v.reservations.length ≤ 16) : w.reservations.length ≤ 16 := by
  cases h with
  | composed n c r hs hpr ha hm ho hl hval hw hr => simpa using hr
  | confirmed n t ls slot q hs ht hls hslot hout hq => exact (List.length_filter_le _ _).trans hv
  | _ => exact hv

end Sys2Proof.Machine
end

section

/-! PROOFS. Changes: the stock value.

    The stock value moves with the totals of the day. -/

namespace Sys2Proof.Machine

/-! ### The stock value -/

theorem piecesOf_cons (l : ContentLine) (ls : List ContentLine) (d : Nat) :
    piecesOf (l :: ls) d = (if l.slot = d then l.pieces else 0) + piecesOf ls d := by
  simp only [piecesOf, heldBy_cons]
  by_cases hd : l.slot = d
  · cases hs : l.source <;> simp [hd] <;> omega
  · simp [hd]

/-- A sum over slots with one term. -/
theorem sum_upTo_ite (n k : Nat) (f : Nat → Nat) (h : k = 0 ∨ n < k → f k = 0) :
    ((upTo n).map fun d => if k = d then f d else 0).sum = f k := by
  by_cases hk : 1 ≤ k ∧ k ≤ n
  · have hmem : k ∈ upTo n := (mem_upTo n k).2 hk
    rw [List.sum_map_eq_nsmul_single k _ fun d hd _ => by simp [Ne.symm hd]]
    simp [List.count_eq_one_of_mem (nodup_upTo n) hmem]
  · rw [h (by omega)]
    refine List.sum_eq_zero fun x hx => ?_
    obtain ⟨d, hd, rfl⟩ := List.mem_map.1 hx
    rw [mem_upTo] at hd
    rw [if_neg (by omega)]

/-- The value of lines is that of the pieces that they hold of each slot. -/
theorem linesValueIn_eq_sum (ds : List Denom) (ls : List ContentLine) :
    linesValueIn ds ls = ((upTo ds.length).map fun d => piecesOf ls d * pieceValueIn ds d).sum := by
  induction ls with
  | nil => simp [linesValueIn, piecesOf, heldBy]
  | cons l ls ih =>
    have hone := sum_upTo_ite ds.length l.slot (fun d => l.pieces * pieceValueIn ds d) fun h => by
      rw [pieceValueIn_eq_zero h, Nat.mul_zero]
    have hsplit : ∀ d, piecesOf (l :: ls) d * pieceValueIn ds d =
        (if l.slot = d then l.pieces * pieceValueIn ds d else 0) + piecesOf ls d * pieceValueIn ds d := by
      intro d
      rw [piecesOf_cons, Nat.add_mul]
      split <;> simp
    simp only [hsplit, List.sum_map_add, hone]
    rw [← ih]
    rfl

/-- The value of the stock depends on the pieces of the configured slots. -/
theorem valueIn_congr {ds : List Denom} {slot slot' : Nat → StockSlot}
    (h : ∀ d, 1 ≤ d → d ≤ ds.length → (slot' d).pieces = (slot d).pieces) : valueIn ds slot' = valueIn ds slot := by
  unfold valueIn
  refine congrArg List.sum (List.map_congr_left fun d hd => ?_)
  obtain ⟨h1, h2⟩ := (mem_upTo _ _).1 hd
  rw [h d h1 h2]

/-- Pieces that leave the slots take their value with them. -/
theorem valueIn_add_sum {ds : List Denom} {slot slot' : Nat → StockSlot} (f : Nat → Nat)
    (h : ∀ d, 1 ≤ d → d ≤ ds.length → (slot' d).pieces + f d = (slot d).pieces) :
    valueIn ds slot' + ((upTo ds.length).map fun d => f d * pieceValueIn ds d).sum = valueIn ds slot := by
  unfold valueIn
  rw [← List.sum_map_add]
  refine congrArg List.sum (List.map_congr_left fun d hd => ?_)
  obtain ⟨h1, h2⟩ := (mem_upTo _ _).1 hd
  rw [← Nat.add_mul, h d h1 h2]

theorem valueIn_add_linesValueIn {ds : List Denom} {slot slot' : Nat → StockSlot} (ls : List ContentLine)
    (h : ∀ d, 1 ≤ d → d ≤ ds.length → (slot' d).pieces + piecesOf ls d = (slot d).pieces) :
    valueIn ds slot' + linesValueIn ds ls = valueIn ds slot := by
  rw [linesValueIn_eq_sum]
  exact valueIn_add_sum (piecesOf ls) h

/-- The lines of several bags, counted together. -/
theorem sum_linesValueIn (ds : List Denom) (lines : Nat → List ContentLine) (bs : List Nat) :
    (bs.map fun b => linesValueIn ds (lines b)).sum =
      ((upTo ds.length).map fun d => (bs.map fun b => piecesOf (lines b) d).sum * pieceValueIn ds d).sum := by
  induction bs with
  | nil => simp
  | cons b bs ih => simp only [List.map_cons, List.sum_cons, ih, Nat.add_mul, List.sum_map_add, linesValueIn_eq_sum ds (lines b)]

/-- The stock value and what the day's totals have taken of it. -/
def View.balance (v : View) : Int := valueIn v.denoms v.slot + v.totals.moved

/-- What a view has that the value of the stock rests on. -/
structure View.Stocked (v : View) : Prop where
  reserves : View.Reserves v.denoms v.slot v.reservations v.bag
  dispatch : View.Dispatch v.slot v.bag
  lists    : View.Lists v.outbound v.inbound v.bag
  custody  : View.Custody v.bag v.queue v.jobs v.held v.received v.duty

theorem Change.keeps_stocked {v w : View} (h : Change v w) (hv : v.Stocked) : w.Stocked :=
  ⟨h.keeps_reserves hv.reserves, h.keeps_dispatch hv.dispatch hv.custody hv.lists, h.keeps_lists hv.lists,
    h.keeps_custody hv.custody⟩

/-- The bags handed over were in DISPATCH. -/
theorem View.Stocked.handed_le {v : View} (hv : v.Stocked) (c : Nat) (h256 : ∀ b ∈ v.standing (v.outbound c) .scanned, b < 256)
    {d : Nat} (h1 : 1 ≤ d) (h2 : d ≤ 12) :
    ((v.standing (v.outbound c) .scanned).map fun b => piecesOf (((v.bag b).map Bag.lines).getD []) d).sum ≤ (v.slot d).dispatch := by
  rw [hv.dispatch d h1 h2, ← sum_range_ite_mem (v.standing (v.outbound c) .scanned) ((hv.lists.once c).filter _) h256]
  refine Finset.sum_le_sum fun b _ => ?_
  split
  · rename_i hb
    obtain ⟨hm, hs⟩ := View.mem_standing.1 hb
    obtain ⟨x, hx, hk, -⟩ := hv.lists.outbound c b hm
    have hs : x.state = .scanned := by simpa [hx] using hs
    simp [dispatchedBy, hx, Bag.dispatched, hk, hs, piecesOf]
  · exact Nat.zero_le _

/-- The pieces of an OUTBOUND bag in SEALED are in DISPATCH. -/
theorem View.Stocked.sealed_le {v : View} (hv : v.Stocked) {b : Nat} {x : Bag} (hb : v.bag b = some x) (h256 : b < 256)
    (hk : x.kind = .outbound) (hs : x.state = .sealed) {d : Nat} (h1 : 1 ≤ d) (h2 : d ≤ 12) :
    piecesOf x.lines d ≤ (v.slot d).dispatch := by
  rw [hv.dispatch d h1 h2]
  have := Finset.single_le_sum (f := fun c => dispatchedBy (v.bag c) d) (fun _ _ => Nat.zero_le _) (Finset.mem_range.2 h256)
  simpa [hb, dispatchedBy, Bag.dispatched, hk, hs, piecesOf] using this

/-- Every change leaves the balance. -/
theorem Change.balance {v w : View} (h : Change v w) (hv : v.Stocked) : w.balance = v.balance := by
  have h12 : ∀ d, d ≤ v.denoms.length → d ≤ 12 := fun d hd => hd.trans hv.reserves.slots
  cases h with
  | traded slot q hl hd hr hval => exact hval hv.reserves.slots
  | defined ds hds hs hb =>
    have hzero : ∀ es : List Denom, valueIn es v.slot = 0 := fun es => by
      simp [valueIn, hs]
    have hsame : valueIn ds (fun d => (v.slot d).cleared) = valueIn ds v.slot := valueIn_congr fun d _ _ => rfl
    simp [View.balance, hsame, hzero]
  | sealed b n x slot hb h256 hk hs hq hfit hslot hout =>
    have : valueIn v.denoms slot = valueIn v.denoms v.slot := by
      refine valueIn_congr fun d h1 h2 => ?_
      obtain ⟨ew, eu, ed, er, -⟩ := hslot d h1 (h12 d h2)
      obtain ⟨r, hmem, ho, hl⟩ := hv.reserves.covered b x hb hk hs
      have hw := (heldBy_le_reservedIn hmem .working d).trans (hv.reserves.within d .working h1 (h12 d h2))
      have hu := (heldBy_le_reservedIn hmem .unfit d).trans (hv.reserves.within d .unfit h1 (h12 d h2))
      rw [hl] at hw hu
      simp only [StockSlot.area] at hw hu
      simp only [StockSlot.pieces, piecesOf] at *
      omega
    simp [View.balance, this]
  | unsealed b x slot hb h256 hk hs hfit hslot hout =>
    have : valueIn v.denoms slot = valueIn v.denoms v.slot := by
      refine valueIn_congr fun d h1 h2 => ?_
      obtain ⟨ew, eu, ed, er, -⟩ := hslot d h1 (h12 d h2)
      have hle := hv.sealed_le hb h256 hk hs h1 (h12 d h2)
      simp only [StockSlot.pieces, piecesOf] at *
      omega
    simp [View.balance, this]
  | handedOver c outs slot q ho h256 hslot hq =>
    subst ho
    have hsum := valueIn_add_sum (ds := v.denoms) (slot := v.slot) (slot' := slot)
      (fun d => ((v.standing (v.outbound c) .scanned).map fun b => piecesOf (((v.bag b).map Bag.lines).getD []) d).sum)
      fun d h1 h2 => by
        have hle := hv.handed_le c h256 h1 (h12 d h2)
        simp only [StockSlot.pieces, hslot]
        omega
    rw [← sum_linesValueIn] at hsum
    simp only [View.balance, hq]
    omega
  | _ => rfl

end Sys2Proof.Machine
end

section

/-! PROOFS. Changes: the laws over a path.

    The close of the day, and the laws over a chain of changes. -/

namespace Sys2Proof.Machine

/-! ### The close of the day, and the laws -/

theorem DayCloses.bag_eq_some {v w : View} (h : DayCloses v w) {b : Nat} {x : Bag} (hb : w.bag b = some x) : v.bag b = some x := by
  cases h
  exact (Option.filter_eq_some_iff.1 hb).1

theorem DayCloses.keeps_pickup {v w : View} (h : DayCloses v w) (hp : View.Pickup v.till v.due) : View.Pickup w.till w.due := by
  cases h
  refine hp.of_agree (fun m => ?_) (fun m => ?_) <;> dsimp only <;> split <;> simp

theorem DayCloses.keeps_floats {v w : View} (h : DayCloses v w) (hf : View.Floats v.till v.reservations v.denoms) :
    View.Floats w.till w.reservations w.denoms := by
  cases h
  intro m
  dsimp only
  split
  · exact (hf m).congr .rfl rfl
  · exact hf m

theorem DayCloses.keeps_areas {v w : View} (h : DayCloses v w) (ha : View.Areas v.slot v.bag) : View.Areas w.slot w.bag := by
  refine ⟨?_, fun b x hb => ha.lines b x (h.bag_eq_some hb)⟩
  cases h
  exact ha.limit

theorem DayCloses.keeps_reserves {v w : View} (h : DayCloses v w) (hr : View.Reserves v.denoms v.slot v.reservations v.bag) :
    View.Reserves w.denoms w.slot w.reservations w.bag := by
  have hb := fun b x (hx : w.bag b = some x) => h.bag_eq_some hx
  cases h
  exact ⟨hr.slots, hr.within, fun b x hx => hr.covered b x (hb b x hx)⟩

/-- The close frees no bag that a list follows. -/
theorem DayCloses.bag_state {v w : View} (h : DayCloses v w) {st : BagState} (hs : st.Listed ∨ st = .received) (b : Nat) :
    (w.bag b).map Bag.state = some st ↔ (v.bag b).map Bag.state = some st := by
  cases h
  dsimp only
  cases hb : v.bag b with
  | none => rfl
  | some x =>
    have hne : st ≠ .counted ∧ st ≠ .lost ∧ st ≠ .handedOver := by grind [BagState.Listed]
    by_cases hx : x.finished = true
    · have hxs : x.state ≠ st := by
        rintro rfl
        simp [Bag.finished, hne] at hx
      simp [Option.filter_some, hx, hxs]
    · simp [Option.filter_some, hx]

theorem DayCloses.keeps_custody {v w : View} (h : DayCloses v w)
    (hc : View.Custody v.bag v.queue v.jobs v.held v.received v.duty) :
    View.Custody w.bag w.queue w.jobs w.held w.received w.duty := by
  have hq := hc.quiet (bag' := w.bag) (fun st b hl => h.bag_state (.inl hl) b)
    (fun b hb => (h.bag_state (.inr rfl) b).2 (hc.received.2 b hb))
    (hc.seals.of_from fun b y hy ho => ⟨y, h.bag_eq_some hy, ho, rfl⟩)
  cases h
  exact hq

theorem DayCloses.keeps_lists {v w : View} (h : DayCloses v w) (hl : View.Lists v.outbound v.inbound v.bag) :
    View.Lists w.outbound w.inbound w.bag := by
  have ho := fun b x (hb : w.bag b = some x) => hl.orphan b x (h.bag_eq_some hb)
  cases h
  refine hl.erase (fun c => ?_) (fun c => ?_) (fun e y hy he => ⟨y, ?_, rfl, rfl⟩) ho
  · dsimp only
    split
    · simp
    · exact List.filter_sublist
  · dsimp only
    split
    · simp
    · exact List.filter_sublist
  · obtain ⟨c, hc⟩ := he
    have hf : y.finished = false := by grind
    simp [hy, hf]

theorem DayCloses.keeps_dispatch {v w : View} (h : DayCloses v w) (hd : View.Dispatch v.slot v.bag) :
    View.Dispatch w.slot w.bag := by
  cases h
  refine hd.congr fun b d => ?_
  dsimp only
  cases hb : v.bag b with
  | none => rfl
  | some x =>
    by_cases hx : x.finished = true
    · have hs : x.state ≠ .sealed ∧ x.state ≠ .scanned := by
        simp only [Bag.finished, decide_eq_true_eq] at hx
        rcases hx with hx | hx | hx <;> simp [hx]
      simp [Option.filter_some, hx, dispatchedBy, Bag.dispatched_eq_zero_of_state hs.1 hs.2]
    · simp [Option.filter_some, hx]

theorem DayCloses.keeps_drains {v w : View} (h : DayCloses v w) (hd : View.Drains v.bag v.till v.priority)
    (hc : View.Custody v.bag v.queue v.jobs v.held v.received v.duty) : View.Drains w.bag w.till w.priority := by
  cases h
  have hstate : ∀ m, (if (v.till m).state = .reconciled then { v.till m with bags := [] } else v.till m).state =
      (v.till m).state := by
    intro m
    split <;> rfl
  refine ⟨fun b x m hb hm h1 h2 => ?_, fun b hb => ?_⟩
  · obtain ⟨hb, hf⟩ := Option.filter_eq_some_iff.1 hb
    obtain ⟨h3, h4⟩ := hd.session b x m hb hm h1 h2
    have hr : (v.till m).state ≠ .reconciled := by rcases h4 with h4 | h4 <;> simp [h4]
    simpa [hr] using ⟨h3, h4⟩
  · obtain ⟨x, hx, hs⟩ := hc.of_mem_queue (List.mem_append_left _ hb)
    obtain ⟨y, m, hy, hym, hmd⟩ := hd.priority b hb
    obtain rfl := Option.some.inj (hx.symm.trans hy)
    exact ⟨x, m, by simp [Option.filter_some, hx, Bag.finished, hs], hym, (hstate m).trans hmd⟩

theorem DayCloses.keeps_stocked {v w : View} (h : DayCloses v w) (hv : v.Stocked) : w.Stocked :=
  ⟨h.keeps_reserves hv.reserves, h.keeps_dispatch hv.dispatch, h.keeps_lists hv.lists, h.keeps_custody hv.custody⟩

/-! ### Acts, chains and paths -/

/-- What changes and the close of the day keep, a chain keeps. -/
theorem Chain.induct {P : View → Prop} (hc : ∀ {v w}, Change v w → P v → P w) (hd : ∀ {v w}, DayCloses v w → P v → P w) {day : Bool}
    {v w : View} (h : Chain day v w) (hv : P v) : P w := by
  induction h with
  | refl => exact hv
  | tail _ h ih =>
    cases h with
    | change h => exact hc h ih
    | day h => exact hd h ih

/-- What changes keep, a chain without a close keeps. -/
theorem Chain.induct_open {P : View → Prop} (hc : ∀ {v w}, Change v w → P v → P w) {v w : View} (h : Chain false v w) (hv : P v) :
    P w := by
  induction h with
  | refl => exact hv
  | tail _ h ih =>
    cases h with
    | change h => exact hc h ih

/-- What a law needs, to hold along a path: the changes, the close, the first change, OPEN DAY and the office state keep it. -/
structure Kept (P : View → Prop) : Prop where
  change : ∀ {v w}, Change v w → P v → P w
  closes : ∀ {v w}, DayCloses v w → P v → P w
  begins : ∀ {v w}, Begin v w → P v → P w
  opened : ∀ {v}, P v → P v.opened
  office : ∀ {v} (x : OfficeState), P v → P { v with office := x }

theorem Kept.chain {P : View → Prop} (hp : Kept P) {day : Bool} {v w : View} (h : Chain day v w) : P v → P w :=
  h.induct hp.change hp.closes

theorem Kept.path {P : View → Prop} (hp : Kept P) {v w : View} (h : Path v w) (hv : P v) : P w := by
  cases h with
  | acts h => exact hp.chain h hv
  | request h hc => exact hp.chain hc (hp.begins h hv)
  | opened hc _ => exact hp.chain hc (hp.opened hv)
  | stop h => exact hp.office _ (hp.chain h hv)

theorem kept_pickup : Kept fun v => View.Pickup v.till v.due :=
  ⟨Change.keeps_pickup, DayCloses.keeps_pickup, Begin.keeps_pickup, id, fun _ => id⟩

theorem kept_areas : Kept fun v => View.Areas v.slot v.bag where
  change := Change.keeps_areas
  closes := DayCloses.keeps_areas
  begins := Begin.keeps_areas
  opened {v} h := ⟨fun d => by
    obtain ⟨hw, hr, hu, hd, -⟩ := h.limit d
    exact ⟨hw, hr, hu, hd, Nat.zero_le _⟩, h.lines⟩
  office _ := id

/-- OPEN DAY leaves the reservations within their areas. -/
theorem View.Reserves.opened {v : View} (h : View.Reserves v.denoms v.slot v.reservations v.bag) :
    View.Reserves v.opened.denoms v.opened.slot v.opened.reservations v.opened.bag :=
  ⟨h.slots, fun d a h1 h2 => by cases a <;> exact h.within d _ h1 h2, h.covered⟩

theorem kept_reserves : Kept fun v => View.Reserves v.denoms v.slot v.reservations v.bag :=
  ⟨Change.keeps_reserves, DayCloses.keeps_reserves, Begin.keeps_reserves, View.Reserves.opened, fun _ => id⟩

theorem kept_floats : Kept fun v => View.Floats v.till v.reservations v.denoms ∧ View.Reserves v.denoms v.slot v.reservations v.bag where
  change h hv := ⟨h.keeps_floats hv.1 hv.2, h.keeps_reserves hv.2⟩
  closes h hv := ⟨h.keeps_floats hv.1, h.keeps_reserves hv.2⟩
  begins h hv := ⟨h.keeps_floats hv.1, h.keeps_reserves hv.2⟩
  opened hv := ⟨hv.1, hv.2.opened⟩
  office _ := id

/-- Custody speaks of nothing that the first change of a request writes. -/
theorem Begin.keeps_custody {v w : View} (h : Begin v w) (hc : View.Custody v.bag v.queue v.jobs v.held v.received v.duty) :
    View.Custody w.bag w.queue w.jobs w.held w.received w.duty := by
  cases h <;> exact hc

theorem kept_custody : Kept fun v => View.Custody v.bag v.queue v.jobs v.held v.received v.duty :=
  ⟨Change.keeps_custody, DayCloses.keeps_custody, Begin.keeps_custody, id, fun _ => id⟩

theorem Begin.keeps_lists {v w : View} (h : Begin v w) (hl : View.Lists v.outbound v.inbound v.bag) :
    View.Lists w.outbound w.inbound w.bag := by
  cases h <;> exact hl

theorem kept_dispatch : Kept fun v => View.Dispatch v.slot v.bag ∧
    View.Custody v.bag v.queue v.jobs v.held v.received v.duty ∧ View.Lists v.outbound v.inbound v.bag where
  change h hv := ⟨h.keeps_dispatch hv.1 hv.2.1 hv.2.2, h.keeps_custody hv.2.1, h.keeps_lists hv.2.2⟩
  closes h hv := ⟨h.keeps_dispatch hv.1, h.keeps_custody hv.2.1, h.keeps_lists hv.2.2⟩
  begins h hv := ⟨h.keeps_dispatch hv.1, h.keeps_custody hv.2.1, h.keeps_lists hv.2.2⟩
  opened := id
  office _ := id

theorem kept_drains : Kept fun v => View.Drains v.bag v.till v.priority ∧
    View.Custody v.bag v.queue v.jobs v.held v.received v.duty where
  change h hv := ⟨h.keeps_drains hv.1 hv.2, h.keeps_custody hv.2⟩
  closes h hv := ⟨h.keeps_drains hv.1 hv.2, h.keeps_custody hv.2⟩
  begins h hv := ⟨h.keeps_drains hv.1, h.keeps_custody hv.2⟩
  opened := id
  office _ := id

theorem DayCloses.keeps_manned {v w : View} (h : DayCloses v w) (hm : View.Manned v.jobs v.duty) : View.Manned w.jobs w.duty := by
  cases h
  exact hm

theorem Begin.keeps_manned {v w : View} (h : Begin v w) (hm : View.Manned v.jobs v.duty) : View.Manned w.jobs w.duty := by
  cases h <;> exact hm

theorem kept_manned : Kept fun v => View.Manned v.jobs v.duty ∧
    View.Custody v.bag v.queue v.jobs v.held v.received v.duty where
  change h hv := ⟨h.keeps_manned hv.1 hv.2, h.keeps_custody hv.2⟩
  closes h hv := ⟨h.keeps_manned hv.1, h.keeps_custody hv.2⟩
  begins h hv := ⟨h.keeps_manned hv.1, h.keeps_custody hv.2⟩
  opened := id
  office _ := id

theorem DayCloses.reservations {v w : View} (h : DayCloses v w) : w.reservations = v.reservations := by
  cases h
  rfl

theorem kept_reservations : Kept fun v => v.reservations.length ≤ 16 where
  change := Change.reservations_length
  closes h hv := h.reservations ▸ hv
  begins := Begin.reservations_length
  opened := id
  office _ := id

/-! ### The operators and the profiles -/

/-- The operator table: no identifier twice, each in its range (R32). -/
structure OperatorsOk (os : List Operator) : Prop where
  once  : (os.map Operator.ident).Nodup
  range : ∀ o ∈ os, 1 ≤ o.ident ∧ o.ident ≤ 65535

theorem DayCloses.settings {v w : View} (h : DayCloses v w) :
    w.operators = v.operators ∧ w.profileA = v.profileA ∧ w.profileB = v.profileB := by
  cases h
  exact ⟨rfl, rfl, rfl⟩

theorem kept_operators : Kept fun v => OperatorsOk v.operators where
  change h hv := h.settings.1 ▸ hv
  closes h hv := h.settings.1 ▸ hv
  begins h hv := by
    cases h with
    | operators os h hl =>
      obtain ⟨h1, h2⟩ := h hv.once hv.range
      exact ⟨h1, h2⟩
    | _ => exact hv
  opened := id
  office _ := id

theorem kept_operators_length : Kept fun v => v.operators.length ≤ 32 where
  change h hv := h.settings.1 ▸ hv
  closes h hv := h.settings.1 ▸ hv
  begins h hv := by
    cases h with
    | operators os h hl => exact hl hv
    | _ => exact hv
  opened := id
  office _ := id

theorem kept_profiles : Kept fun v => v.profileA.InRange ∧ v.profileB.InRange where
  change h hv := by
    rw [h.settings.2.1, h.settings.2.2]
    exact hv
  closes h hv := by
    rw [h.settings.2.1, h.settings.2.2]
    exact hv
  begins h hv := by
    cases h with
    | profiles a b p ha hb => exact ⟨ha hv.1, hb hv.2⟩
    | _ => exact hv
  opened := id
  office _ := id

/-! ### The rates and the compositions -/

theorem Chain.rate {day : Bool} {v w : View} (h : Chain day v w) (n : Nat) : (w.till n).rate = (v.till n).rate := by
  refine h.induct (P := fun u => (u.till n).rate = (v.till n).rate) (fun hc hv => (hc.rate n).trans hv) (fun hd hv => ?_) rfl
  refine Eq.trans ?_ hv
  cases hd
  dsimp only
  split <;> rfl

theorem Chain.pending {day : Bool} {v w : View} (h : Chain day v w) (n : Nat) (c : Composition)
    (hw : (w.till n).pending = some c) : (v.till n).pending = some c := by
  refine h.induct (P := fun u => (u.till n).pending = some c → (v.till n).pending = some c)
    (fun hc hv hp => hv (hc.pending hp)) (fun hd hv hp => hv ?_) id hw
  cases hd
  dsimp only at hp
  split at hp <;> exact hp

/-- A path changes a rate by the first change of a request alone, to one within the bounds of the active profile (R46, R51). -/
theorem Path.rate {v w : View} (h : Path v w) (hp : v.profile.rateMin ≤ v.profile.rateInit ∧ v.profile.rateInit ≤ v.profile.rateMax)
    (n : Nat) : (w.till n).rate = (v.till n).rate ∨
      v.profile.rateMin * 16 ≤ (w.till n).rate ∧ (w.till n).rate ≤ v.profile.rateMax * 16 := by
  cases h with
  | acts h => exact .inl (h.rate n)
  | opened hc _ => exact .inl (hc.rate n)
  | stop h => exact .inl (h.rate n)
  | request h hc =>
    rw [hc.rate n]
    cases h with
    | composed m c r hs hpr ha hm ho hl hval hw hr => exact .inl (by by_cases hn : n = m <;> simp [hn])
    | confirmed m t ls slot q hs ht hls hslot hout hq =>
      simp only [Till.session, Prod.mk.injEq] at ht
      obtain ⟨-, -, -, -, hr⟩ := ht
      by_cases hn : n = m
      · refine .inr ?_
        simp only [hn, Function.update_self, hr]
        omega
      · simp [hn]
    | reported m t hs hr =>
      by_cases hn : n = m
      · subst hn
        simpa using hr.imp_right fun h => h (hp.1.trans hp.2)
      · simp [hn]
    | _ => exact .inl rfl

/-- A till that becomes COMPOSED below its request has the float minimum of its class (R72). -/
theorem Path.floatMin {v w : View} (h : Path v w) {n : Nat} {c : Composition} (hv : (v.till n).pending = none)
    (hw : (w.till n).pending = some c) (hc : c.composed < c.requested) :
    classOf v.profile.floatMin (v.till n).cls ≤ c.composed := by
  have none_of : (v.till n).pending ≠ some c := by simp [hv]
  cases h with
  | acts h => exact absurd (h.pending n c hw) none_of
  | opened h _ => exact absurd (h.pending n c hw) none_of
  | stop h => exact absurd (h.pending n c hw) none_of
  | request h hch =>
    have hu := hch.pending n c hw
    cases h with
    | composed m d r hs hpr ha hm ho hl hval hwi hr =>
      by_cases hn : n = m
      · subst hn
        obtain rfl : d = c := by simpa using hu
        exact hm hc
      · exact absurd (by simpa [hn] using hu) none_of
    | confirmed m t ls slot q hs ht hls hslot hout hq =>
      simp only [Till.session, Prod.mk.injEq] at ht
      obtain ⟨-, hp, -, -, -⟩ := ht
      by_cases hn : n = m
      · subst hn
        simp [hp] at hu
      · exact absurd (by simpa [hn] using hu) none_of
    | reported m t hs hr =>
      simp only [Till.session, Prod.mk.injEq] at hs
      obtain ⟨-, hp, -, -, -⟩ := hs
      by_cases hn : n = m
      · subst hn
        exact absurd (by simpa [hp] using hu) none_of
      · exact absurd (by simpa [hn] using hu) none_of
    | _ => exact absurd hu none_of

/-! ### The balance -/

/-- The balance over a part of a step: it stays, or the day closed and its summary has it. -/
def View.Balanced (v w : View) : Prop :=
  w.balance = v.balance ∨
    ∃ d, w.office = .closedDay ∧ w.summary = some d ∧ (valueIn w.denoms w.slot : Int) + d.totals.moved + w.totals.moved = v.balance

theorem Totals.moved_zero : Totals.zero.moved = 0 := rfl

theorem Chain.balanced {day : Bool} {v w : View} (h : Chain day v w) (hv : v.Stocked) : View.Balanced v w := by
  suffices w.Stocked ∧ View.Balanced v w from this.2
  refine h.induct (P := fun u => u.Stocked ∧ View.Balanced v u) (fun hc hu => ?_) (fun hd hu => ?_) ⟨hv, .inl rfl⟩
  · obtain ⟨hs, hb⟩ := hu
    refine ⟨hc.keeps_stocked hs, ?_⟩
    have hbal := hc.balance hs
    obtain ⟨ho, hsum⟩ := hc.office
    rcases hb with hb | ⟨d, hd, hds, hdb⟩
    · exact .inl (hbal.trans hb)
    · refine .inr ⟨d, ho.trans hd, hsum.trans hds, ?_⟩
      simp only [View.balance] at hbal hdb ⊢
      omega
  · obtain ⟨hs, hb⟩ := hu
    refine ⟨hd.keeps_stocked hs, ?_⟩
    cases hd with
    | mk d freed hdt hno =>
      rcases hb with hb | ⟨e, he, -⟩
      · refine .inr ⟨d, rfl, rfl, ?_⟩
        simp only [View.balance, hdt, Totals.moved_zero] at hb ⊢
        omega
      · exact absurd he hno

theorem Chain.balance_open {v w : View} (h : Chain false v w) (hv : v.Stocked) : w.balance = v.balance := by
  suffices w.Stocked ∧ w.balance = v.balance from this.2
  exact h.induct_open (P := fun u => u.Stocked ∧ u.balance = v.balance)
    (fun hc hu => ⟨hc.keeps_stocked hu.1, (hc.balance hu.1).trans hu.2⟩) ⟨hv, rfl⟩

theorem Begin.keeps_stocked {v w : View} (h : Begin v w) (hv : v.Stocked) : w.Stocked :=
  ⟨h.keeps_reserves hv.reserves, h.keeps_dispatch hv.dispatch, h.keeps_lists hv.lists, h.keeps_custody hv.custody⟩

/-- A float confirmed leaves the stock with its value (R8). -/
theorem Begin.balance {v w : View} (h : Begin v w) (hv : v.Stocked) : w.balance = v.balance := by
  cases h with
  | confirmed n t ls slot q hs ht hls hslot hout hq =>
    have hval := valueIn_add_linesValueIn (ds := v.denoms) (slot := v.slot) (slot' := slot) ls fun d h1 h2 => by
      have h12 := h2.trans hv.reserves.slots
      obtain ⟨ew, eu, ed, er, -⟩ := hslot d h1 h12
      have hw := heldBy_find_add_without_le v.reservations (.till n) .working d
      have hu := heldBy_find_add_without_le v.reservations (.till n) .unfit d
      have hww := hv.reserves.within d .working h1 h12
      have huu := hv.reserves.within d .unfit h1 h12
      rw [← hls] at hw hu
      simp only [StockSlot.area] at hww huu
      simp only [StockSlot.pieces, piecesOf]
      omega
    simp only [View.balance, hq]
    omega
  | _ => rfl

/-- The value of the stock over a path (R4, R25). -/
theorem Path.value {v w : View} (h : Path v w) (hv : v.Stocked) :
    View.Balanced v w ∨ w.office = .trading ∧ w.totals = Totals.zero ∧ valueIn w.denoms w.slot = valueIn v.denoms v.slot := by
  cases h with
  | acts h => exact .inl (h.balanced hv)
  | request h hc =>
    have := hc.balanced (h.keeps_stocked hv)
    simp only [View.Balanced, h.balance hv] at this
    exact .inl this
  | opened hc hw =>
    obtain ⟨ho, ht, hs, hd⟩ := hw
    refine .inr ⟨ho, ht, ?_⟩
    rw [hs, hd]
    exact valueIn_congr fun d _ _ => rfl
  | stop h => exact .inl (.inl (h.balance_open hv))

end Sys2Proof.Machine
end

section
/-! PROOFS. Each shared operation as acts on the view: stock, tills, bags, the count queue, credits, drops. -/

namespace Sys2Proof.Machine

/-- One state leads to another by acts on its view. -/
abbrev State.Leads (day : Bool) (s t : State) : Prop := Chain day s.view t.view

theorem State.Leads.refl {day : Bool} (s : State) : s.Leads day s := Relation.ReflTransGen.refl

theorem State.Leads.trans {day : Bool} {s t u : State} (h1 : s.Leads day t) (h2 : t.Leads day u) : s.Leads day u :=
  Relation.ReflTransGen.trans h1 h2

theorem State.Leads.of_view {day : Bool} {s t : State} (h : t.view = s.view) : s.Leads day t := by
  rw [State.Leads, h]

theorem State.Leads.of_change {day : Bool} {s t : State} {v : View} (h : Change s.view v) (ht : t.view = v) : s.Leads day t :=
  .single (.change (ht ▸ h))

/-- What follows may change what the view does not show. -/
theorem State.Leads.congr {day : Bool} {s t u : State} (h : s.Leads day t) (hu : u.view = t.view) : s.Leads day u :=
  h.trans (.of_view hu)

theorem State.Leads.place {day : Bool} {s t : State} (h : s.Leads day t) (k : NoticeKind) (ds : List Datum) :
    s.Leads day (t.place k ds) := h.congr (t.place_view k ds)

theorem State.Leads.foldl {day : Bool} {β : Type} {f : State → β → State} (h : ∀ (s : State) (b : β), s.Leads day (f s b)) (bs : List β) (s : State) :
    s.Leads day (bs.foldl f s) := by
  induction bs generalizing s with
  | nil => exact .refl s
  | cons b bs ih => exact (h s b).trans (ih _)

/-! ### Tables read outside their numbers -/

theorem nth_outside {α : Type} {n : Nat} (d : α) (v : Vector α n) (k : Nat) (h : ¬ (1 ≤ k ∧ k ≤ n)) : nth d v k = d := by
  unfold nth
  split
  · rfl
  · rw [Vector.getElem?_eq_none (by omega)]
    rfl

theorem State.till_outside (s : State) (n : Nat) (h : ¬ (1 ≤ n ∧ n ≤ 96)) : s.till n = Till.atColdStart := nth_outside _ _ _ h

/-- A till that is not CLOSED is one of the table. -/
theorem State.till_inside {s : State} {n : Nat} (h : (s.till n).state ≠ .closed) : 1 ≤ n ∧ n ≤ 96 := by
  by_contra hn
  exact h (by rw [s.till_outside n hn]; rfl)

theorem State.slot_outside (s : State) (d : Nat) (h : ¬ (1 ≤ d ∧ d ≤ 12)) : s.slot d = StockSlot.empty := nth_outside _ _ _ h

/-- A bag of the view is one of the register. -/
theorem State.view_bag_eq_some {s : State} {b : Nat} {x : Bag} (h : s.view.bag b = some x) : ∃ y, s.bag b = some y ∧ x = y.core := by
  obtain ⟨y, hy, rfl⟩ := Option.map_eq_some_iff.1 h
  exact ⟨y, hy, rfl⟩

theorem State.view_bag {s : State} {b : Nat} {x : Bag} (h : s.bag b = some x) : s.view.bag b = some x.core := by
  simp [State.view, h]

theorem State.view_bag_none {s : State} {b : Nat} (h : s.bag b = none) : s.view.bag b = none := by simp [State.view, h]

/-! ### Updates of whole records -/

@[simp] theorem State.tellOc_view (s : State) (f : Totals → Totals) : (s.tellOc f).view = { s.view with totals := f s.oc.totals } := rfl

@[simp] theorem State.freeReservation_view (s : State) (o : Owner) :
    (s.freeReservation o).view = { s.view with reservations := s.view.without o } := rfl

@[simp] theorem State.placeReservation_view (s : State) (r : Reservation) :
    (s.placeReservation r).view = { s.view with reservations := s.view.reservations ++ [r] } := rfl

/-- The day's totals take up what says nothing of the stock. -/
theorem State.tellOc_leads {day : Bool} (s : State) (f : Totals → Totals) (h : (f s.oc.totals).moved = s.oc.totals.moved) :
    s.Leads day (s.tellOc f) := by
  refine .of_change (.traded s.view.slot (f s.oc.totals) (fun _ => id) (fun _ => rfl) (fun _ _ => id) fun _ => ?_) rfl
  rw [h]
  rfl

/-- Figures of a till that no law reads. -/
theorem State.changeTill_leads {day : Bool} (s : State) (n : Nat) (f : Till → Till) (h : (f (s.till n)).session = (s.till n).session) :
    s.Leads day (s.changeTill n f) := by
  by_cases hn : 1 ≤ n ∧ n ≤ 96
  · exact .of_change (.figures n (f (s.till n)) h) (s.setTill_view n _ hn.1 hn.2)
  · rw [State.changeTill, s.setTill_outside n _ hn]

/-! ### Tills -/

/-- The session of a till with no bag outstanding is COUNTED or LOST (R62). -/
theorem State.counted_or_lost {s : State} {t : Till} (h : s.bagsOutstanding t = 0) {b : Nat} (hb : b ∈ t.bags) {x : Bag}
    (hx : s.view.bag b = some x) : x.state = .counted ∨ x.state = .lost := by
  obtain ⟨y, hy, rfl⟩ := State.view_bag_eq_some hx
  have := List.filter_eq_nil_iff.1 (List.eq_nil_of_length_eq_zero h) b hb
  simp only [hy, decide_eq_true_eq] at this
  show y.state = .counted ∨ y.state = .lost
  tauto

theorem State.reconcile_leads {day : Bool} (s : State) (n : Nat) : s.Leads day (s.reconcile n) := by
  unfold State.reconcile
  dsimp only
  split
  · rename_i h
    obtain ⟨hd, hb⟩ := h
    obtain ⟨h1, h2⟩ := s.till_inside (n := n) (by simp [hd])
    refine State.Leads.place (.trans (t := s.setTill n _) ?_ (State.tellOc_leads _ _ rfl)) _ _
    exact .of_change (.reconciled n (some (s.till n).varianceOf) hd fun b hm x hx => s.counted_or_lost hb hm hx)
      (s.setTill_view n _ h1 h2)
  · exact .refl s

theorem State.tellCounted_leads {day : Bool} (s : State) (b : Nat) : s.Leads day (s.tellCounted b) := by
  unfold State.tellCounted
  split
  · exact .refl s
  · split
    · exact .refl s
    · exact (s.changeTill_leads _ _ rfl).trans (State.reconcile_leads _ _)

/-- A bag moves between states that no list follows. -/
theorem State.moveBag_leads {day : Bool} (s : State) (b : Nat) (st : BagState)
    (h : ∀ x, s.bag b = some x → Moves x.state st ∧ (x.state = .received → b ∉ s.view.received)) : s.Leads day (s.moveBag b st) := by
  cases hb : s.bag b with
  | none =>
    have : s.moveBag b st = s := by simp [State.moveBag, State.changeBag, hb]
    rw [this]
  | some x =>
    obtain ⟨hm, hr⟩ := h x hb
    refine .of_change (.moved b x.core st (State.view_bag hb) hm hr) ?_
    rw [State.moveBag_view, View.changeBag, State.view_bag hb]
    rfl

theorem State.loseBag_leads {day : Bool} (s : State) (b : Nat)
    (h : ∀ x, s.bag b = some x → x.state = .declared ∨ x.state = .expected ∨ x.state = .lost) : s.Leads day (s.loseBag b) := by
  have h1 : s.Leads day ((s.moveBag b .lost).tellOc fun q =>
      { q with lostBags := q.lostBags + 1, lostValue := q.lostValue + ((s.bag b).getD default).declared.getD 0 }) := by
    refine (s.moveBag_leads b .lost fun x hx => ⟨.lost (h x hx), fun hr => ?_⟩).trans (State.tellOc_leads _ _ rfl)
    rcases h x hx with h | h | h <;> simp [h] at hr
  unfold State.loseBag
  dsimp only
  split
  · exact h1
  · exact h1.trans (State.reconcile_leads _ _)

@[simp] theorem State.setDue_view (s : State) (ds : List DueEntry) :
    ({ s with tps := { s.tps with due := ds } } : State).view = { s.view with due := ds.map DueEntry.till } := rfl

/-- The tills of the pickup-due list without one of them. -/
theorem map_till_filter (ds : List DueEntry) (n : Nat) :
    (ds.filter fun e => decide (e.till ≠ n)).map DueEntry.till = (ds.map DueEntry.till).filter fun m => decide (m ≠ n) := by
  rw [List.filter_map]
  rfl

theorem State.evaluate_leads {day : Bool} (s : State) (n minute : Nat) : s.Leads day (s.evaluate n minute) := by
  unfold State.evaluate
  dsimp only
  split
  · exact .refl s
  · rename_i hs
    have hs : (s.till n).state = .opened := by simpa using hs
    obtain ⟨h1, h2⟩ := s.till_inside (n := n) (by simp [hs])
    split
    · rename_i hl
      have hl : (s.till n).onList = false := by simp at hl; exact hl.1
      refine State.Leads.place (.of_change (.listed n hs hl) ((State.setDue_view _ _).trans ?_)) _ _
      rw [s.setTill_view n _ h1 h2, List.map_append]
      rfl
    · split
      · refine State.Leads.place (.of_change (.unlisted n) ((State.setDue_view _ _).trans ?_)) _ _
        rw [s.setTill_view n _ h1 h2, map_till_filter]
        rfl
      · exact .refl s

end Sys2Proof.Machine
end

section

/-! PROOFS. The floats, the slots of the stock and its credits as acts on the view. -/

namespace Sys2Proof.Machine

theorem State.minuteEvent_leads {day : Bool} (s : State) (minute : Nat) : s.Leads day (s.minuteEvent minute) := by
  have h : s.Leads day { s with oc := { s.oc with minuteTold := minute } } := .of_view rfl
  exact h.trans (.foldl (fun u n => u.evaluate_leads n minute) _ _)

/-- A till written as it stands is no write. -/
theorem State.setTill_self (s : State) (n : Nat) : s.setTill n (s.till n) = s := by
  by_cases hn : n = 0
  · simp [State.setTill, hn]
  · unfold State.setTill State.till
    rw [putNth_nth _ _ _ (by omega)]

/-- A float is withdrawn, or a reservation without one freed (R15, R47). -/
theorem State.uncompose_leads {day : Bool} (s : State) (n : Nat) : s.Leads day ((s.freeReservation (.till n)).uncompose n) := by
  have htill : (s.freeReservation (.till n)).till n = s.till n := rfl
  unfold State.uncompose State.changeTill
  dsimp only
  rw [htill]
  split
  · rename_i hs
    obtain ⟨h1, h2⟩ := s.till_inside (n := n) (by simp [hs])
    refine .of_change (.withdrawn n hs) ?_
    rw [State.setTill_view _ n _ h1 h2]
    rfl
  · rename_i hs
    rw [← htill, State.setTill_self]
    exact .of_change (.unreserved n hs) rfl

theorem State.floatExpired_leads {day : Bool} (s : State) (n : Nat) : s.Leads day (s.floatExpired n) :=
  (s.uncompose_leads n).place _ _

/-! ### Stock changed slot by slot -/

/-- The slots of a state after each of a list was changed once. -/
def slotsChanged (ds : List Nat) (g : Nat → StockSlot → StockSlot) (slot : Nat → StockSlot) (d : Nat) : StockSlot :=
  if d ∈ ds ∧ 1 ≤ d ∧ d ≤ 12 then g d (slot d) else slot d

theorem State.changeSlot_view (s : State) (d : Nat) (f : StockSlot → StockSlot) :
    (s.changeSlot d f).view = { s.view with slot := slotsChanged [d] (fun _ => f) s.view.slot } := by
  by_cases hd : 1 ≤ d ∧ d ≤ 12
  · rw [State.changeSlot, s.setSlot_view d _ hd.1 hd.2]
    have hslot : Function.update s.view.slot d (f (s.slot d)) = slotsChanged [d] (fun _ => f) s.view.slot := by
      funext e
      by_cases he : e = d
      · subst he
        simp only [Function.update_self, slotsChanged, List.mem_singleton, hd, and_self, if_true]
        rfl
      · simp [slotsChanged, he]
    rw [hslot]
  · rw [State.changeSlot, s.setSlot_outside d _ hd]
    have : slotsChanged [d] (fun _ => f) s.view.slot = s.view.slot := by
      funext e
      refine if_neg fun he => hd ?_
      obtain ⟨he, h1, h2⟩ := he
      obtain rfl := List.mem_singleton.1 he
      exact ⟨h1, h2⟩
    rw [this]

/-- The slots of a list without repeats, each changed. -/
theorem State.foldl_changeSlot_view (ds : List Nat) (hn : ds.Nodup) (g : Nat → StockSlot → StockSlot) (s : State) :
    (ds.foldl (fun u d => u.changeSlot d (g d)) s).view = { s.view with slot := slotsChanged ds g s.view.slot } := by
  induction ds generalizing s with
  | nil =>
    have : slotsChanged [] g s.view.slot = s.view.slot := by
      funext e
      simp [slotsChanged]
    rw [this]
    rfl
  | cons d ds ih =>
    obtain ⟨hd, hn⟩ := List.nodup_cons.1 hn
    have hslot : slotsChanged ds g (slotsChanged [d] (fun _ => g d) s.view.slot) = slotsChanged (d :: ds) g s.view.slot := by
      funext e
      by_cases he : e = d
      · subst he
        simp [slotsChanged, hd]
      · simp [slotsChanged, he]
    rw [List.foldl_cons, ih hn, State.changeSlot_view]
    dsimp only
    rw [hslot]

/-- A fold over slots leaves every record but ST. -/
theorem State.foldl_changeSlot_frame (ds : List Nat) (g : Nat → StockSlot → StockSlot) (s : State) :
    (ds.foldl (fun u d => u.changeSlot d (g d)) s).br = s.br ∧ (ds.foldl (fun u d => u.changeSlot d (g d)) s).oc = s.oc ∧
      (ds.foldl (fun u d => u.changeSlot d (g d)) s).csc = s.csc := by
  simp

theorem mem_slots {s : State} {d : Nat} : d ∈ s.slots ↔ 1 ≤ d ∧ d ≤ s.st.denoms.length := mem_upTo _ _

theorem nodup_slots (s : State) : s.slots.Nodup := nodup_upTo _

/-! ### Credits -/

/-- The stock and the totals of a credit that fits: good pieces into WORKING, unfit pieces into UNFIT (R5). -/
def State.stockIn (s : State) (t : Vector Counts 12) : State :=
  (s.slots.foldl (fun u d => u.changeSlot d (StockSlot.add (nth default t d))) s).tellOc fun q =>
    { q with counted := q.counted + s.tallyValue (fun c => c.good + c.unfit) t, unfit := q.unfit + s.tallyValue Counts.unfit t }

theorem State.applyCredit_eq (s : State) (b : Nat) (t : Vector Counts 12) :
    s.applyCredit b t = ((s.stockIn t).moveBag b .counted).tellCounted b := rfl

theorem StockSlot.withWorking_working (x : StockSlot) (w : Nat) : (x.withWorking w).working = w := by
  unfold StockSlot.withWorking
  split
  · exact Eq.symm ‹_›
  · rfl

theorem StockSlot.withWorking_rest (x : StockSlot) (w : Nat) :
    (x.withWorking w).reserve = x.reserve ∧ (x.withWorking w).unfit = x.unfit ∧ (x.withWorking w).dispatch = x.dispatch ∧
      (x.withWorking w).suspect = x.suspect := by
  unfold StockSlot.withWorking
  split <;> exact ⟨rfl, rfl, rfl, rfl⟩

/-- The counts of a slot that takes a credit. -/
theorem StockSlot.add_counts (c : Counts) (x : StockSlot) :
    (x.add c).working = x.working + c.good ∧ (x.add c).unfit = x.unfit + c.unfit ∧ (x.add c).reserve = x.reserve ∧
      (x.add c).dispatch = x.dispatch ∧ (x.add c).suspect = x.suspect := by
  obtain ⟨hr, -, hd, hs⟩ := x.withWorking_rest (x.working + c.good)
  exact ⟨x.withWorking_working _, rfl, hr, hd, hs⟩

/-- A credit fits exactly where no slot's WORKING or UNFIT would pass the limit. -/
theorem State.creditFailures_eq_nil {s : State} {t : Vector Counts 12} :
    s.creditFailures t = [] ↔ ∀ d, 1 ≤ d → d ≤ s.st.denoms.length →
      (s.slot d).working + (nth default t d).good ≤ pieceLimit ∧ (s.slot d).unfit + (nth default t d).unfit ≤ pieceLimit := by
  simp only [State.creditFailures, List.flatMap_eq_nil_iff, mem_slots, List.append_eq_nil_iff, and_imp]
  refine forall_congr' fun d => forall_congr' fun _ => forall_congr' fun _ => and_congr ?_ ?_ <;> split <;> simp_all

theorem State.stockIn_view (s : State) (t : Vector Counts 12) :
    (s.stockIn t).view =
      { s.view with
        slot := slotsChanged s.slots (fun d => StockSlot.add (nth default t d)) s.view.slot
        totals := { s.oc.totals with
          counted := s.oc.totals.counted + s.tallyValue (fun c => c.good + c.unfit) t
          unfit := s.oc.totals.unfit + s.tallyValue Counts.unfit t } } := by
  have hoc := (s.foldl_changeSlot_frame s.slots fun d => StockSlot.add (nth default t d)).2.1
  rw [State.stockIn, State.tellOc_view, State.foldl_changeSlot_view _ (nodup_slots s), hoc]

/-- A credit that fits enters the stock with its value. -/
theorem State.stockIn_change (s : State) (t : Vector Counts 12) (h : s.creditFailures t = []) : Change s.view (s.stockIn t).view := by
  rw [State.creditFailures_eq_nil] at h
  have hadd : ∀ d, slotsChanged s.slots (fun d => StockSlot.add (nth default t d)) s.view.slot d = s.view.slot d ∨
      (1 ≤ d ∧ d ≤ s.st.denoms.length) ∧
        slotsChanged s.slots (fun d => StockSlot.add (nth default t d)) s.view.slot d = (s.slot d).add (nth default t d) := by
    intro d
    unfold slotsChanged
    split
    · rename_i hd
      exact .inr ⟨mem_slots.1 hd.1, rfl⟩
    · exact .inl rfl
  rw [State.stockIn_view]
  refine .traded _ _ (fun d hl => ?_) (fun d => ?_) (fun d a hr => ?_) fun h12 => ?_
  · rcases hadd d with hd | ⟨⟨h1, h2⟩, hd⟩
    · exact hd ▸ hl
    · rw [hd]
      obtain ⟨hw, hu⟩ := h d h1 h2
      obtain ⟨ew, eu, er, ed, es⟩ := (s.slot d).add_counts (nth default t d)
      obtain ⟨-, hlr, -, hld, hls⟩ := hl
      exact ⟨ew ▸ hw, er ▸ hlr, eu ▸ hu, ed ▸ hld, es ▸ hls⟩
  · rcases hadd d with hd | ⟨-, hd⟩
    · rw [hd]
    · rw [hd]
      exact ((s.slot d).add_counts _).2.2.2.1
  · rcases hadd d with hd | ⟨-, hd⟩
    · rwa [hd]
    · rw [hd]
      refine hr.trans ?_
      obtain ⟨ew, eu, -, -, -⟩ := (s.slot d).add_counts (nth default t d)
      cases a
      · exact (Nat.le_add_right _ _).trans_eq ew.symm
      · exact (Nat.le_add_right _ _).trans_eq eu.symm
  · have hval : valueIn s.view.denoms s.view.slot + s.tallyValue (fun c => c.good + c.unfit) t =
        valueIn s.view.denoms (slotsChanged s.slots (fun d => StockSlot.add (nth default t d)) s.view.slot) := by
      refine valueIn_add_sum (ds := s.view.denoms) (fun d => (nth default t d).good + (nth default t d).unfit) fun d h1 h2 => ?_
      have hd : d ∈ s.slots ∧ 1 ≤ d ∧ d ≤ 12 := ⟨mem_slots.2 ⟨h1, h2⟩, h1, h2.trans h12⟩
      have hslot : slotsChanged s.slots (fun d => StockSlot.add (nth default t d)) s.view.slot d =
          (s.slot d).add (nth default t d) := if_pos hd
      obtain ⟨ew, eu, er, ed, -⟩ := (s.slot d).add_counts (nth default t d)
      rw [hslot]
      simp only [StockSlot.pieces, ew, eu, er, ed]
      simp only [State.view]
      omega
    simp only [Totals.moved, ← hval]
    simp only [State.view]
    omega

theorem State.addSuspects_view (s : State) (t : Vector Counts 12) :
    (s.addSuspects t).view =
      { s.view with
        slot := slotsChanged s.slots
          (fun d x => { x with suspect := min (x.suspect + (nth default t d).suspect) pieceLimit }) s.view.slot
        totals := { s.oc.totals with
          suspectPieces := s.oc.totals.suspectPieces + (s.slots.map fun d => (nth default t d).suspect).sum
          suspectValue := s.oc.totals.suspectValue + s.tallyValue Counts.suspect t } } := by
  have hoc := (s.foldl_changeSlot_frame s.slots
    fun d x => { x with suspect := min (x.suspect + (nth default t d).suspect) pieceLimit }).2.1
  unfold State.addSuspects
  dsimp only
  rw [State.tellOc_view, State.foldl_changeSlot_view _ (nodup_slots s), hoc]

/-- Suspect pieces join the held counts, which are no stock (R3). -/
theorem State.addSuspects_change (s : State) (t : Vector Counts 12) : Change s.view (s.addSuspects t).view := by
  have hslot : ∀ d, ∃ n, n ≤ max (s.slot d).suspect pieceLimit ∧ slotsChanged s.slots
      (fun d x => { x with suspect := min (x.suspect + (nth default t d).suspect) pieceLimit }) s.view.slot d =
        { s.slot d with suspect := n } := by
    intro d
    unfold slotsChanged
    split
    · exact ⟨_, (Nat.min_le_right _ _).trans (Nat.le_max_right _ _), rfl⟩
    · exact ⟨(s.slot d).suspect, Nat.le_max_left _ _, rfl⟩
  rw [State.addSuspects_view]
  refine .traded _ _ (fun d hl => ?_) (fun d => ?_) (fun d a hr => ?_) fun _ => ?_
  · obtain ⟨n, hn, hd⟩ := hslot d
    obtain ⟨hw, hr, hu, hdp, hs⟩ := hl
    rw [hd]
    exact ⟨hw, hr, hu, hdp, hn.trans (max_le hs le_rfl)⟩
  · obtain ⟨n, -, hd⟩ := hslot d
    rw [hd]
    rfl
  · obtain ⟨n, -, hd⟩ := hslot d
    rw [hd]
    cases a <;> exact hr
  · have : valueIn s.view.denoms (slotsChanged s.slots
        (fun d x => { x with suspect := min (x.suspect + (nth default t d).suspect) pieceLimit }) s.view.slot) =
          valueIn s.view.denoms s.view.slot := by
      refine valueIn_congr fun d _ _ => ?_
      obtain ⟨n, -, hd⟩ := hslot d
      rw [hd]
      rfl
    rw [this]
    rfl

/-! ### Held credits -/

@[simp] theorem State.setHeld_view (s : State) (hs : List HeldCredit) :
    ({ s with st := { s.st with held := hs } } : State).view = { s.view with held := hs.map HeldCredit.bag } := rfl

theorem map_bag_filter (hs : List HeldCredit) (b : Nat) :
    (hs.filter fun h => decide (h.bag ≠ b)).map HeldCredit.bag = (hs.map HeldCredit.bag).filter fun q => decide (q ≠ b) := by
  rw [List.filter_map]
  rfl

/-- A held credit that is none any more: its bag is COUNTED, or its slot free. -/
def State.Settled (s : State) (b : Nat) : Prop := ∀ x, s.bag b = some x → x.state = .counted

/-- The credit of a held entry is taken: its bag leaves the list, COUNTED (R6). -/
theorem State.takeHeld_leads {day : Bool} (s : State) (b : Nat) (t : Vector Counts 12) (h : s.creditFailures t = [])
    (hb : b ∈ s.st.held.map HeldCredit.bag ∨ s.Settled b) :
    s.Leads day (({ s with st := { s.st with held := s.st.held.filter fun h => decide (h.bag ≠ b) } }).applyCredit b t) := by
  rw [State.applyCredit_eq]
  refine State.Leads.trans ?_ (State.tellCounted_leads _ b)
  have hview : ((({ s with st := { s.st with held := s.st.held.filter fun h => decide (h.bag ≠ b) } } : State).stockIn t).moveBag b
      .counted).view = { (s.stockIn t).view.changeBag b (fun x => { x with state := .counted }) with
        held := (s.stockIn t).view.held.filter fun q => decide (q ≠ b) } := by
    rw [State.moveBag_view, State.stockIn_view, State.stockIn_view, State.setHeld_view, map_bag_filter]
    rfl
  refine State.Leads.trans (t := s.stockIn t) (.single (.change (s.stockIn_change t h))) ?_
  rcases hb with hb | hb
  · refine .of_change (.retried b ?_) hview
    rw [State.stockIn_view]
    exact hb
  · by_cases hm : b ∈ s.st.held.map HeldCredit.bag
    · refine .of_change (.retried b ?_) hview
      rw [State.stockIn_view]
      exact hm
    · refine .of_view (hview.trans ?_)
      have hheld : (s.stockIn t).view.held.filter (fun q => decide (q ≠ b)) = (s.stockIn t).view.held := by
        rw [State.stockIn_view, List.filter_eq_self]
        rintro q hq
        simp only [decide_eq_true_eq]
        rintro rfl
        exact hm hq
      have hbag : (s.stockIn t).view.changeBag b (fun x => { x with state := .counted }) = (s.stockIn t).view := by
        have hmap : ((s.stockIn t).view.bag b).map (fun x => { x with state := .counted }) = (s.stockIn t).view.bag b := by
          rw [State.stockIn_view]
          cases hx : s.bag b with
          | none => simp [State.view, hx]
          | some x =>
            have hxs := hb x hx
            simp only [State.view, hx, Option.map_some, Bag.core, hxs]
        rw [View.changeBag, hmap, Function.update_eq_self]
      rw [hbag, hheld]

end Sys2Proof.Machine
end

section

/-! PROOFS. Held credits retried, the count queue, new bag records and drops as acts on the view. -/

namespace Sys2Proof.Machine

theorem State.bag_moveBag (s : State) (b c : Nat) (st : BagState) :
    (s.moveBag b st).bag c = if c = b then (s.bag b).map fun x => { x with state := st, changed := s.oc.clock } else s.bag c :=
  s.bag_changeBag b c _

/-- Whatever keeps its own premise may be done again and again. -/
theorem State.Leads.foldl_of {day : Bool} {β : Type} {f : State → β → State} {bs : List β} {P : State → Prop}
    (h : ∀ (s : State), ∀ b ∈ bs, P s → s.Leads day (f s b) ∧ P (f s b)) (s : State) (hs : P s) : s.Leads day (bs.foldl f s) := by
  induction bs generalizing s with
  | nil => exact .refl s
  | cons b bs ih =>
    obtain ⟨h1, h2⟩ := h s b (by simp) hs
    exact h1.trans (ih (fun u c hc => h u c (by simp [hc])) _ h2)

/-- A credit applied makes its bag COUNTED and leaves the other bags and the held-credit list. -/
theorem State.applyCredit_bag (s : State) (b c : Nat) (t : Vector Counts 12) :
    (s.applyCredit b t).bag c = if c = b then (s.bag b).map fun x => { x with state := .counted, changed := s.oc.clock } else s.bag c := by
  obtain ⟨hbr, hoc, -⟩ := s.foldl_changeSlot_frame s.slots fun d => StockSlot.add (nth default t d)
  have hbag : ∀ e, (s.stockIn t).bag e = s.bag e := fun e => State.bag_congr hbr e
  rw [State.applyCredit_eq, State.bag_congr (State.tellCounted_frame _ b).2.2.2.2.2.2.1 c, State.bag_moveBag, hbag, hbag]
  simp only [State.stockIn, State.tellOc_oc, hoc]

theorem State.applyCredit_held (s : State) (b : Nat) (t : Vector Counts 12) : (s.applyCredit b t).st.held = s.st.held := by
  have hheld := foldl_keeps (fun u : State => u.st.held) (fun u d => u.changeSlot d (StockSlot.add (nth default t d)))
    (fun _ _ => rfl) s.slots s
  rw [State.applyCredit_eq, (State.tellCounted_frame _ b).2.2.2.2.2.1, State.moveBag]
  simpa [State.stockIn] using hheld

/-- What the pass over the held-credit list goes by: each entry stands, or is settled. -/
def State.Retries (s : State) (es : List HeldCredit) : Prop :=
  ∀ e ∈ es, e.bag ∈ s.st.held.map HeldCredit.bag ∨ s.Settled e.bag

theorem State.retryOne_leads {day : Bool} (p : Nat × Source) (s : State) {es : List HeldCredit} {e : HeldCredit} (he : e ∈ es)
    (hs : s.Retries es) : s.Leads day (s.retryOne p e) ∧ (s.retryOne p e).Retries es := by
  unfold State.retryOne
  split
  · split
    · rename_i hfit
      refine ⟨s.takeHeld_leads e.bag e.counts hfit (hs e he), fun h hh => ?_⟩
      rw [State.applyCredit_held]
      by_cases heb : h.bag = e.bag
      · refine .inr fun x hx => ?_
        rw [State.applyCredit_bag, if_pos heb] at hx
        obtain ⟨y, -, rfl⟩ := Option.map_eq_some_iff.1 hx
        rfl
      · refine (hs h hh).imp (fun hm => ?_) fun hm x hx => ?_
        · obtain ⟨k, hk, hkb⟩ := List.mem_map.1 hm
          exact List.mem_map.2 ⟨k, List.mem_filter.2 ⟨hk, by simpa [hkb] using heb⟩, hkb⟩
        · rw [State.applyCredit_bag, if_neg heb] at hx
          exact hm x hx
    · rename_i f fs hfit
      have hbags : (s.st.held.map fun h => if h.bag = e.bag then { h with blocking := f :: fs } else h).map HeldCredit.bag =
          s.st.held.map HeldCredit.bag := by
        rw [List.map_map]
        refine List.map_congr_left fun h _ => ?_
        simp only [Function.comp_apply]
        split <;> rfl
      refine ⟨.of_view ?_, fun h hh => ?_⟩
      · rw [State.setHeld_view, hbags]
        rfl
      · rw [hbags]
        exact hs h hh
  · exact ⟨.refl s, hs⟩

theorem State.retryPass_leads {day : Bool} (s : State) (p : Nat × Source) : s.Leads day (s.retryPass p) :=
  .foldl_of (P := fun u => u.Retries s.st.held) (fun u _ he hu => u.retryOne_leads p he hu) s
    fun _ he => .inl (List.mem_map_of_mem he)

theorem State.retryPasses_leads {day : Bool} (s : State) (ps : List (Nat × Source)) : s.Leads day (s.retryPasses ps) :=
  .foldl (fun u p => u.retryPass_leads p) ps s

/-! ### The count queue -/

/-- A bag that enters the PRIORITY class is one of a DRAINING till (R99). -/
theorem State.entryClass_eq_priority {s : State} {o : Option Nat} (h : s.entryClass o = .priority) :
    ∃ n, o = some n ∧ (s.till n).state = .draining := by
  unfold State.entryClass at h
  split at h
  · simp at h
  · rename_i n
    split at h
    · exact ⟨n, rfl, ‹_›⟩
    · simp at h

/-- The two classes after a bag entered one at its tail. -/
def View.tailed (v : View) (b : Nat) : QueueClass → List Nat × List Nat
  | .priority => (v.priority ++ [b], v.ordinary)
  | .ordinary => (v.priority, v.ordinary ++ [b])

/-- The two classes after a bag entered one at its head. -/
def View.headed (v : View) (b : Nat) : QueueClass → List Nat × List Nat
  | .priority => (b :: v.priority, v.ordinary)
  | .ordinary => (v.priority, b :: v.ordinary)

theorem State.enqueues_tail (s : State) {b : Nat} {x : Bag} (hx : s.bag b = some x) :
    s.view.Enqueues [b] (s.view.tailed b (s.entryClass x.till)).1 (s.view.tailed b (s.entryClass x.till)).2 := by
  cases hc : s.entryClass x.till with
  | priority =>
    obtain ⟨n, hn, hd⟩ := State.entryClass_eq_priority hc
    refine ⟨?_, fun c hm => ?_⟩
    · show (s.view.priority ++ [b] ++ s.view.ordinary).Perm (b :: (s.view.priority ++ s.view.ordinary))
      rw [List.append_assoc]
      exact List.perm_middle
    · rcases List.mem_append.1 hm with hm | hm
      · exact .inl hm
      · obtain rfl := List.mem_singleton.1 hm
        exact .inr ⟨by simp, x.core, n, State.view_bag hx, hn, hd⟩
  | ordinary =>
    refine ⟨?_, fun c hm => .inl hm⟩
    show (s.view.priority ++ (s.view.ordinary ++ [b])).Perm (b :: (s.view.priority ++ s.view.ordinary))
    rw [← List.append_assoc]
    exact List.perm_append_singleton _ _

theorem State.enqueues_head (s : State) {b : Nat} {x : Bag} (hx : s.bag b = some x) :
    s.view.Enqueues [b] (s.view.headed b (s.entryClass x.till)).1 (s.view.headed b (s.entryClass x.till)).2 := by
  cases hc : s.entryClass x.till with
  | priority =>
    obtain ⟨n, hn, hd⟩ := State.entryClass_eq_priority hc
    refine ⟨.refl _, fun c hm => ?_⟩
    rcases List.mem_cons.1 hm with rfl | hm
    · exact .inr ⟨by simp, x.core, n, State.view_bag hx, hn, hd⟩
    · exact .inl hm
  | ordinary => exact ⟨List.perm_middle, fun c hm => .inl hm⟩

theorem State.setPriority_view (s : State) (p : List Nat) :
    ({ s with br := { s.br with priority := p } } : State).view = { s.view with priority := p } := rfl

theorem State.setOrdinary_view (s : State) (o : List Nat) :
    ({ s with br := { s.br with ordinary := o } } : State).view = { s.view with ordinary := o } := rfl

/-- A change of a bag record leaves the classes of the queue. -/
theorem State.changeBag_queue (s : State) (b : Nat) (f : Bag → Bag) :
    (s.changeBag b f).br.priority = s.br.priority ∧ (s.changeBag b f).br.ordinary = s.br.ordinary := by
  unfold State.changeBag
  split <;> exact ⟨rfl, rfl⟩

theorem State.enqueueTail_view (s : State) (b : Nat) (c : QueueClass) :
    (s.enqueueTail b c).view = { s.view.changeBag b (fun x => { x with state := .queued }) with
      priority := (s.view.tailed b c).1, ordinary := (s.view.tailed b c).2 } := by
  have h := s.changeBag_view b (fun x => { x with state := .queued, changed := s.oc.clock, queueClass := some c, bypass := some 0 })
    (fun x => { x with state := .queued }) fun _ => rfl
  obtain ⟨hp, ho⟩ := s.changeBag_queue b
    (fun x => { x with state := .queued, changed := s.oc.clock, queueClass := some c, bypass := some 0 })
  cases c
  · refine (State.setPriority_view _ _).trans ?_
    rw [h, hp]
    rfl
  · refine (State.setOrdinary_view _ _).trans ?_
    rw [h, ho]
    rfl

theorem State.enqueueHead_view (s : State) (b : Nat) (c : QueueClass) :
    (s.enqueueHead b c).view = { s.view.changeBag b (fun x => { x with state := .queued }) with
      priority := (s.view.headed b c).1, ordinary := (s.view.headed b c).2 } := by
  have h := s.changeBag_view b (fun x => { x with state := .queued, changed := s.oc.clock, queueClass := some c, bypass := some 0 })
    (fun x => { x with state := .queued }) fun _ => rfl
  obtain ⟨hp, ho⟩ := s.changeBag_queue b
    (fun x => { x with state := .queued, changed := s.oc.clock, queueClass := some c, bypass := some 0 })
  cases c
  · refine (State.setPriority_view _ _).trans ?_
    rw [h, hp]
    rfl
  · refine (State.setOrdinary_view _ _).trans ?_
    rw [h, ho]
    rfl

/-- A bag of the view changed, where the record is known. -/
theorem View.changeBag_of_some {v : View} {b : Nat} {x : Bag} (h : v.bag b = some x) (g : Bag → Bag) :
    v.changeBag b g = { v with bag := Function.update v.bag b (some (g x)) } := by
  rw [View.changeBag, h]
  rfl

theorem State.enqueueTail_leads {day : Bool} (s : State) {b : Nat} {x : Bag} (hx : s.bag b = some x)
    (hs : x.state = .declared ∨ x.state = .countHeld) : s.Leads day (s.enqueueTail b (s.entryClass x.till)) := by
  refine .of_change (.queued b x.core _ _ (State.view_bag hx) hs (s.enqueues_tail hx)) ?_
  rw [State.enqueueTail_view, View.changeBag_of_some (State.view_bag hx)]

theorem State.enqueueHead_leads {day : Bool} (s : State) {b : Nat} {x : Bag} (hx : s.bag b = some x)
    (hs : x.state = .declared ∨ x.state = .countHeld) : s.Leads day (s.enqueueHead b (s.entryClass x.till)) := by
  refine .of_change (.queued b x.core _ _ (State.view_bag hx) hs (s.enqueues_head hx)) ?_
  rw [State.enqueueHead_view, View.changeBag_of_some (State.view_bag hx)]

/-! ### New bags, drops -/

theorem State.mem_bagList {s : State} {p : Nat × Bag} : p ∈ s.bagList ↔ s.bag p.1 = some p.2 := by
  simp only [State.bagList, List.mem_filterMap, List.mem_range, Option.map_eq_some_iff]
  constructor
  · rintro ⟨b, -, x, hx, rfl⟩
    exact hx
  · intro h
    exact ⟨p.1, s.bag_some_lt _ _ h, p.2, h, rfl⟩

/-- A seal that is not live stands in no record but an orphan's (R89). -/
theorem State.liveSeal_eq_none {s : State} {n : Nat} :
    s.liveSeal n = none ↔ ∀ b x, s.bag b = some x → x.state ≠ .orphan → x.sealNo ≠ some n := by
  simp only [State.liveSeal, List.find?_eq_none, State.mem_bagList, Prod.forall, decide_eq_true_eq, not_and, not_not]
  refine forall_congr' fun b => forall_congr' fun x => forall_congr' fun _ => ?_
  tauto

theorem State.liveSeal_eq_some {s : State} {n b : Nat} {x : Bag} (h : s.liveSeal n = some (b, x)) :
    s.bag b = some x ∧ x.sealNo = some n ∧ x.state ≠ .orphan := by
  have hp := List.find?_some h
  exact ⟨State.mem_bagList.1 (List.mem_of_find?_eq_some h), by simpa using hp⟩

/-- A new record whose seal is not live. -/
theorem State.fresh {s : State} {x : Bag} (hl : x.lines = [])
    (hst : x.state = .declared ∨ x.state = .orphan ∨ x.state = .lost ∨ x.state = .expected)
    (ho : x.state = .orphan → x.kind = .unknown) (hq : ∀ n, x.sealNo = some n → x.state ≠ .orphan → s.liveSeal n = none) :
    x.core.Fresh s.view where
  lines := hl
  state := hst
  fresh h1 h2 c y hy h3 he := by
    obtain ⟨z, hz, rfl⟩ := State.view_bag_eq_some hy
    obtain ⟨n, hn⟩ := Option.ne_none_iff_exists'.1 h2
    exact State.liveSeal_eq_none.1 (hq n hn h1) c z hz h3 (he.symm.trans hn)
  orphan := ho

theorem State.setBag_created {day : Bool} (s : State) {b : Nat} {x : Bag} (hb : s.bag b = none) (h256 : b < 256)
    (hx : x.core.Fresh s.view) (ht : x.till = none) : s.Leads day (s.setBag b (some x)) :=
  .of_change (.created b x.core (State.view_bag_none hb) hx ht) (s.setBag_view b _ h256)

theorem State.decideShutter_view (s : State) : s.decideShutter.view = s.view := by
  unfold State.decideShutter
  split <;> split
  · rfl
  · exact State.place_view _ _ _
  · rfl
  · exact State.place_view _ _ _

theorem State.mem_freeOrphans {s : State} {b : Nat} : b ∈ s.freeOrphans ↔ s.bag b = none ∧ 240 ≤ b ∧ b < 256 := by
  simp only [State.freeOrphans, List.mem_filter, List.mem_map, List.mem_range, Option.isNone_iff_eq_none]
  constructor
  · rintro ⟨⟨a, ha, rfl⟩, hb⟩
    exact ⟨hb, by omega, by omega⟩
  · rintro ⟨hb, h1, h2⟩
    exact ⟨⟨b - 240, by omega, by omega⟩, hb⟩

theorem State.orphanDrop_leads {day : Bool} (s : State) (q : Option Nat) (r : OrphanReason) : s.Leads day (s.orphanDrop q r) := by
  unfold State.orphanDrop
  split
  · exact .of_view (State.place_view _ _ _)
  · rename_i b rest hfree
    obtain ⟨hb, -, h256⟩ := State.mem_freeOrphans.1 (hfree ▸ List.mem_cons_self : b ∈ s.freeOrphans)
    have h := s.setBag_created (day := day) (x := { newBag .unknown .orphan s.oc.clock with sealNo := q }) hb h256
      (State.fresh rfl (.inr (.inl rfl)) (fun _ => rfl) fun _ _ h => absurd rfl h) rfl
    dsimp only
    split
    · exact (h.place _ _).congr (State.decideShutter_view _)
    · exact h.place _ _

theorem State.resolveDrop_leads {day : Bool} (s : State) (q : Option Nat) : s.Leads day (s.resolveDrop q) := by
  unfold State.resolveDrop
  split
  · exact s.orphanDrop_leads _ _
  · rename_i n
    split
    · exact s.orphanDrop_leads _ _
    · rename_i b x hlive
      dsimp only
      split
      · exact (s.enqueueTail_leads (State.liveSeal_eq_some hlive).1 (.inl ‹_›)).place _ _
      · exact s.orphanDrop_leads _ _

theorem State.setDrops_view (s : State) (ds : List PendingDrop) : ({ s with br := { s.br with drops := ds } } : State).view = s.view := rfl

theorem State.resolveOldest_leads {day : Bool} (s : State) (q : Option Nat) : s.Leads day (s.resolveOldest q) := by
  unfold State.resolveOldest
  split
  · exact .refl s
  · exact (State.Leads.of_view (s.setDrops_view _)).trans (State.resolveDrop_leads _ q)

theorem State.passage_leads {day : Bool} (s : State) : s.Leads day s.passage := by
  unfold State.passage
  dsimp only
  split
  · exact .of_view (State.setDrops_view _ _)
  · exact (s.resolveOldest_leads none).congr (State.setDrops_view _ _)

end Sys2Proof.Machine
end

section
/-! PROOFS. The operations of the lock and of the handover as acts on the view. -/

namespace Sys2Proof.Machine

/-! ### The lock -/

@[simp] theorem State.setHandover_view (s : State) (h : Option Handover) :
    (s.setHandover h).view = { s.view with received := (h.map Handover.received).getD [] } := rfl

theorem State.lockNotice_view (s : State) (c : LockCause) : (s.lockNotice c).view = s.view := State.place_view _ _ _

theorem State.enterLock_view (s : State) (st : LockState) (o : Option Opening) (t : Option Nat) (c : LockCause) :
    (s.enterLock st o t c).view = s.view := State.lockNotice_view _ _

/-- The handover forgets what it received. -/
theorem State.forget_leads {day : Bool} (s : State) {h : Option Handover} (hr : (h.map Handover.received).getD [] = []) :
    s.Leads day (s.setHandover h) :=
  .of_change .forgotten (by rw [State.setHandover_view, hr])

theorem State.tellWindow_leads {day : Bool} (s : State) : s.Leads day s.tellWindow := by
  unfold State.tellWindow
  split
  · split
    · exact (s.forget_leads rfl).congr (State.send_view _ _)
    · exact .refl s
  · exact .refl s

theorem State.enterWindow_leads {day : Bool} (s : State) (o : Opening) (c : LockCause) : s.Leads day (s.enterWindow o c) := by
  unfold State.enterWindow
  dsimp only
  refine State.Leads.congr ?_ (State.lockNotice_view _ _)
  split
  · exact (State.Leads.of_view (State.changeSlc_view _ _)).trans (State.tellWindow_leads _)
  · exact .of_view (State.changeSlc_view _ _)

theorem State.enterDelay_leads {day : Bool} (s : State) (o : Opening) (c : LockCause) : s.Leads day (s.enterDelay o c) := by
  unfold State.enterDelay
  split
  · exact s.enterWindow_leads o c
  · exact .of_view (State.enterLock_view _ _ _ _ _)

theorem State.takeCollection_leads {day : Bool} (s : State) : s.Leads day s.takeCollection := s.enterDelay_leads _ _

theorem State.boltConfirmed_leads {day : Bool} (s : State) : s.Leads day s.boltConfirmed := by
  unfold State.boltConfirmed
  dsimp only
  have h : s.Leads day (s.changeSlc fun l => { l with pendingCollection := false }) := .of_view (State.changeSlc_view _ _)
  split
  · exact h.trans (State.enterDelay_leads _ _ _)
  · split
    · exact (h.congr (State.enterLock_view _ _ _ _ _)).trans (State.takeCollection_leads _)
    · exact h.congr (State.enterLock_view _ _ _ _ _)

theorem State.enterSecuring_leads {day : Bool} (s : State) (c : LockCause) : s.Leads day (s.enterSecuring c) := by
  unfold State.enterSecuring
  dsimp only
  split
  · exact (State.Leads.of_view (State.enterLock_view _ _ _ _ _)).trans (State.boltConfirmed_leads _)
  · exact .of_view (State.enterLock_view _ _ _ _ _)

theorem State.collectionRequest_leads {day : Bool} (s : State) : s.Leads day s.collectionRequest.1 := by
  unfold State.collectionRequest
  split
  · exact .refl s
  · exact .refl s
  · split
    · exact .refl s
    · dsimp only
      split
      · exact s.takeCollection_leads
      · exact .of_view (State.changeSlc_view _ _)
      · exact .of_view (State.changeSlc_view _ _)
      · exact .of_view (State.changeSlc_view _ _)
      · exact .of_view (State.changeSlc_view _ _)
      · exact .refl s

theorem State.cancelCollection_view (s : State) : s.cancelCollection.view = s.view := by
  unfold State.cancelCollection
  dsimp only
  split
  · rfl
  · split
    · split
      · exact State.enterLock_view _ _ _ _ _
      · rfl
    · rfl

/-! ### Consignments and the handover -/

/-- A consignment record keeps its lists. -/
theorem State.changeConsignment_view_same (s : State) (c : Nat) (f : Consignment → Consignment)
    (ho : (f (s.consignment c)).outbound = (s.consignment c).outbound) (hi : (f (s.consignment c)).inbound = (s.consignment c).inbound) :
    (s.changeConsignment c f).view = s.view := by
  by_cases hc : 1 ≤ c ∧ c ≤ 8
  · rw [State.changeConsignment, s.setConsignment_view c _ hc.1 hc.2, ho, hi]
    have h1 : Function.update s.view.outbound c (s.consignment c).outbound = s.view.outbound := Function.update_eq_self c s.view.outbound
    have h2 : Function.update s.view.inbound c (s.consignment c).inbound = s.view.inbound := Function.update_eq_self c s.view.inbound
    rw [h1, h2]
  · rw [State.changeConsignment, s.setConsignment_outside c _ hc]

theorem State.missedNotice_view (s : State) (c : Nat) : (s.missedNotice c).view = s.view := State.place_view _ _ _

theorem State.missConsignment_view (s : State) (c : Nat) : (s.missConsignment c).view = s.view := by
  unfold State.missConsignment
  split
  · rw [State.missedNotice_view]
    exact s.changeConsignment_view_same c _ rfl rfl
  · rfl

theorem State.moveBag_setHandover (s : State) (b : Nat) (st : BagState) (h : Option Handover) :
    (s.moveBag b st).setHandover h = (s.setHandover h).moveBag b st := by
  have hb : (s.setHandover h).bag b = s.bag b := rfl
  unfold State.moveBag State.changeBag
  rw [hb]
  cases s.bag b <;> rfl

theorem State.foldl_moveBag_setHandover (bs : List Nat) (st : BagState) (h : Option Handover) (s : State) :
    (bs.foldl (fun u b => u.moveBag b st) s).setHandover h = bs.foldl (fun u b => u.moveBag b st) (s.setHandover h) := by
  induction bs generalizing s with
  | nil => rfl
  | cons b bs ih => rw [List.foldl_cons, List.foldl_cons, ih, State.moveBag_setHandover]

theorem State.mem_bagsIn {s : State} {bs : List Nat} {st : BagState} {b : Nat} :
    b ∈ s.bagsIn bs st ↔ b ∈ bs ∧ (s.bag b).map Bag.state = some st := by simp [State.bagsIn]

/-- The bags of a list move from one state to another; a bag that the list names again stays. -/
theorem State.moveBags_leads {day : Bool} (s : State) (bs : List Nat) (st tt : BagState) (h1 : Moves st tt) (h2 : Moves tt tt)
    (hst : ∀ b ∈ bs, ∀ x, s.bag b = some x → x.state = st) (hr : s.view.received = []) :
    s.Leads day (bs.foldl (fun u b => u.moveBag b tt) s) := by
  refine .foldl_of (P := fun u => u.view.received = [] ∧ ∀ b ∈ bs, ∀ x, u.bag b = some x → x.state = st ∨ x.state = tt)
    (fun u b hb hu => ⟨u.moveBag_leads b tt fun x hx => ⟨?_, fun _ => by simp [hu.1]⟩, ?_, fun c hc x hx => ?_⟩) s
    ⟨hr, fun b hb x hx => .inl (hst b hb x hx)⟩
  · rcases hu.2 b hb x hx with h | h <;> rw [h] <;> assumption
  · rw [State.moveBag_view]
    exact hu.1
  · rw [State.bag_moveBag] at hx
    split at hx
    · obtain ⟨y, -, rfl⟩ := Option.map_eq_some_iff.1 hx
      exact .inr rfl
    · exact hu.2 c hc x hx

theorem State.foldl_moveBag_other (bs : List Nat) (st : BagState) (s : State) {b : Nat} (hb : b ∉ bs) :
    (bs.foldl (fun u c => u.moveBag c st) s).bag b = s.bag b := by
  induction bs generalizing s with
  | nil => rfl
  | cons c bs ih =>
    obtain ⟨hc, hb⟩ := not_or.1 (mt List.mem_cons.2 hb)
    rw [List.foldl_cons, ih _ hb, State.bag_moveBag, if_neg hc]

theorem State.foldl_moveBag_received (bs : List Nat) (st : BagState) (s : State) :
    (bs.foldl (fun u c => u.moveBag c st) s).view.received = s.view.received :=
  foldl_keeps (fun u : State => u.view.received) _ (fun u b => by rw [State.moveBag_view]; rfl) bs s

theorem State.abandonHandover_leads {day : Bool} (s : State) (r : AbandonReason) : s.Leads day (s.abandonHandover r) := by
  unfold State.abandonHandover
  split
  · exact .refl s
  · rename_i h hh
    dsimp only
    have hin : ∀ {bs : List Nat} {st : BagState}, ∀ b ∈ s.bagsIn bs st, ∀ x, s.bag b = some x → x.state = st :=
      fun {bs st} b hb x hx => by
        have := (State.mem_bagsIn.1 hb).2
        rw [hx] at this
        simpa using this
    generalize hos : s.bagsIn (s.consignment h.consignment).outbound .scanned = outs
    generalize his : s.bagsIn (s.consignment h.consignment).inbound .received = ins
    have hforget : s.Leads day (s.setHandover none) := s.forget_leads rfl
    have houts : (s.setHandover none).Leads day (outs.foldl (fun u b => u.moveBag b .sealed) (s.setHandover none)) :=
      State.moveBags_leads _ _ .scanned .sealed (.sealed (.inl rfl)) (.sealed (.inr rfl))
        (fun b hb => hin b (hos ▸ hb)) rfl
    have hins : (outs.foldl (fun u b => u.moveBag b .sealed) (s.setHandover none)).Leads day
        (ins.foldl (fun u b => u.moveBag b .expected) (outs.foldl (fun u b => u.moveBag b .sealed) (s.setHandover none))) := by
      refine State.moveBags_leads _ _ .received .expected (.expected (.inl rfl)) (.expected (.inr rfl)) (fun b hb x hx => ?_) ?_
      · have hbi := State.mem_bagsIn.1 (his ▸ hb)
        rw [State.foldl_moveBag_other] at hx
        · exact hin b (his ▸ hb) x hx
        · intro hbo
          have hbs := State.mem_bagsIn.1 (hos ▸ hbo)
          simp [hbi.2] at hbs
      · rw [State.foldl_moveBag_received]
        rfl
    have hmoved := (hforget.trans houts).trans hins
    rw [← State.foldl_moveBag_setHandover, ← State.foldl_moveBag_setHandover] at hmoved
    have hend : ∀ u : State, ∀ f : Consignment → Consignment, (∀ x, (f x).outbound = x.outbound ∧ (f x).inbound = x.inbound) →
        ((u.cancelCollection.changeConsignment h.consignment f).setHandover none).view = (u.setHandover none).view := by
      intro u f hf
      rw [State.setHandover_view, State.changeConsignment_view_same _ _ _ (hf _).1 (hf _).2, State.cancelCollection_view]
      rfl
    have hplaced := fun st : ConsignmentState => hmoved.congr (hend _ (fun x => { x with state := st }) fun _ => ⟨rfl, rfl⟩)
    split <;> split
    · exact (hplaced _).place _ _
    · exact ((hplaced _).place _ _).congr (State.missedNotice_view _ _)
    · exact ((hplaced _).place _ _).congr (State.send_view _ _)
    · exact (((hplaced _).place _ _).congr (State.missedNotice_view _ _)).congr (State.send_view _ _)

theorem State.tellOpeningLost_leads {day : Bool} (s : State) : s.Leads day s.tellOpeningLost := by
  unfold State.tellOpeningLost
  split
  · split
    · exact s.abandonHandover_leads _
    · exact .refl s
  · exact .refl s

theorem State.raiseBoltFault_leads {day : Bool} (s : State) : s.Leads day s.raiseBoltFault := by
  unfold State.raiseBoltFault
  dsimp only
  refine State.Leads.place ?_ _ _
  split
  · exact (State.Leads.of_view (s.changeSlc_view _)).trans (State.tellOpeningLost_leads _)
  · exact .of_view (s.changeSlc_view _)

theorem State.raiseForcedDoor_leads {day : Bool} (s : State) : s.Leads day s.raiseForcedDoor := by
  unfold State.raiseForcedDoor
  dsimp only
  refine State.Leads.place ?_ _ _
  split
  · exact (State.Leads.of_view (s.changeSlc_view _)).trans (State.tellOpeningLost_leads _)
  · exact .of_view (s.changeSlc_view _)

theorem State.doorEvent_leads {day : Bool} (s : State) (x : DoorSense) : s.Leads day (s.doorEvent x) := by
  have h : s.Leads day (s.changeSlc fun l => { l with door := x }) := .of_view (s.changeSlc_view _)
  unfold State.doorEvent
  dsimp only
  split
  · exact h.congr (State.enterLock_view _ _ _ _ _)
  · exact h
  · split
    · exact h
    · exact h.trans (State.raiseForcedDoor_leads _)
  · exact h.trans (State.raiseForcedDoor_leads _)
  · exact h.trans (State.raiseForcedDoor_leads _)
  · exact h.trans (State.raiseForcedDoor_leads _)
  · exact h.trans (State.enterSecuring_leads _ _)
  · exact h

theorem State.boltEvent_leads {day : Bool} (s : State) (x : BoltSense) : s.Leads day (s.boltEvent x) := by
  have h : s.Leads day (s.changeSlc fun l => { l with bolt := x }) := .of_view (s.changeSlc_view _)
  unfold State.boltEvent
  dsimp only
  split
  · exact h.trans (State.boltConfirmed_leads _)
  · exact h
  · exact h.trans (State.raiseBoltFault_leads _)
  · exact h.trans (State.raiseBoltFault_leads _)
  · split
    · exact h
    · exact h.trans (State.raiseBoltFault_leads _)
  · exact h

theorem State.slotEvent_leads {day : Bool} (s : State) (x : SlotSense) : s.Leads day (s.slotEvent x) := by
  have h : s.Leads day (s.changeSlc fun l => { l with slot := x }) := .of_view (s.changeSlc_view _)
  unfold State.slotEvent
  dsimp only
  split
  · exact h.trans (State.passage_leads _)
  · exact h

theorem State.readSenses_view (s : State) : s.readSenses.view = s.view := rfl

theorem State.recomputeLock_view (s : State) : s.recomputeLock.view = s.view := rfl

theorem State.resolveLock_view (s : State) : s.resolveLock.view = s.view := by
  unfold State.resolveLock
  dsimp only
  split
  · exact State.place_view _ _ _
  · rfl

end Sys2Proof.Machine
end

section
/-! PROOFS. The operations of the stations and of the count jobs as acts on the view. -/

namespace Sys2Proof.Machine

/-! ### Station records -/

theorem State.station_outside (s : State) (n : Nat) (h : ¬ (1 ≤ n ∧ n ≤ 4)) : s.station n = Station.atColdStart := nth_outside _ _ _ h

theorem State.view_duty (s : State) (n : Nat) : s.view.duty n = (s.station n).duty := rfl

/-- A station with a job is one of the four. -/
theorem State.station_inside {s : State} {n : Nat} (h : (s.station n).job ≠ none) : 1 ≤ n ∧ n ≤ 4 := by
  by_contra hn
  exact h (by rw [s.station_outside n hn]; rfl)

/-- A sound station that has a bag is enabled. -/
theorem Duty.Sound.enabled {d : Duty} (h : d.Sound) (hb : d.bag ≠ none) : d.enabled = true := by
  by_contra he
  obtain ⟨r, hr⟩ := h.2 (by simpa using he)
  have hw := h.1 hb
  simp [StationState.Works, hr] at hw

/-- A station's record changes, its bag stays, and it is as sound as it was. -/
theorem State.changeStation_leads {day : Bool} (s : State) (n : Nat) (f : Station → Station)
    (hb : (f (s.station n)).duty.bag = (s.station n).duty.bag) (hs : (s.station n).duty.Sound → (f (s.station n)).duty.Sound) :
    s.Leads day (s.changeStation n f) := by
  by_cases hn : 1 ≤ n ∧ n ≤ 4
  · exact .of_change (.station n _ (.inl hb) hs) (s.setStation_view n _ hn.1 hn.2)
  · rw [State.changeStation, s.setStation_outside n _ hn]

/-- A station's record changes, not its duty. -/
theorem State.changeStation_leads_same {day : Bool} (s : State) (n : Nat) (f : Station → Station)
    (h : (f (s.station n)).duty = (s.station n).duty) : s.Leads day (s.changeStation n f) :=
  s.changeStation_leads n f (by rw [h]) (by rw [h]; exact id)

/-- A station that has a job works on it in another state. -/
theorem Duty.Sound.works {d : Duty} (h : d.Sound) (hb : d.bag ≠ none) {b : Option Nat} {st : StationState} (hst : st.Works) :
    ({ bag := b, state := st, enabled := d.enabled } : Duty).Sound :=
  ⟨fun _ => hst, fun he => by simp [h.enabled hb] at he⟩

/-- A station with a job goes to another of the states in which it works. -/
theorem State.changeStation_leads_works {day : Bool} (s : State) (n : Nat) (f : Station → Station)
    (hj : (s.station n).job ≠ none) (hb : (f (s.station n)).job.map StationJob.bag = (s.station n).job.map StationJob.bag)
    (hst : (f (s.station n)).state.Works) (he : (f (s.station n)).enabled = (s.station n).enabled) :
    s.Leads day (s.changeStation n f) := by
  refine s.changeStation_leads n f hb fun h => ?_
  have := h.works (d := (s.station n).duty) (by simpa [Station.duty] using hj) (b := (f (s.station n)).duty.bag) hst
  simpa [Station.duty, he] using this

theorem StationState.works_counting : StationState.counting.Works := .inr (.inl rfl)

theorem StationState.works_assigned : StationState.assigned.Works := .inl rfl

theorem State.stationNotice_view (s : State) (n : Nat) (a : Option AbortReason) : (s.stationNotice n a).view = s.view :=
  State.place_view _ _ _

/-- Several stations change, each once. -/
theorem State.foldl_changeStation_view (ns : List Nat) (hn : ns.Nodup) (h4 : ∀ n ∈ ns, 1 ≤ n ∧ n ≤ 4) (f : Nat → Station → Station)
    (s : State) : (ns.foldl (fun u n => u.changeStation n (f n)) s).view =
      { s.view with duty := fun n => if n ∈ ns then (f n (s.station n)).duty else s.view.duty n } := by
  induction ns generalizing s with
  | nil => simp
  | cons m ns ih =>
    obtain ⟨hm, hn⟩ := List.nodup_cons.1 hn
    obtain ⟨h1, h2⟩ := h4 m (by simp)
    have hview : (s.changeStation m (f m)).view = { s.view with duty := Function.update s.view.duty m (f m (s.station m)).duty } :=
      s.setStation_view m _ h1 h2
    have hduty : (fun n => if n ∈ ns then (f n ((s.changeStation m (f m)).station n)).duty
        else (s.changeStation m (f m)).view.duty n) =
        fun n => if n ∈ m :: ns then (f n (s.station n)).duty else s.view.duty n := by
      funext n
      rw [hview]
      by_cases hnm : n = m
      · subst hnm
        simp [hm]
      · have hst : (s.changeStation m (f m)).station n = s.station n := State.station_setStation_other _ _ _ _ hnm
        simp [hnm, hst]
    rw [List.foldl_cons, ih hn (fun n hns => h4 n (by simp [hns])), hduty, hview]

theorem State.foldl_view {β : Type} (f : State → β → State) (h : ∀ u b, (f u b).view = u.view) (bs : List β) (s : State) :
    (bs.foldl f s).view = s.view := foldl_keeps State.view f h bs s

theorem State.mem_jobStations {s : State} {b n : Nat} : n ∈ s.jobStations b ↔ (s.view.duty n).bag = some b := by
  simp only [State.jobStations, List.mem_filter, mem_upTo, decide_eq_true_eq]
  constructor
  · exact fun h => h.2
  · intro h
    refine ⟨State.station_inside (s := s) fun hn => ?_, h⟩
    simp [State.view, Station.duty, hn] at h

theorem State.jobStations_congr {s t : State} (h : t.csc = s.csc) (b : Nat) : t.jobStations b = s.jobStations b := by
  exact List.filter_congr fun n _ => by rw [State.station_congr h]

theorem State.jobStations_table {s : State} {b : Nat} : (s.jobStations b).Nodup ∧ ∀ n ∈ s.jobStations b, 1 ≤ n ∧ n ≤ 4 :=
  ⟨(nodup_upTo 4).filter _, fun n hn => (mem_upTo 4 n).1 (List.mem_of_mem_filter hn)⟩

/-! ### The end of a job -/

@[simp] theorem State.setJobs_view (s : State) (js : List CountJob) :
    ({ s with csc := { s.csc with jobs := js } } : State).view = { s.view with jobs := js.map CountJob.bag } := rfl

theorem map_job_filter (js : List CountJob) (b : Nat) :
    (js.filter fun j => decide (j.bag ≠ b)).map CountJob.bag = (js.map CountJob.bag).filter fun q => decide (q ≠ b) := by
  rw [List.filter_map]
  rfl

/-- The job of a bag goes, and its stations take the states given, with no job. -/
def State.freeJob (s : State) (b : Nat) (st : Nat → StationState → StationState) : State :=
  (s.jobStations b).foldl (fun u m => u.changeStation m fun x => x.clearJob (st m x.state))
    { s with csc := { s.csc with jobs := s.csc.jobs.filter fun q => decide (q.bag ≠ b) } }

/-- The duties once a job has ended. -/
def View.freed (v : View) (b : Nat) (st : Nat → StationState → StationState) (n : Nat) : Duty :=
  if (v.duty n).bag = some b then { bag := none, state := st n (v.duty n).state, enabled := (v.duty n).enabled } else v.duty n

theorem State.freeJob_view (s : State) (b : Nat) (st : Nat → StationState → StationState) :
    (s.freeJob b st).view =
      { s.view with jobs := s.view.jobs.filter fun q => decide (q ≠ b), duty := s.view.freed b st } := by
  obtain ⟨hn, h4⟩ := State.jobStations_table (s := s) (b := b)
  unfold State.freeJob
  rw [State.foldl_changeStation_view (s.jobStations b) hn h4 (fun m x => x.clearJob (st m x.state)), State.setJobs_view,
    map_job_filter]
  have hduty : (fun n => if n ∈ s.jobStations b then ((s.station n).clearJob (st n (s.station n).state)).duty else s.view.duty n) =
      s.view.freed b st := by
    funext n
    simp only [State.mem_jobStations, View.freed]
    rfl
  exact congrArg (fun d => ({ s.view with jobs := s.view.jobs.filter fun q => decide (q ≠ b), duty := d } : View)) hduty

/-- A job ends where its stations are enabled, or go OFFLINE. -/
theorem View.endsJob_freed {v : View} {b : Nat} {st : Nat → StationState → StationState}
    (h : b ∈ v.jobs ∨ ∃ n, (v.duty n).bag = some b) : v.EndsJob b (v.freed b st) where
  stood := h
  freed n hn := by
    simp only [View.freed, hn, if_true, true_and]
    exact fun hs => ⟨by simp, fun he => by simp [hs.enabled (by simp [hn])] at he⟩
  left n hn := if_neg hn

/-- What an abort makes of its bag: QUEUED again at the head of its class, or COUNT_HELD (R101, R127). -/
theorem State.requeueAborted_cases (s : State) (b : Nat) (r : AbortReason) :
    s.bag b = none ∧ s.requeueAborted b r = s ∨
      ∃ x, s.bag b = some x ∧
        ((s.requeueAborted b r).view = { s.view with
            bag := Function.update s.view.bag b (some { x.core with state := .queued })
            priority := (s.view.headed b (s.entryClass x.till)).1, ordinary := (s.view.headed b (s.entryClass x.till)).2 } ∨
          (s.requeueAborted b r).view = { s.view with
            bag := Function.update s.view.bag b (some { x.core with state := .countHeld }) }) := by
  unfold State.requeueAborted
  split
  · rename_i hb
    exact .inl ⟨hb, rfl⟩
  · rename_i x hb
    refine .inr ⟨x, hb, ?_⟩
    have h256 := s.bag_some_lt b x hb
    have hset : ∀ k, (s.setBag b (some { x with attempts := some k })).view = s.view := by
      intro k
      rw [s.setBag_view b _ h256]
      have : Function.update s.view.bag b (some x.core) = s.view.bag := by
        rw [← State.view_bag hb, Function.update_eq_self]
      exact congrArg (fun f => ({ s.view with bag := f } : View)) this
    dsimp only
    split
    · left
      rw [State.enqueueHead_view, hset, View.changeBag_of_some (State.view_bag hb)]
    · right
      rw [State.place_view, State.moveBag_view, hset, View.changeBag_of_some (State.view_bag hb)]

theorem State.requeueAborted_frame' (s : State) (b : Nat) (r : AbortReason) :
    (s.requeueAborted b r).csc = s.csc ∧ (s.requeueAborted b r).tps = s.tps := by
  simp

/-- The states that the stations of an aborted job take (Table 6.4, R127). -/
def AbortReason.stations (r : AbortReason) (n : Nat) (m : Nat) (x : StationState) : StationState :=
  if m = n then r.faultState else x.afterAbort

theorem State.abortJob_eq {s : State} {n : Nat} {j : StationJob} (hj : (s.station n).job = some j) (r : AbortReason) :
    (s.abortJob n r).view = (((((s.jobStations j.bag).foldl (fun u m => u.sendStation m .abort) s).freeJob j.bag
      (r.stations n)).requeueAborted j.bag r)).view := by
  have hst : ((s.jobStations j.bag).foldl (fun u m => u.sendStation m .abort) s).jobStations j.bag = s.jobStations j.bag := by
    have : ((s.jobStations j.bag).foldl (fun u m => u.sendStation m .abort) s).csc = s.csc :=
      foldl_keeps State.csc (fun u m => State.sendStation u m .abort) (fun _ _ => rfl) _ _
    exact State.jobStations_congr this _
  unfold State.abortJob
  rw [hj]
  dsimp only
  rw [State.foldl_view _ (fun u m => u.stationNotice_view m _)]
  unfold State.freeJob
  rw [hst]
  rfl

/-- An abort as one change: the stations freed, the bag QUEUED again or COUNT_HELD. The view `v` may show other duties than the
state that aborts. -/
theorem State.abortJob_chain {day : Bool} {v : View} {s : State} {n : Nat} {j : StationJob} (hj : (s.station n).job = some j)
    (r : AbortReason) (hv : s.view = { v with duty := s.view.duty })
    (he : v.EndsJob j.bag (s.view.freed j.bag (r.stations n))) : Chain day v (s.abortJob n r).view := by
  rw [State.abortJob_eq hj]
  generalize hsent : (s.jobStations j.bag).foldl (fun u m => u.sendStation m .abort) s = s1
  have h1 : s1.view = s.view := hsent ▸ State.foldl_view _ (fun u m => u.sendStation_view m _) _ _
  generalize hfree : s1.freeJob j.bag (r.stations n) = s2
  have h2 : s2.view = { v with
      jobs := v.jobs.filter fun q => decide (q ≠ j.bag), duty := s.view.freed j.bag (r.stations n) } := by
    rw [← hfree, State.freeJob_view, h1, hv]
  have hbag : s2.view.bag = v.bag := by rw [h2]
  rcases s2.requeueAborted_cases j.bag r with ⟨hb, hreq⟩ | ⟨x, hb, hreq | hreq⟩
  · have hnone : v.bag j.bag = none := by
      rw [← hbag]
      exact State.view_bag_none hb
    refine .single (.change ?_)
    have hp := Change.parked (v := v) j.bag .countHeld _ he (.inl rfl)
    rw [hnone, Option.map_none, ← hnone, Function.update_eq_self] at hp
    rw [hreq, h2]
    exact hp
  · have hvb : v.bag j.bag = some x.core := by
      rw [← hbag]
      exact State.view_bag hb
    have hq := s2.enqueues_head hb
    rw [hreq, h2]
    rw [h2] at hq
    exact .single (.change (.requeued j.bag x.core _ _ _ he hvb ⟨hq.perm, hq.drained⟩))
  · have hvb : v.bag j.bag = some x.core := by
      rw [← hbag]
      exact State.view_bag hb
    have hp := Change.parked (v := v) j.bag .countHeld _ he (.inl rfl)
    rw [hvb] at hp
    rw [hreq, h2]
    exact .single (.change hp)

theorem State.abortJob_leads {day : Bool} (s : State) (n : Nat) (r : AbortReason) : s.Leads day (s.abortJob n r) := by
  cases hj : (s.station n).job with
  | none =>
    have : s.abortJob n r = s := by simp [State.abortJob, hj]
    rw [this]
  | some j =>
    refine State.abortJob_chain hj r rfl (View.endsJob_freed (.inr ⟨n, ?_⟩))
    simp [State.view, Station.duty, hj]

/-! ### Holds -/

theorem State.pause_leads {day : Bool} (s : State) (n : Nat) : s.Leads day (s.pause n) := by
  unfold State.pause
  split
  · exact (s.changeStation_leads_same n _ rfl).congr (State.sendStation_view _ _ _)
  · exact .refl s

theorem StationState.works_held {r : HoldReason} (h : r = .jam ∨ r = .suspect ∨ r = .doubt ∨ r = .pool) : (StationState.held r).Works :=
  .inr (.inr ⟨r, by simpa using h, rfl⟩)

theorem State.hold_leads {day : Bool} (s : State) (n : Nat) {r : HoldReason} (hr : r = .jam ∨ r = .suspect ∨ r = .doubt ∨ r = .pool)
    (hj : (s.station n).job ≠ none) : s.Leads day (s.hold n r) := by
  unfold State.hold
  refine State.Leads.congr ?_ (State.stationNotice_view _ _ _)
  exact (s.changeStation_leads_works n _ hj rfl (StationState.works_held hr) rfl).trans (State.pause_leads _ _)

theorem State.holdPartner_leads {day : Bool} (s : State) (n : Nat) : s.Leads day (s.holdPartner n) := by
  unfold State.holdPartner
  split
  · exact .refl s
  · rename_i p hp
    dsimp only
    split
    · exact .refl s
    · rename_i k hk
      split
      · rename_i h
        obtain ⟨h1, h4⟩ := State.station_inside (s := s) (n := p) (by simp [hk])
        have hset := s.changeStation_leads_same (day := day) p
          (fun x => { x with job := some { k with resumeAssigned := decide ((s.station p).state = .assigned) } })
          (by simp [Station.duty, hk])
        refine hset.trans (State.hold_leads _ _ (by simp) ?_)
        rw [State.changeStation, State.station_setStation_same _ _ _ h1 h4]
        simp
      · exact .refl s

theorem State.halt_leads {day : Bool} (s : State) (n : Nat) {r : HoldReason} (hr : r = .jam ∨ r = .suspect ∨ r = .doubt)
    (hj : (s.station n).job ≠ none) : s.Leads day (s.halt n r) :=
  (s.hold_leads n (by tauto) hj).trans (State.holdPartner_leads _ _)

/-! ### Completion -/

theorem State.countNotices_view (s : State) (b : Nat) (x : Bag) (j : CountJob) (r : CountResult) : (s.countNotices b x j r).view = s.view := by
  unfold State.countNotices
  dsimp only
  split <;> split <;> simp

/-- The records of CSC and of CHU replaced. -/
def State.setOuter (s : State) (c : Csc) (u : Chu) : State := { s with csc := c, chu := u }

theorem State.queueNotice_setOuter (s : State) (c : Csc) (u : Chu) (n : Notice) : (s.setOuter c u).queueNotice n = (s.queueNotice n).setOuter c u := by
  have hm : (s.setOuter c u).masked n.kind = s.masked n.kind := rfl
  have hl : (s.setOuter c u).hli = s.hli := rfl
  unfold State.queueNotice
  rw [hm, hl]
  by_cases h1 : s.masked n.kind = true
  · rw [if_pos h1, if_pos h1]
  · by_cases h2 : s.hli.notices.length < 32
    · rw [if_neg h1, if_pos h2, if_neg h1, if_pos h2]
      rfl
    · rw [if_neg h1, if_neg h2, if_neg h1, if_neg h2]
      rfl

theorem State.deferNotice_setOuter (s : State) (c : Csc) (u : Chu) (n : Notice) : (s.setOuter c u).deferNotice n = (s.deferNotice n).setOuter c u := by
  have ho : (s.setOuter c u).oc = s.oc := rfl
  unfold State.deferNotice
  rw [ho]
  by_cases h : s.oc.deferred.length < 32
  · rw [if_pos h, if_pos h]
    rfl
  · rw [if_neg h, if_neg h]
    rfl

theorem State.place_setOuter (s : State) (c : Csc) (u : Chu) (k : NoticeKind) (ds : List Datum) :
    (s.setOuter c u).place k ds = (s.place k ds).setOuter c u := by
  have hp : (s.setOuter c u).phase = s.phase := rfl
  unfold State.place
  rw [hp]
  split
  · exact s.queueNotice_setOuter c u _
  · exact s.deferNotice_setOuter c u _

theorem State.reconcile_setOuter (s : State) (n : Nat) (c : Csc) (u : Chu) : (s.setOuter c u).reconcile n = (s.reconcile n).setOuter c u := by
  have ht : (s.setOuter c u).till n = s.till n := rfl
  have hb : (s.setOuter c u).bagsOutstanding (s.till n) = s.bagsOutstanding (s.till n) := rfl
  unfold State.reconcile
  dsimp only
  rw [ht, hb]
  split
  · rw [← State.place_setOuter]
    rfl
  · rfl

/-- A bag's till is told of the count whatever the stations do. -/
theorem State.tellCounted_setOuter (s : State) (b : Nat) (c : Csc) (u : Chu) : (s.setOuter c u).tellCounted b = (s.tellCounted b).setOuter c u := by
  have hb : (s.setOuter c u).bag b = s.bag b := rfl
  unfold State.tellCounted
  rw [hb]
  cases s.bag b with
  | none => rfl
  | some x =>
    dsimp only
    cases x.till with
    | none => rfl
    | some n => exact State.reconcile_setOuter (s.changeTill n fun t => { t with collected := t.collected + (x.result.map CountResult.value).getD 0 }) n c u

/-- The stations of a job are freed by a change of CSC alone. -/
theorem State.freeJob_eq_setOuter {s t : State} (b : Nat) (st : Nat → StationState → StationState) (h : t.csc = s.csc) :
    t.freeJob b st = t.setOuter (s.freeJob b st).csc t.chu := by
  have hfold : ∀ (ns : List Nat) (u v : State), u.csc = v.csc →
      ns.foldl (fun u m => u.changeStation m fun x => x.clearJob (st m x.state)) u =
        u.setOuter (ns.foldl (fun u m => u.changeStation m fun x => x.clearJob (st m x.state)) v).csc u.chu := by
    intro ns
    induction ns with
    | nil =>
      intro u v huv
      simp [State.setOuter, ← huv]
    | cons m ns ih =>
      intro u v huv
      have hc : (u.changeStation m fun x => x.clearJob (st m x.state)).csc = (v.changeStation m fun x => x.clearJob (st m x.state)).csc := by
        simp only [State.changeStation, State.setStation, State.station, huv]
      rw [List.foldl_cons, List.foldl_cons, ih _ _ hc]
      rfl
  unfold State.freeJob
  rw [State.jobStations_congr h, h]
  exact hfold _ _ _ rfl

/-- A job ends COUNTED, its credit taken, or CREDIT_HELD (R5, R131). -/
theorem State.credit_freeJob_leads {day : Bool} (s : State) (b : Nat) (t : Vector Counts 12) (hj : b ∈ s.view.jobs) :
    s.Leads day ((s.credit b t).freeJob b fun _ _ => .idle) := by
  have hsus : s.Leads day (s.addSuspects t) := .single (.change (s.addSuspects_change t))
  have hcsc : (s.addSuspects t).csc = s.csc := by simp
  have hjobs : b ∈ (s.addSuspects t).view.jobs := by
    rw [State.addSuspects_view]
    exact hj
  unfold State.credit
  dsimp only
  generalize s.addSuspects t = u at *
  split
  · rename_i hfit
    rw [State.applyCredit_eq]
    have hc : (((u.stockIn t).moveBag b .counted).tellCounted b).csc = ((u.stockIn t).moveBag b .counted).csc := by simp
    have hu : (((u.stockIn t).moveBag b .counted).tellCounted b).chu = ((u.stockIn t).moveBag b .counted).chu := by simp
    rw [State.freeJob_eq_setOuter b _ hc, hu, ← State.tellCounted_setOuter, ← State.freeJob_eq_setOuter b _ rfl]
    refine (hsus.trans (.single (.change (u.stockIn_change t hfit)))).trans (State.Leads.trans ?_ (State.tellCounted_leads _ b))
    have hj' : b ∈ (u.stockIn t).view.jobs := by
      rw [State.stockIn_view]
      exact hjobs
    refine .of_change (.parked b .counted _ (View.endsJob_freed (st := fun _ _ => .idle) (.inl hj')) (.inr rfl)) ?_
    rw [State.freeJob_view, State.moveBag_view]
    rfl
  · rename_i d a rest hfit
    refine hsus.trans ?_
    refine .of_change (.withheld b _ (View.endsJob_freed (st := fun _ _ => .idle) (.inl hjobs))) ?_
    rw [State.freeJob_view, State.place_view, State.moveBag_view, State.setHeld_view, List.map_append]
    rfl

theorem State.completeJob_leads {day : Bool} (s : State) (b : Nat) : s.Leads day (s.completeJob b) := by
  unfold State.completeJob
  split
  · rename_i j x hj hx
    dsimp only
    have h256 := s.bag_some_lt b x hx
    generalize s.countResult j (x.declared.getD 0) = r
    have hview : ((s.setBag b (some { x with result := some r })).countNotices b x j r).view = s.view := by
      rw [State.countNotices_view, s.setBag_view b _ h256]
      have : Function.update s.view.bag b (some x.core) = s.view.bag := by
        rw [← State.view_bag hx, Function.update_eq_self]
      exact congrArg (fun f => ({ s.view with bag := f } : View)) this
    have hcsc : (((s.setBag b (some { x with result := some r })).countNotices b x j r).credit b r.tally).csc = s.csc := by simp
    have hjobs : b ∈ s.view.jobs := by
      have hb : j.bag = b := by simpa using List.find?_some hj
      exact hb ▸ List.mem_map_of_mem (List.mem_of_find?_eq_some hj)
    have := State.credit_freeJob_leads (day := day) ((s.setBag b (some { x with result := some r })).countNotices b x j r) b r.tally
      (by rw [hview]; exact hjobs)
    unfold State.freeJob at this
    rw [State.jobStations_congr hcsc] at this
    exact (State.Leads.of_view hview).trans this
  · exact .refl s

end Sys2Proof.Machine
end

section

/-! PROOFS. The arbiter, the records of the stations and their arrival as acts on the view. -/

namespace Sys2Proof.Machine

/-! ### The arbiter -/

theorem State.setQueue_view (s : State) (p o : List Nat) :
    ({ s with br := { s.br with priority := p, ordinary := o } } : State).view = { s.view with priority := p, ordinary := o } := rfl

theorem State.dequeue_view (s : State) (b : Nat) :
    (s.dequeue b).view = { s.view.changeBag b (fun x => { x with state := .counting }) with
      priority := s.view.priority.filter fun q => decide (q ≠ b), ordinary := s.view.ordinary.filter fun q => decide (q ≠ b) } := by
  have h := s.changeBag_view b
    (fun x => { x with state := .counting, changed := s.oc.clock, queueClass := none, bypass := none })
    (fun x => { x with state := .counting }) fun _ => rfl
  obtain ⟨hp, ho⟩ := s.changeBag_queue b
    (fun x => { x with state := .counting, changed := s.oc.clock, queueClass := none, bypass := none })
  refine (State.setQueue_view (s.changeBag b _) _ _).trans ?_
  rw [h, hp, ho]
  rfl

theorem State.mem_idleStations {s : State} {n : Nat} : n ∈ s.idleStations ↔ (1 ≤ n ∧ n ≤ 4) ∧ (s.view.duty n).state = .idle := by
  simp only [State.idleStations, List.mem_filter, mem_upTo, decide_eq_true_eq]
  rfl

/-- A bag of the queue is assigned to one or two IDLE stations (R114). -/
theorem State.assign_leads {day : Bool} (s : State) (b : Nat) (as : List (Nat × Portion × Option Nat)) (hb : b ∈ s.queue)
    (hn : (as.map Prod.fst).Nodup) (h1 : 1 ≤ as.length) (h2 : as.length ≤ 2) (hi : ∀ a ∈ as, a.1 ∈ s.idleStations) :
    s.Leads day (s.assign b as) := by
  have hi' : ∀ n ∈ as.map Prod.fst, 1 ≤ n ∧ n ≤ 4 ∧ (s.view.duty n).state = .idle := by
    intro n hn
    obtain ⟨a, ha, rfl⟩ := List.mem_map.1 hn
    obtain ⟨h, hs⟩ := State.mem_idleStations.1 (hi a ha)
    exact ⟨h.1, h.2, hs⟩
  refine .of_change (.assigned b (as.map Prod.fst) hb hn (by simpa using h1) (by simpa using h2) hi') ?_
  have hfold : ∀ (as : List (Nat × Portion × Option Nat)) (u : State), (∀ n ∈ as.map Prod.fst, 1 ≤ n ∧ n ≤ 4) →
      (as.foldl (State.assignStation b) u).view = { u.view with
        duty := fun n => if n ∈ as.map Prod.fst then { bag := some b, state := .assigned, enabled := (u.view.duty n).enabled }
          else u.view.duty n } := by
    intro as
    induction as with
    | nil =>
      intro u _
      simp
    | cons a as ih =>
      intro u h4
      obtain ⟨h1, h4'⟩ := h4 a.1 (by simp)
      rw [List.foldl_cons, ih _ fun n hn => h4 n (by simp at hn ⊢; tauto)]
      have hview : (State.assignStation b u a).view = { u.view with
          duty := Function.update u.view.duty a.1 { bag := some b, state := .assigned, enabled := (u.view.duty a.1).enabled } } := by
        unfold State.assignStation
        rw [State.sendStation_view]
        exact u.setStation_view a.1 _ h1 h4'
      have hduty : (fun n => if n ∈ as.map Prod.fst then
            ({ bag := some b, state := .assigned, enabled := ((State.assignStation b u a).view.duty n).enabled } : Duty)
          else (State.assignStation b u a).view.duty n) =
          fun n => if n ∈ (a :: as).map Prod.fst then { bag := some b, state := .assigned, enabled := (u.view.duty n).enabled }
            else u.view.duty n := by
        funext n
        rw [hview]
        by_cases hna : n = a.1
        · subst hna
          simp
        · simp only [List.map_cons, List.mem_cons, hna, false_or, Function.update_of_ne hna]
      rw [hduty, hview]
  unfold State.assign
  dsimp only
  rw [hfold as _ fun n hn => ⟨(hi' n hn).1, (hi' n hn).2.1⟩, State.setJobs_view, List.map_append, State.dequeue_view]
  have hcsc : (s.dequeue b).csc = s.csc := by simp
  rw [hcsc]
  rfl

theorem State.nodup_idleStations (s : State) : s.idleStations.Nodup := (nodup_upTo 4).filter _

theorem State.arbiterStep_leads {day : Bool} {s t : State} (h : s.arbiterStep = some t) : s.Leads day t := by
  have hidle := s.nodup_idleStations
  unfold State.arbiterStep at h
  split at h
  · simp at h
  · simp at h
  · rename_i b behind i idle hq hid
    have hb : b ∈ s.queue := by simp [hq]
    have hmem : ∀ n ∈ i :: idle, n ∈ s.idleStations := fun n hn => hid ▸ hn
    rw [hid] at hidle
    split at h
    · split at h
      · rename_i k rest
        obtain rfl := Option.some.inj h
        refine s.assign_leads b _ hb ?_ (by simp) (by simp) ?_
        · have := (List.nodup_cons.1 hidle).1
          simp_all
        · simpa using ⟨hmem i (by simp), hmem k (by simp)⟩
      · dsimp only at h
        split at h
        · split at h
          · rename_i c hc
            obtain rfl := Option.some.inj h
            refine State.Leads.congr (s.assign_leads c _ ?_ (by simp) (by simp) (by simp) ?_) (State.changeBag_view_same _ _ _ fun _ => rfl)
            · rw [hq]
              exact List.mem_cons_of_mem _ (List.mem_of_find?_eq_some hc)
            · simpa using hmem i (by simp)
          · simp at h
        · simp at h
    · obtain rfl := Option.some.inj h
      refine s.assign_leads b _ hb (by simp) (by simp) (by simp) ?_
      simpa using hmem i (by simp)

theorem State.arbiterSteps_leads {day : Bool} (k : Nat) (s : State) : s.Leads day (State.arbiterSteps k s) := by
  induction k generalizing s with
  | zero => exact .refl s
  | succ k ih =>
    unfold State.arbiterSteps
    split
    · exact .refl s
    · exact (State.arbiterStep_leads ‹_›).trans (ih _)

theorem State.arbiterPass_leads {day : Bool} (s : State) : s.Leads day s.arbiterPass := by
  unfold State.arbiterPass
  split
  · exact State.arbiterSteps_leads 4 s
  · exact .refl s

theorem State.sendGos_leads {day : Bool} (s : State) : s.Leads day s.sendGos := by
  refine .foldl (fun u n => ?_) _ _
  split
  · exact (u.changeStation_leads_same n _ rfl).congr (State.sendStation_view _ _ _)
  · exact .refl u

/-! ### Records applied -/

theorem State.changePart_view (s : State) (b n : Nat) (f : JobPart → JobPart) : (s.changePart b n f).view = s.view := by
  have : (s.csc.jobs.map fun j => if j.bag = b then { j with parts := j.parts.map fun p => if p.station = n then f p else p } else j).map
      CountJob.bag = s.csc.jobs.map CountJob.bag := by
    rw [List.map_map]
    refine List.map_congr_left fun j _ => ?_
    simp only [Function.comp_apply]
    split <;> rfl
  rw [State.changePart, State.setJobs_view, this]
  rfl

theorem State.completePortion_leads {day : Bool} (s : State) (n : Nat) (k : StationJob) (hk : (s.station n).job = some k) :
    s.Leads day (s.completePortion n k) := by
  have h : s.Leads day (s.changeStation n fun x => { x with silence := none, job := some { k with complete := true } }) :=
    s.changeStation_leads_same n _ (by simp [Station.duty, hk])
  unfold State.completePortion
  dsimp only
  split
  · exact h.trans (State.completeJob_leads _ _)
  · split
    · exact h.trans (State.completeJob_leads _ _)
    · exact h

theorem State.tallyOr_leads {day : Bool} (s : State) (b n d : Nat) (f : Counts → Counts) (doubt : Option Nat) (t : Vector Counts 12) :
    s.Leads day (s.tallyOr b n d f doubt t) := by
  unfold State.tallyOr
  dsimp only
  split
  · exact .of_view (s.changePart_view _ _ _)
  · exact s.abortJob_leads _ _

theorem State.haltIf_leads {day : Bool} (s : State) (n b : Nat) (w : Bool) {r : HoldReason} (hr : r = .jam ∨ r = .suspect ∨ r = .doubt) :
    s.Leads day (s.haltIf n b w r) := by
  unfold State.haltIf
  split
  · rename_i h
    refine s.halt_leads n hr fun hj => ?_
    simp [State.onJob, hj] at h
  · exact .refl s

theorem State.applyCounting_leads {day : Bool} (s : State) (n : Nat) (k : StationJob) (j : CountJob) (r : StationRecord)
    (hk : (s.station n).job = some k) : s.Leads day (s.applyCounting n k j r) := by
  unfold State.applyCounting
  dsimp only
  split
  · exact s.abortJob_leads _ _
  · exact s.abortJob_leads _ _
  · split
    · exact s.tallyOr_leads _ _ _ _ _ _
    · exact s.abortJob_leads _ _
  · split
    · exact (s.tallyOr_leads _ _ _ _ _ _).trans (State.haltIf_leads _ _ _ _ (by simp))
    · exact s.abortJob_leads _ _
  · split
    · exact (State.Leads.of_view (s.changePart_view _ _ _)).trans (State.haltIf_leads _ _ _ _ (by simp))
    · exact s.abortJob_leads _ _
  · split
    · exact s.abortJob_leads _ _
    · split
      · exact s.tallyOr_leads _ _ _ _ _ _
      · exact (s.tallyOr_leads _ _ _ _ _ _).trans (State.haltIf_leads _ _ _ _ (by simp))
  · exact s.halt_leads n (by simp) (by simp [hk])
  · split
    · exact s.abortJob_leads _ _
    · split
      · exact s.completePortion_leads n k hk
      · exact s.abortJob_leads _ _

theorem State.applyRecord_leads {day : Bool} (s : State) (n : Nat) (r : StationRecord) : s.Leads day (s.applyRecord n r) := by
  unfold State.applyRecord
  split
  · rename_i k j hk hj
    split
    · split
      · split
        · exact s.changeStation_leads_works n _ (by simp [hk]) rfl StationState.works_counting rfl
        · exact s.abortJob_leads _ _
      · exact s.abortJob_leads _ _
    · split
      · exact s.abortJob_leads _ _
      · exact s.applyCounting_leads n k j r hk
    · exact .refl s
  · exact .refl s

theorem State.drain_leads {day : Bool} (k n : Nat) (s : State) : s.Leads day (State.drain k n s) := by
  induction k generalizing s with
  | zero => exact .refl s
  | succ k ih =>
    unfold State.drain
    split
    · exact .refl s
    · split
      · exact ((s.changeStation_leads_same n _ rfl).trans (State.applyRecord_leads _ _ _)).trans (ih _)
      · exact .refl s

theorem State.enterIntake_leads {day : Bool} (s : State) (n : Nat) (r : StationRecord) : s.Leads day (s.enterIntake n r) := by
  unfold State.enterIntake
  dsimp only
  split
  · exact (s.changeStation_leads_same n _ rfl).trans (State.drain_leads _ _ _)
  · exact s.abortJob_leads _ _

theorem State.stationOnline_leads {day : Bool} (s : State) (n : Nat) (hj : (s.station n).job = none) : s.Leads day (s.stationOnline n) := by
  unfold State.stationOnline
  split
  · rename_i he
    refine State.Leads.congr (s.changeStation_leads n _ rfl fun _ => ⟨?_, ?_⟩) (State.stationNotice_view _ _ _)
    · simp [Station.duty, hj]
    · simp [Station.duty, he]
  · exact .refl s

theorem State.stationArrival_leads {day : Bool} (s : State) (n : Nat) (r : StationRecord) : s.Leads day (s.stationArrival n r) := by
  unfold State.stationArrival
  dsimp only
  split
  · rename_i hj
    split
    · split
      · exact s.stationOnline_leads n hj
      · exact .refl s
    · exact .refl s
  · split
    · split
      · exact .refl s
      · exact s.enterIntake_leads _ _
    · exact s.enterIntake_leads _ _

theorem State.endHold_leads {day : Bool} (s : State) (n : Nat) : s.Leads day (s.endHold n) := by
  unfold State.endHold
  dsimp only
  split
  · rename_i r k hs hk
    refine State.Leads.congr ?_ (State.stationNotice_view _ _ _)
    refine s.changeStation_leads_works n (fun _ => _) (by simp [hk]) (by simp [hk]) ?_ rfl
    dsimp only
    split
    · exact StationState.works_assigned
    · exact StationState.works_counting
  · exact .refl s

theorem State.endHolds_leads {day : Bool} (s : State) (b : Nat) : s.Leads day (s.endHolds b) :=
  (State.Leads.foldl (fun u n => u.endHold_leads n) _ _).trans (.foldl (fun u n => State.drain_leads _ n u) _ _)

end Sys2Proof.Machine
end

section
/-! PROOFS. The end of an operation, the close of the day, and the resolution of a stop and of a restart as acts on the view. -/

namespace Sys2Proof.Machine

/-! ### The jobs of a stop -/

/-- What the resolution has made of the COUNTING bags `cs`: those of `bs` QUEUED, the others COUNT_HELD. -/
def View.resolved (v : View) (cs bs p o : List Nat) : View :=
  { v with
    bag := fun b => if b ∈ cs then (v.bag b).map fun x => { x with state := if b ∈ bs then .queued else .countHeld } else v.bag b
    priority := p, ordinary := o }

/-- One COUNTING bag more is resolved, before the others. -/
theorem View.resolved_cons (v : View) {b : Nat} {y : Bag} {cs bs bs' p o p' o' : List Nat} {st : BagState} (hy : v.bag b = some y)
    (hb : b ∉ cs) (hbs : ∀ c, c ≠ b → (c ∈ bs' ↔ c ∈ bs)) (hst : st = if b ∈ bs' then .queued else .countHeld) :
    ({ v with bag := Function.update v.bag b (some { y with state := st }), priority := p', ordinary := o' } : View).resolved cs bs p o =
      v.resolved (b :: cs) bs' p o := by
  have hbag : (fun c => if c ∈ cs then (Function.update v.bag b (some { y with state := st }) c).map fun x =>
        { x with state := if c ∈ bs then .queued else .countHeld } else Function.update v.bag b (some { y with state := st }) c) =
      fun c => if c ∈ b :: cs then (v.bag c).map fun x => { x with state := if c ∈ bs' then .queued else .countHeld } else v.bag c := by
    funext c
    by_cases hc : c = b
    · subst hc
      simp [hb, hy, hst]
    · simp [hc, hbs c hc]
  exact congrArg (fun f => ({ v with bag := f, priority := p, ordinary := o } : View)) hbag

theorem State.foldl_requeueAborted (r : AbortReason) (cs : List Nat) (hn : cs.Nodup) (s : State)
    (hc : ∀ b ∈ cs, ∃ x, s.bag b = some x) :
    ∃ bs p o, bs ⊆ cs ∧ bs.Nodup ∧ s.view.Enqueues bs p o ∧
      (cs.foldl (fun u b => u.requeueAborted b r) s).view = s.view.resolved cs bs p o := by
  induction cs generalizing s with
  | nil =>
    refine ⟨[], s.view.priority, s.view.ordinary, by simp, by simp, ⟨.refl _, fun c hc => .inl hc⟩, ?_⟩
    simp [View.resolved]
  | cons b cs ih =>
    obtain ⟨hb, hn⟩ := List.nodup_cons.1 hn
    obtain ⟨x, hx⟩ := hc b (by simp)
    have hother : ∀ c ∈ cs, c ≠ b := fun c hc h => hb (h ▸ hc)
    have hrest : ∀ u : State, (∀ c, c ≠ b → u.view.bag c = s.view.bag c) → ∀ c ∈ cs, ∃ y, u.bag c = some y := by
      intro u hu c hcs
      obtain ⟨y, hy⟩ := hc c (by simp [hcs])
      have := hu c (hother c hcs)
      rw [State.view_bag hy] at this
      obtain ⟨z, hz, -⟩ := State.view_bag_eq_some this
      exact ⟨z, hz⟩
    rcases s.requeueAborted_cases b r with ⟨hnone, -⟩ | ⟨y, hy, hview | hview⟩
    · simp [hx] at hnone
    · obtain ⟨bs, p, o, hsub, hnd, hq, hv⟩ := ih hn (s.requeueAborted b r)
        (hrest _ fun c hcb => by rw [hview]; exact Function.update_of_ne hcb _ _)
      have hq1 := s.enqueues_head hy
      have hbag : ∀ c, c ≠ b → (s.requeueAborted b r).view.bag c = s.view.bag c := fun c hcb => by
        rw [hview]
        exact Function.update_of_ne hcb _ _
      have hqueue : (s.requeueAborted b r).view.queue.Perm ([b] ++ s.view.queue) := by
        rw [hview]
        exact hq1.perm
      have htill : (s.requeueAborted b r).view.till = s.view.till := by rw [hview]
      refine ⟨b :: bs, p, o, List.cons_subset_cons b hsub, List.nodup_cons.2 ⟨fun h => hb (hsub h), hnd⟩, ⟨?_, fun c hcp => ?_⟩, ?_⟩
      · calc (p ++ o).Perm (bs ++ (s.requeueAborted b r).view.queue) := hq.perm
          _ |>.Perm (bs ++ ([b] ++ s.view.queue)) := hqueue.append_left bs
          _ |>.Perm (b :: bs ++ s.view.queue) := List.perm_middle
      · rcases hq.drained c hcp with hp | ⟨hcb, z, n, hz, hn⟩
        · rw [hview] at hp
          rcases hq1.drained c hp with hp | ⟨hcb, hz⟩
          · exact .inl hp
          · exact .inr ⟨by simpa using .inl (by simpa using hcb), hz⟩
        · rw [hbag c (hother c (hsub hcb)), htill] at *
          exact .inr ⟨by simp [hcb], z, n, hz, hn⟩
      · rw [List.foldl_cons, hv, hview]
        exact s.view.resolved_cons (State.view_bag hy) hb (fun c hcb => by simp [hcb]) (by simp)
    · obtain ⟨bs, p, o, hsub, hnd, hq, hv⟩ := ih hn (s.requeueAborted b r)
        (hrest _ fun c hcb => by rw [hview]; exact Function.update_of_ne hcb _ _)
      have hbag : ∀ c, c ≠ b → (s.requeueAborted b r).view.bag c = s.view.bag c := fun c hcb => by
        rw [hview]
        exact Function.update_of_ne hcb _ _
      rw [hview] at hq
      refine ⟨bs, p, o, List.subset_cons_of_subset b hsub, hnd, ⟨hq.perm, fun c hcp => ?_⟩, ?_⟩
      · rcases hq.drained c hcp with hp | ⟨hcb, z, n, hz, hn⟩
        · exact .inl hp
        · refine .inr ⟨hcb, z, n, ?_, hn⟩
          rw [← hbag c (hother c (hsub hcb)), hview]
          exact hz
      · rw [List.foldl_cons, hv, hview]
        exact s.view.resolved_cons (State.view_bag hy) hb (fun c hcb => .rfl) (if_neg fun h => hb (hsub h)).symm

/-! ### The resolution -/

theorem mem_insertCounting (x p : Nat × Bag) (ps : List (Nat × Bag)) : p ∈ insertCounting x ps ↔ p = x ∨ p ∈ ps := by
  induction ps with
  | nil => simp [insertCounting]
  | cons y ys ih =>
    unfold insertCounting
    split
    · simp
    · simp only [List.mem_cons, ih]
      tauto

theorem insertCounting_perm (x : Nat × Bag) (ps : List (Nat × Bag)) : (insertCounting x ps).Perm (x :: ps) := by
  induction ps with
  | nil => exact .refl _
  | cons y ys ih =>
    unfold insertCounting
    split
    · exact .refl _
    · exact (ih.cons y).trans (List.Perm.swap x y ys)

theorem foldr_insertCounting_perm (ps : List (Nat × Bag)) : (ps.foldr insertCounting []).Perm ps := by
  induction ps with
  | nil => exact .refl _
  | cons p ps ih => exact (insertCounting_perm p _).trans (ih.cons p)

theorem State.nodup_bagList (s : State) : (s.bagList.map Prod.fst).Nodup := by
  rw [State.bagList, List.map_filterMap]
  refine List.Nodup.filterMap (fun a b c ha hb => ?_) List.nodup_range
  simp only [Option.map_map, Option.mem_def, Option.map_eq_some_iff, Function.comp_apply] at ha hb
  obtain ⟨-, -, rfl⟩ := ha
  obtain ⟨-, -, rfl⟩ := hb
  rfl

theorem State.nodup_countingBags (s : State) : s.countingBags.Nodup := by
  refine ((foldr_insertCounting_perm _).map Prod.fst).nodup_iff.2 ?_
  exact s.nodup_bagList.sublist (List.filter_sublist.map _)

theorem State.mem_countingBags {s : State} {b : Nat} : b ∈ s.countingBags ↔ (s.bag b).map Bag.state = some .counting := by
  unfold State.countingBags
  rw [((foldr_insertCounting_perm _).map Prod.fst).mem_iff]
  simp only [List.mem_map, List.mem_filter, State.mem_bagList, decide_eq_true_eq, Option.map_eq_some_iff]
  constructor
  · rintro ⟨p, ⟨hp, hs⟩, rfl⟩
    exact ⟨p.2, hp, hs⟩
  · rintro ⟨x, hx, hs⟩
    exact ⟨(b, x), ⟨hx, hs⟩, rfl⟩

theorem State.resolveJobs_leads {day : Bool} (s : State) : s.Leads day s.resolveJobs := by
  unfold State.resolveJobs
  dsimp only
  generalize hs1 : (upTo 4).foldl (fun u n => if (u.station n).job.isSome then u.sendStation n .abort else u) s = s1
  have h1 : s1.view = s.view := by
    rw [← hs1]
    refine State.foldl_view _ (fun u n => ?_) _ _
    split <;> rfl
  generalize hs2 : ({ s1 with csc := { s1.csc with jobs := [] } } : State) = s2
  have h2 : s2.view = { s.view with jobs := [] } := by rw [← hs2, State.setJobs_view, h1, List.map_nil]
  have hbag : s2.view.bag = s.view.bag := by rw [h2]
  obtain ⟨bs, p, o, hsub, hn, hq, hv⟩ := State.foldl_requeueAborted .restart s2.countingBags s2.nodup_countingBags s2 fun b hb => by
    obtain ⟨x, hx, -⟩ := Option.map_eq_some_iff.1 (State.mem_countingBags.1 hb)
    exact ⟨x, hx⟩
  have hcount : ∀ b, b ∈ s2.countingBags ↔ (s.view.bag b).map Bag.state = some .counting := by
    intro b
    rw [State.mem_countingBags, ← hbag]
    simp only [State.view]
    cases s2.bag b <;> rfl
  generalize hs3 : s2.countingBags.foldl (fun u b => u.requeueAborted b .restart) s2 = s3 at hv ⊢
  have hcsc : ∀ n, 1 ≤ n ∧ n ≤ 4 ∨ s3.station n = Station.atColdStart := fun n => by
    by_cases hn : 1 ≤ n ∧ n ≤ 4
    · exact .inl hn
    · exact .inr (s3.station_outside n hn)
  rw [h2] at hv hq
  refine .of_change (.stopped bs p o (s.view.resolved s2.countingBags bs p o).bag hn (fun b hb => (hcount b).1 (hsub hb))
    (fun b => ?_) ⟨hq.perm, hq.drained⟩) ?_
  · simp only [View.resolved, hcount]
    cases hb : s.view.bag b with
    | none => simp
    | some x => by_cases hx : x.state = .counting <;> simp [hx]
  · rw [State.foldl_changeStation_view (upTo 4) (nodup_upTo 4) (fun n hn => (mem_upTo 4 n).1 hn) (fun _ x => x.clearJob (.offline .start)), hv]
    have hduty : (fun n => if n ∈ upTo 4 then ((s3.station n).clearJob (.offline .start)).duty else s3.view.duty n) =
        fun n => ({ bag := none, state := .offline .start, enabled := (s.view.duty n).enabled } : Duty) := by
      have hd : s3.view.duty = s.view.duty := by rw [hv]; rfl
      funext n
      rw [← hd]
      by_cases hn : n ∈ upTo 4
      · rw [if_pos hn]
        rfl
      · rw [if_neg hn, State.view_duty, s3.station_outside n (fun h => hn ((mem_upTo 4 n).2 h))]
        rfl
    rw [hv] at hduty
    exact congrArg (fun d => ({ s.view with
      bag := (s.view.resolved s2.countingBags bs p o).bag, priority := p, ordinary := o, jobs := [], duty := d } : View)) hduty

/-- What a float's expiry leaves of the tills: each as it is, but that a COMPOSED one has no composition pending. -/
theorem State.floatExpired_till (s : State) (n m : Nat) :
    (s.floatExpired n).till m = s.till m ∧ ((s.till m).state = .composed → m ≠ n) ∨ ((s.floatExpired n).till m).pending = none := by
  have hplace : (s.floatExpired n).till m = ((s.freeReservation (.till n)).uncompose n).till m := by
    refine State.till_congr ?_ m
    simp [State.floatExpired]
  rw [hplace]
  by_cases hmn : m = n
  · subst hmn
    by_cases hm : 1 ≤ m ∧ m ≤ 96
    · have hset : ((s.freeReservation (.till m)).uncompose m).till m =
          if (s.till m).state = .composed then
            { s.till m with state := ((s.till m).pending.map Composition.prior).getD .closed, pending := none }
          else s.till m := by
        unfold State.uncompose State.changeTill
        rw [State.till_setTill_same _ _ _ hm.1 hm.2]
        rfl
      rw [hset]
      by_cases hs : (s.till m).state = .composed
      · exact .inr (by rw [if_pos hs])
      · exact .inl ⟨if_neg hs, fun h => absurd h hs⟩
    · exact .inr (by rw [State.till_outside _ _ hm]; rfl)
  · exact .inl ⟨State.till_setTill_other _ _ _ _ hmn, fun _ => hmn⟩

/-- Once every COMPOSED till was told of its float's expiry, none has a composition pending. -/
theorem State.foldl_floatExpired_pending (ns : List Nat) (s : State) (h : ∀ m, (s.till m).state = .composed → m ∈ ns ∨ (s.till m).pending = none)
    (m : Nat) (hm : ((ns.foldl State.floatExpired s).till m).state = .composed) :
    ((ns.foldl State.floatExpired s).till m).pending = none := by
  induction ns generalizing s with
  | nil => simpa using h m hm
  | cons n ns ih =>
    refine ih (s.floatExpired n) (fun k hk => ?_) hm
    rcases s.floatExpired_till n k with ⟨hs, hne⟩ | hp
    · rw [hs] at hk ⊢
      refine (h k hk).imp_left fun hkn => ?_
      exact (List.mem_cons.1 hkn).resolve_left (hne hk)
    · exact .inr hp

/-- TPS resolves: every float is withdrawn (R19, R66). -/
theorem State.resolveTills_leads {day : Bool} (s : State) : s.Leads day s.resolveTills := by
  unfold State.resolveTills
  dsimp only
  generalize hns : (upTo 96).filter (fun n => decide ((s.till n).state = .composed)) = ns
  refine (State.Leads.foldl (fun u n => u.floatExpired_leads n) ns s).trans ?_
  refine .of_change (.swept (fun r => match r.owner with | .till _ => false | .bag _ => true) (fun hf n hc => ?_)
    (fun r b hr => by simp [hr]) (fun r n hr => by simp [hr])) rfl
  have hp : ((ns.foldl State.floatExpired s).till n).pending = none :=
    State.foldl_floatExpired_pending ns s (fun m hm => .inl (by
      rw [← hns]
      simp [hm, mem_upTo, State.till_inside (show (s.till m).state ≠ .closed by simp [hm])])) n hc
  have := ((hf n).composed.1 hc)
  rw [show (ns.foldl State.floatExpired s).view.till n = (ns.foldl State.floatExpired s).till n from rfl, hp] at this
  simp at this

theorem State.resolveDrops_leads {day : Bool} (s : State) : s.Leads day s.resolveDrops :=
  State.Leads.foldl (fun u _ => u.resolveOldest_leads none) _ s

theorem State.resolution_leads {day : Bool} (s : State) : s.Leads day s.resolution :=
  (((s.resolveTills_leads.trans (State.resolveDrops_leads _)).trans (State.resolveJobs_leads _)).trans
    (.of_view (State.resolveLock_view _))).trans (State.abandonHandover_leads _ _)

/-! ### The end of an operation -/

theorem State.endPass_leads {day : Bool} (s0 s : State) : s.Leads day (s0.endPass s) := by
  unfold State.endPass
  split
  · exact s.arbiterPass_leads.trans (State.sendGos_leads _)
  · exact s.sendGos_leads

/-- A table read after each of its records was changed. -/
theorem nth_map {α : Type} {n : Nat} (d : α) (v : Vector α n) (f : α → α) (hd : f d = d) (k : Nat) :
    nth d (v.map f) k = f (nth d v k) := by
  unfold nth
  split
  · exact hd.symm
  · rw [Vector.getElem?_map]
    cases v[k - 1]? with
    | none => exact hd.symm
    | some x => rfl

/-- A consignment that the close frees. -/
def Consignment.over (x : Consignment) : Bool := decide (x.state = .done ∨ x.state = .cancelled)

theorem State.closeConsignment_lists (s : State) (x : Consignment) :
    (s.closeConsignment x).outbound = (if x.over then [] else x.outbound.filter fun b => !s.finishedSlot b) ∧
      (s.closeConsignment x).inbound = (if x.over then [] else x.inbound.filter fun b => !s.finishedSlot b) := by
  unfold State.closeConsignment Consignment.over
  split
  · rename_i h
    simp only [h, decide_true, if_true]
    exact ⟨rfl, rfl⟩
  · rename_i h
    simp [h]

theorem State.finishedSlot_view (s : State) (b : Nat) : (s.view.bag b).any Bag.finished = s.finishedSlot b := by
  show ((s.bag b).map Bag.core).any Bag.finished = (s.bag b).any Bag.finished
  cases s.bag b <;> rfl

/-- The lists of a consignment at the close. -/
theorem State.closeConsignment_read (s : State) (cs : Vector Consignment 8) (hcs : cs = s.chu.consignments) (c : Nat) :
    (nth Consignment.atColdStart (cs.map s.closeConsignment) c) = s.closeConsignment (s.consignment c) := by
  subst hcs
  refine nth_map _ _ _ ?_ c
  unfold State.closeConsignment
  split
  · rfl
  · rfl

/-- The close of the day, seen. -/
theorem State.closeDay_closes (s : State) (h : s.oc.state ≠ .closedDay) : DayCloses s.view s.closeDay.view := by
  have key := DayCloses.mk (v := s.view) s.summarize (fun c => (s.consignment c).over) rfl h
  suffices hv : s.closeDay.view = _ by rw [hv]; exact key
  unfold State.closeDay
  dsimp only
  rw [State.decideShutter_view]
  have hbag : (fun b => ((s.br.bags.map fun o => o.filter fun x => !x.finished)[b]?.getD none).map Bag.core) =
      fun b => (s.view.bag b).filter fun x => !x.finished := by
    funext b
    show _ = (((s.br.bags[b]?).getD none).map Bag.core).filter fun x => !x.finished
    rw [Vector.getElem?_map]
    rcases s.br.bags[b]? with _ | _ | x
    · rfl
    · rfl
    · show ((some x).filter fun x => !x.finished).map Bag.core = (some x.core).filter fun x => !x.finished
      rw [Option.filter_some, Option.filter_some]
      show _ = if (!x.finished) = true then _ else _
      split <;> rfl
  have htill : (fun n => nth Till.atColdStart (s.tps.tills.map fun t : Till => if t.state = .reconciled then { t with bags := [] } else t) n) =
      fun n => if (s.view.till n).state = .reconciled then { s.view.till n with bags := [] } else s.view.till n := by
    funext n
    exact nth_map _ _ (fun t : Till => if t.state = .reconciled then { t with bags := [] } else t) rfl n
  have hout : (fun c => (nth Consignment.atColdStart (s.chu.consignments.map s.closeConsignment) c).outbound) =
      fun c => if (s.consignment c).over then [] else (s.view.outbound c).filter fun b => !(s.view.bag b).any Bag.finished := by
    funext c
    rw [s.closeConsignment_read _ rfl, (s.closeConsignment_lists _).1]
    simp only [s.finishedSlot_view]
    rfl
  have hin : (fun c => (nth Consignment.atColdStart (s.chu.consignments.map s.closeConsignment) c).inbound) =
      fun c => if (s.consignment c).over then [] else (s.view.inbound c).filter fun b => !(s.view.bag b).any Bag.finished := by
    funext c
    rw [s.closeConsignment_read _ rfl, (s.closeConsignment_lists _).2]
    simp only [s.finishedSlot_view]
    rfl
  rw [← hbag, ← htill, ← hout, ← hin]
  rfl

theorem State.closingTest_leads (s : State) : s.Leads true s.closingTest := by
  unfold State.closingTest
  split
  · rename_i h
    exact State.Leads.place (.single (.day (s.closeDay_closes (by rw [h.1]; decide)))) _ _
  · exact .refl s

/-- The end of an operation (R25, R111, R117). -/
theorem State.settle_leads (s0 s : State) : s.Leads true (s0.settle s) := (State.endPass_leads s0 s).trans (State.closingTest_leads _)

/-! ### The clock, the stop and the starts -/

theorem State.tellMinute_leads {day : Bool} (s : State) : s.Leads day s.tellMinute := by
  unfold State.tellMinute
  split
  · exact s.minuteEvent_leads _
  · exact .refl s

theorem State.missReached_view (s : State) : s.missReached.view = s.view := by
  refine State.foldl_view _ (fun u c => ?_) _ _
  split
  · exact u.missConsignment_view c
  · rfl

theorem State.enterHeld_view (s : State) : s.enterHeld.view = { s.view with office := .held } := by
  unfold State.enterHeld
  split
  · rename_i h
    show s.view = { s.view with office := .held }
    rw [← h]
    rfl
  · rfl

/-- What a stop makes of the view, once the office is HELD. -/
theorem Path.of_leads {s t : State} (h : s.Leads false t) {w : View} (hw : w = { t.view with office := .held }) : Path s.view w := by
  rw [hw]
  exact .stop h

theorem State.controlledStop_path (s : State) : Path s.view s.controlledStop.view := by
  unfold State.controlledStop
  dsimp only
  generalize hs1 : ({ s with phase := .stopping, hli := s.hli.cleared, receivers := Receivers.rest } : State) = s1
  have h1 : s1.view = s.view := by rw [← hs1]; rfl
  have h2 : s.Leads false s1.decideShutter.resolution :=
    (State.Leads.of_view ((s1.decideShutter_view).trans h1)).trans (State.resolution_leads _)
  generalize s1.decideShutter.resolution = r at h2 ⊢
  exact .of_leads h2 ((State.view_congr rfl rfl rfl rfl rfl rfl).trans r.enterHeld_view)

theorem State.warmRestart_path (s : State) : Path s.view s.warmRestart.view := by
  unfold State.warmRestart
  dsimp only
  rw [State.startTx_view]
  generalize hs1 : ((State.changeSlc { s with clean := false, hli := { s.hli.cleared with lost := false }, receivers := Receivers.rest }
    fun l => { l with shutter := .closed }).readSenses) = s1
  have h1 : s1.view = s.view := by rw [← hs1, State.readSenses_view]; rfl
  have h2 : s.Leads false s1.resolution.missReached :=
    ((State.Leads.of_view h1).trans s1.resolution_leads).congr (State.missReached_view _)
  generalize s1.resolution.missReached = r at h2 ⊢
  exact .of_leads h2 ((State.view_congr rfl rfl rfl rfl rfl rfl).trans r.enterHeld_view)

/-- Every record that a law reads stands at its cold-start value (R40). -/
structure State.Cold (t : State) : Prop where
  st   : t.st = St.atColdStart
  tps  : t.tps = Tps.atColdStart
  view : t.view = State.reset.view

/-- A cold start leaves every record at its cold-start value, or, cut, leaves the view as it is, or cold (R39, R40). -/
theorem State.performColdStart_view (s : State) : s.performColdStart.view = s.view ∨ s.performColdStart.Cold := by
  have hcold : ∀ u : State, u.coldStart.Cold := fun u => ⟨rfl, rfl, State.view_congr rfl rfl rfl rfl rfl rfl⟩
  unfold State.performColdStart
  split
  · dsimp only
    split
    · exact .inl rfl
    · exact .inr (hcold _)
  · exact .inr (hcold s)

end Sys2Proof.Machine
end

section
/-! PROOFS. Content lines moved slot by slot, and the dialogue of the dock as acts on the view. -/

namespace Sys2Proof.Machine

/-! ### Content lines moved slot by slot -/

/-- Every line of a list moved in its slot, as the record of one slot meets it. -/
def StockSlot.moveLines {β : Type} (k : β → Nat) (f : β → StockSlot → StockSlot) (ls : List β) (d : Nat) (x : StockSlot) : StockSlot :=
  ls.foldl (fun y l => if k l = d then f l y else y) x

theorem StockSlot.moveLines_cons {β : Type} (k : β → Nat) (f : β → StockSlot → StockSlot) (l : β) (ls : List β) (d : Nat) (x : StockSlot) :
    StockSlot.moveLines k f (l :: ls) d x = StockSlot.moveLines k f ls d (if k l = d then f l x else x) := rfl

/-- A slot that no line names is not moved. -/
theorem StockSlot.moveLines_of_not_mem {β : Type} {k : β → Nat} (f : β → StockSlot → StockSlot) {ls : List β} {d : Nat} (h : d ∉ ls.map k)
    (x : StockSlot) : StockSlot.moveLines k f ls d x = x := by
  induction ls with
  | nil => rfl
  | cons l ls ih =>
    obtain ⟨hd, hn⟩ := not_or.1 (mt List.mem_cons.2 h)
    rw [StockSlot.moveLines_cons, if_neg (Ne.symm hd), ih hn]

/-- Where each slot is named once, the slot is moved by its own line. -/
theorem StockSlot.moveLines_of_mem {β : Type} {k : β → Nat} (f : β → StockSlot → StockSlot) {ls : List β} (hn : (ls.map k).Nodup) {l : β}
    (hl : l ∈ ls) (x : StockSlot) : StockSlot.moveLines k f ls (k l) x = f l x := by
  induction ls with
  | nil => simp at hl
  | cons m ms ih =>
    simp only [List.map_cons, List.nodup_cons] at hn
    rw [StockSlot.moveLines_cons]
    rcases List.mem_cons.1 hl with rfl | hm
    · rw [if_pos rfl, StockSlot.moveLines_of_not_mem f hn.1]
    · rw [if_neg fun h => hn.1 (List.mem_map.2 ⟨l, hm, h.symm⟩), ih hn.2 hm]

theorem State.slot_changeSlot (s : State) (c d : Nat) (f : StockSlot → StockSlot) (h1 : 1 ≤ d) (h2 : d ≤ 12) :
    (s.changeSlot c f).slot d = if c = d then f (s.slot d) else s.slot d := by
  unfold State.changeSlot
  split
  · rename_i h
    subst h
    exact State.slot_setSlot_same _ _ _ h1 h2
  · rename_i h
    exact State.slot_setSlot_other _ _ _ _ (Ne.symm h)

/-- The slots after each line of a list was moved. -/
theorem State.slot_moveLines {β : Type} (k : β → Nat) (f : β → StockSlot → StockSlot) (ls : List β) (s : State) (d : Nat) (h1 : 1 ≤ d)
    (h2 : d ≤ 12) : (ls.foldl (fun u l => u.changeSlot (k l) (f l)) s).slot d = StockSlot.moveLines k f ls d (s.slot d) := by
  induction ls generalizing s with
  | nil => rfl
  | cons l ls ih => rw [List.foldl_cons, ih, State.slot_changeSlot _ _ _ _ h1 h2, StockSlot.moveLines_cons]

/-- Lines moved change the slots alone. -/
theorem State.moveLines_eq {β : Type} (k : β → Nat) (f : β → StockSlot → StockSlot) (ls : List β) (s : State) :
    ls.foldl (fun u l => u.changeSlot (k l) (f l)) s =
      { s with st := { s.st with slots := (ls.foldl (fun u l => u.changeSlot (k l) (f l)) s).st.slots } } := by
  induction ls generalizing s with
  | nil => rfl
  | cons l ls ih =>
    rw [List.foldl_cons]
    exact ih (s.changeSlot (k l) (f l))

theorem State.moveLines_view {β : Type} (k : β → Nat) (f : β → StockSlot → StockSlot) (ls : List β) (s : State) :
    (ls.foldl (fun u l => u.changeSlot (k l) (f l)) s).view =
      { s.view with slot := (ls.foldl (fun u l => u.changeSlot (k l) (f l)) s).slot } := by
  rw [State.moveLines_eq]
  rfl

theorem StockSlot.withWorking_area (x : StockSlot) (w : Nat) :
    (x.withWorking w).working = w ∧ (x.withWorking w).reserve = x.reserve ∧ (x.withWorking w).unfit = x.unfit ∧
      (x.withWorking w).dispatch = x.dispatch ∧ (x.withWorking w).suspect = x.suspect :=
  ⟨x.withWorking_working w, x.withWorking_rest w⟩

/-- Lines taken from their source areas (R16). -/
theorem StockSlot.moveLines_take (ls : List ContentLine) (d : Nat) (x : StockSlot) :
    let y := StockSlot.moveLines ContentLine.slot (fun l => StockSlot.take l.source l.pieces) ls d x
    y.working = x.working - heldBy ls .working d ∧ y.unfit = x.unfit - heldBy ls .unfit d ∧ y.dispatch = x.dispatch ∧
      y.reserve = x.reserve ∧ y.suspect = x.suspect := by
  induction ls generalizing x with
  | nil => exact ⟨rfl, rfl, rfl, rfl, rfl⟩
  | cons l ls ih =>
    obtain ⟨hw, hu, hd, hr, hs⟩ := ih (if l.slot = d then StockSlot.take l.source l.pieces x else x)
    dsimp only
    rw [StockSlot.moveLines_cons, hw, hu, hd, hr, hs, heldBy_cons, heldBy_cons]
    by_cases hl : l.slot = d
    · cases hsrc : l.source
      · obtain ⟨h1, h2, h3, h4, h5⟩ := x.withWorking_area (x.working - l.pieces)
        simp [hl, StockSlot.take, h1, h2, h3, h4, h5, Nat.sub_sub]
      · simp [hl, StockSlot.take, Nat.sub_sub]
    · simp [hl]

/-- Lines moved into DISPATCH (R11). -/
theorem StockSlot.moveLines_enter (ls : List ContentLine) (d : Nat) (x : StockSlot) :
    let y := StockSlot.moveLines ContentLine.slot (fun l x => { StockSlot.take l.source l.pieces x with dispatch := x.dispatch + l.pieces }) ls d x
    y.working = x.working - heldBy ls .working d ∧ y.unfit = x.unfit - heldBy ls .unfit d ∧
      y.dispatch = x.dispatch + piecesOf ls d ∧ y.reserve = x.reserve ∧ y.suspect = x.suspect := by
  induction ls generalizing x with
  | nil => exact ⟨rfl, rfl, rfl, rfl, rfl⟩
  | cons l ls ih =>
    obtain ⟨hw, hu, hd, hr, hs⟩ :=
      ih (if l.slot = d then { StockSlot.take l.source l.pieces x with dispatch := x.dispatch + l.pieces } else x)
    dsimp only
    rw [StockSlot.moveLines_cons, hw, hu, hd, hr, hs]
    simp only [piecesOf, heldBy_cons]
    by_cases hl : l.slot = d
    · cases hsrc : l.source
      · obtain ⟨h1, h2, h3, h4, h5⟩ := x.withWorking_area (x.working - l.pieces)
        simp only [hl, if_true, StockSlot.take, h1, h2, h3, h5]
        simp
        omega
      · simp only [hl, if_true, StockSlot.take]
        simp
        omega
    · simp [hl]

/-- Lines moved back from DISPATCH (R12). -/
theorem StockSlot.moveLines_back (ls : List ContentLine) (d : Nat) (x : StockSlot) :
    let y := StockSlot.moveLines ContentLine.slot (fun l x => { StockSlot.give l.source l.pieces x with dispatch := x.dispatch - l.pieces }) ls d x
    y.working = x.working + heldBy ls .working d ∧ y.unfit = x.unfit + heldBy ls .unfit d ∧
      y.dispatch = x.dispatch - piecesOf ls d ∧ y.reserve = x.reserve ∧ y.suspect = x.suspect := by
  induction ls generalizing x with
  | nil => exact ⟨rfl, rfl, rfl, rfl, rfl⟩
  | cons l ls ih =>
    obtain ⟨hw, hu, hd, hr, hs⟩ :=
      ih (if l.slot = d then { StockSlot.give l.source l.pieces x with dispatch := x.dispatch - l.pieces } else x)
    dsimp only
    rw [StockSlot.moveLines_cons, hw, hu, hd, hr, hs]
    simp only [piecesOf, heldBy_cons]
    by_cases hl : l.slot = d
    · cases hsrc : l.source
      · obtain ⟨h1, h2, h3, h4, h5⟩ := x.withWorking_area (x.working + l.pieces)
        simp only [hl, if_true, StockSlot.give, h1, h2, h3, h5]
        simp
        omega
      · simp only [hl, if_true, StockSlot.give]
        simp
        omega
    · simp [hl]

/-- Lines that leave DISPATCH (R13). -/
theorem StockSlot.moveLines_leave (ls : List ContentLine) (d : Nat) (x : StockSlot) :
    StockSlot.moveLines ContentLine.slot (fun l x => { x with dispatch := x.dispatch - l.pieces }) ls d x =
      { x with dispatch := x.dispatch - piecesOf ls d } := by
  induction ls generalizing x with
  | nil => rfl
  | cons l ls ih =>
    rw [StockSlot.moveLines_cons, ih]
    simp only [piecesOf, heldBy_cons]
    by_cases hl : l.slot = d
    · cases hsrc : l.source <;> simp [hl] <;> omega
    · simp [hl]

/-! ### The dock -/

@[simp] theorem State.dockRefuse_view (s : State) (c : Code) : (s.dockRefuse c).view = s.view := rfl

theorem State.beginHandover_leads {day : Bool} (s : State) (c u : Nat) (a : CollectionAnswer) : s.Leads day (s.beginHandover c u a) := by
  unfold State.beginHandover
  dsimp only
  have h1 : (s.changeConsignment c fun y => { y with state := .inHandover }).view = s.view :=
    s.changeConsignment_view_same c _ rfl rfl
  exact ((State.Leads.of_view h1).trans (State.forget_leads _ (by split <;> rfl))).congr rfl

theorem State.dockPresent_leads {day : Bool} (s : State) (u r : Nat) : s.Leads day (s.dockPresent u r) := by
  unfold State.dockPresent
  split
  · exact .refl s
  · split
    · exact .refl s
    · split
      · exact .refl s
      · split
        · exact .refl s
        · dsimp only
          split
          · exact .refl s
          · exact s.collectionRequest_leads.trans (State.beginHandover_leads _ _ _ _)

/-- The handover record written with the bags it had received. -/
theorem State.setHandover_same_view (s : State) {h k : Handover} (hh : s.chu.handover = some h) (hk : k.received = h.received) :
    (s.setHandover (some k)).view = s.view := by
  rw [State.setHandover_view]
  have : s.view.received = h.received := by simp [State.view, hh]
  simp only [Option.map_some, Option.getD_some, hk, ← this]

theorem State.foreignScan_leads {day : Bool} (s : State) {h : Handover} (hh : s.chu.handover = some h) : s.Leads day (s.foreignScan h) := by
  unfold State.foreignScan
  dsimp only
  have h1 : ((s.setHandover (some { h with foreign := h.foreign + 1 })).dockRefuse .absent).view = s.view :=
    s.setHandover_same_view (k := { h with foreign := h.foreign + 1 }) hh rfl
  split
  · exact (State.Leads.of_view h1).trans (State.abandonHandover_leads _ _)
  · exact .of_view h1

theorem State.dockScan_leads {day : Bool} (s : State) {h : Handover} (hh : s.chu.handover = some h) (q : Nat) :
    s.Leads day (s.dockScan h q) := by
  unfold State.dockScan
  dsimp only
  split
  · exact .refl s
  · split
    · exact s.foreignScan_leads hh
    · rename_i b x hq
      obtain ⟨hx, -, -⟩ := State.liveSeal_eq_some hq
      split
      · split
        · rename_i hs
          refine (s.moveBag_leads b .scanned fun y hy => ?_).congr rfl
          obtain rfl := Option.some.inj (hx.symm.trans hy)
          rw [hs]
          exact ⟨.scanned rfl, by simp⟩
        · split
          · exact .refl s
          · exact s.foreignScan_leads hh
      · split
        · split
          · rename_i hs
            refine .of_change (.scannedIn b x.core (State.view_bag hx) hs) ?_
            show (((s.moveBag b .received).setHandover _).send _).view = _
            rw [State.send_view, State.setHandover_view, State.moveBag_view, View.changeBag_of_some (State.view_bag hx)]
            have : s.view.received = h.received := by simp [State.view, hh]
            rw [this]
            rfl
          · split
            · exact .refl s
            · exact s.foreignScan_leads hh
        · exact s.foreignScan_leads hh

end Sys2Proof.Machine
end

section
/-! PROOFS. The completion of a handover and the frames of the partner lines as acts on the view. -/

namespace Sys2Proof.Machine

/-! ### The completion of a handover -/

theorem View.changeBags_nil (v : View) (g : Bag → Bag) : v.changeBags [] g = v.bag := by
  funext c
  simp [View.changeBags]

/-- One bag more is changed, before the others, where the change made twice is the change made once. -/
theorem View.changeBags_cons (v : View) (b : Nat) (bs : List Nat) (g : Bag → Bag) (hg : ∀ x, g (g x) = g x) :
    (v.changeBag b g).changeBags bs g = v.changeBags (b :: bs) g := by
  funext c
  simp only [View.changeBags, View.changeBag, Function.update_apply, List.mem_cons]
  by_cases hc : c = b
  · subst hc
    simp [Function.comp_def, hg]
  · simp [hc]

/-- A list of bags, each changed. -/
theorem State.foldl_changeBag_view (bs : List Nat) (f g : Bag → Bag) (h : ∀ x, (f x).core = g x.core) (hg : ∀ x, g (g x) = g x) (s : State) :
    (bs.foldl (fun u b => u.changeBag b f) s).view = { s.view with bag := s.view.changeBags bs g } := by
  induction bs generalizing s with
  | nil => rw [View.changeBags_nil]; rfl
  | cons b bs ih =>
    rw [List.foldl_cons, ih, s.changeBag_view b f g h, View.changeBags_cons _ _ _ _ hg]
    rfl

/-- A list of bags, each put at the tail of the ORDINARY class. -/
theorem State.foldl_enqueueTail_view (bs : List Nat) (s : State) :
    (bs.foldl (fun u b => u.enqueueTail b .ordinary) s).view =
      { s.view with
        bag := s.view.changeBags bs fun x => { x with state := .queued }
        ordinary := s.view.ordinary ++ bs } := by
  induction bs generalizing s with
  | nil =>
    rw [View.changeBags_nil, List.append_nil]
    rfl
  | cons b bs ih =>
    rw [List.foldl_cons, ih, State.enqueueTail_view,
      ← s.view.changeBags_cons b bs (fun x => { x with state := .queued }) fun _ => rfl]
    simp only [View.tailed, List.append_assoc, List.singleton_append]
    rfl

theorem State.slot_moveBag (s : State) (b d : Nat) (st : BagState) : (s.moveBag b st).slot d = s.slot d := by
  unfold State.moveBag State.changeBag
  split <;> rfl

/-- The lines of a bag leave DISPATCH. -/
theorem State.leaveDispatch_view (s : State) (ls : List ContentLine) :
    (s.leaveDispatch ls).view =
      { s.view with slot := fun d => { s.view.slot d with dispatch := (s.view.slot d).dispatch - piecesOf ls d } } := by
  have hslot : (s.leaveDispatch ls).slot = fun d => { s.slot d with dispatch := (s.slot d).dispatch - piecesOf ls d } := by
    funext d
    by_cases hd : 1 ≤ d ∧ d ≤ 12
    · rw [← StockSlot.moveLines_leave]
      exact State.slot_moveLines ContentLine.slot (fun l x => { x with dispatch := x.dispatch - l.pieces }) ls s d hd.1 hd.2
    · rw [State.slot_outside _ _ hd, State.slot_outside _ _ hd]
      simp [StockSlot.empty]
  exact (State.moveLines_view ContentLine.slot (fun l x => { x with dispatch := x.dispatch - l.pieces }) ls s).trans
    (congrArg (fun f => ({ s.view with slot := f } : View)) hslot)

theorem State.leaveDispatch_bag (s : State) (ls : List ContentLine) (b : Nat) : (s.leaveDispatch ls).bag b = s.bag b :=
  State.bag_congr (by simp) b

/-- Every bag of a list handed over, each with the lines that it has. -/
theorem State.foldl_handOverBag_view (lines : Nat → List ContentLine) (bs : List Nat) (s : State)
    (hl : ∀ b, ((s.bag b).map Bag.lines).getD [] = lines b) :
    (bs.foldl State.handOverBag s).view =
      { s.view with
        slot := fun d => { s.view.slot d with dispatch := (s.view.slot d).dispatch - (bs.map fun b => piecesOf (lines b) d).sum }
        bag := s.view.changeBags bs fun x => { x with state := .handedOver } } := by
  induction bs generalizing s with
  | nil => rw [View.changeBags_nil]; rfl
  | cons b bs ih =>
    have hb : ∀ c, (((s.handOverBag b).bag c).map Bag.lines).getD [] = lines c := fun c => by
      rw [State.handOverBag, State.bag_moveBag, State.leaveDispatch_bag, State.leaveDispatch_bag, ← hl c]
      split
      · rename_i h
        subst h
        rw [Option.map_map]
        rfl
      · rfl
    rw [List.foldl_cons, ih _ hb, State.handOverBag, State.moveBag_view, State.leaveDispatch_view, hl b,
      ← s.view.changeBags_cons b bs (fun x => { x with state := .handedOver }) fun _ => rfl]
    simp only [View.changeBag, List.map_cons, List.sum_cons, Nat.sub_sub]
    rfl

theorem State.changeConsignment_view (s : State) (c : Nat) (f : Consignment → Consignment)
    (h : (f Consignment.atColdStart).outbound = [] ∧ (f Consignment.atColdStart).inbound = []) :
    (s.changeConsignment c f).view =
      { s.view with
        outbound := Function.update s.view.outbound c (f (s.consignment c)).outbound
        inbound := Function.update s.view.inbound c (f (s.consignment c)).inbound } := by
  by_cases hc : 1 ≤ c ∧ c ≤ 8
  · exact s.setConsignment_view c _ hc.1 hc.2
  · have hx : s.consignment c = Consignment.atColdStart := nth_outside _ _ _ hc
    have ho : Function.update s.view.outbound c (f (s.consignment c)).outbound = s.view.outbound := by
      rw [hx, h.1]
      exact Function.update_eq_self_iff.2 (by show [] = (s.consignment c).outbound; rw [hx]; rfl)
    have hi : Function.update s.view.inbound c (f (s.consignment c)).inbound = s.view.inbound := by
      rw [hx, h.2]
      exact Function.update_eq_self_iff.2 (by show [] = (s.consignment c).inbound; rw [hx]; rfl)
    rw [State.changeConsignment, s.setConsignment_outside c _ hc, ho, hi]

theorem View.bagState_changeBags (v : View) (bs : List Nat) (st : BagState) (b : Nat) :
    (v.changeBags bs (fun x => { x with state := st }) b).map Bag.state = if b ∈ bs then (v.bag b).map fun _ => st else (v.bag b).map Bag.state := by
  unfold View.changeBags
  split
  · cases v.bag b <;> rfl
  · rfl

theorem State.bagsIn_view (s : State) (bs : List Nat) (st : BagState) : s.bagsIn bs st = s.view.standing bs st := by
  unfold State.bagsIn View.standing
  congr 1
  funext b
  show decide (_ = _) = decide (((s.bag b).map Bag.core).map Bag.state = some st)
  rw [Option.map_map]
  rfl

/-- The bags of a list in one state are those in it before others moved between two other states. -/
theorem View.standing_changeBags (v w : View) (bs cs : List Nat) (st tt x : BagState) (hw : w.bag = v.changeBags cs fun y => { y with state := tt })
    (hc : ∀ b ∈ cs, (v.bag b).map Bag.state = some st) (h1 : x ≠ st) (h2 : x ≠ tt) : w.standing bs x = v.standing bs x := by
  unfold View.standing
  congr 1
  funext b
  rw [hw, View.bagState_changeBags]
  split
  · rename_i hb
    have hs := hc b hb
    obtain ⟨y, hy, rfl⟩ := Option.map_eq_some_iff.1 hs
    simp [hy, Ne.symm h1, Ne.symm h2]
  · rfl

theorem State.completeHandover_leads {day : Bool} (s : State) {h : Handover} (hh : s.chu.handover = some h) :
    s.Leads day (s.completeHandover h) := by
  unfold State.completeHandover
  dsimp only
  generalize hos : s.bagsIn (s.consignment h.consignment).outbound .scanned = outs
  generalize his : s.bagsIn h.received .received = ins
  generalize hls : s.bagsIn (s.consignment h.consignment).inbound .expected = left
  generalize hvs : (outs.map fun b => s.linesValue (((s.bag b).map Bag.lines).getD [])).sum = value
  generalize (ins.map fun b => ((s.bag b).bind Bag.declared).getD 0).sum = declared
  generalize hs1 : (outs.foldl State.handOverBag s).tellOc (fun q => { q with handedOver := q.handedOver + value }) = s1
  generalize hs2 : (ins.foldl (fun u b => u.enqueueTail b .ordinary) s1).tellOc (fun q => { q with received := q.received + declared }) = s2
  generalize hs3 : left.foldl (fun u b => u.changeBag b fun x => { x with consignment := none }) s2 = s3
  generalize hs4 : ((s3.changeConsignment h.consignment fun y =>
    { y with state := .done, inbound := y.inbound.filter fun b => decide (b ∉ left) }).setHandover none) = s4
  suffices hlead : s.Leads day s4 by
    refine State.Leads.congr ?_ (State.send_view _ _)
    split
    · exact hlead.place _ _
    · exact (hlead.place _ _).place _ _
  rw [State.bagsIn_view] at hos his hls
  have hrec : s.view.received = h.received := by simp [State.view, hh]
  have hv1 : s1.view = { s.view with
      slot := fun d => { s.view.slot d with
        dispatch := (s.view.slot d).dispatch - (outs.map fun b => piecesOf (((s.view.bag b).map Bag.lines).getD []) d).sum }
      bag := s.view.changeBags outs fun x => { x with state := .handedOver }
      totals := { s.oc.totals with handedOver := s.oc.totals.handedOver + value } } := by
    have hoc : (outs.foldl State.handOverBag s).oc = s.oc := foldl_keeps State.oc _ (fun u b => by simp) _ _
    rw [← hs1, State.tellOc_view, hoc, State.foldl_handOverBag_view (fun b => ((s.view.bag b).map Bag.lines).getD []) _ _ fun b => ?_]
    show ((s.bag b).map Bag.lines).getD [] = ((((s.bag b).map Bag.core)).map Bag.lines).getD []
    rw [Option.map_map]
    rfl
  have hstand : ∀ b ∈ outs, (s.view.bag b).map Bag.state = some .scanned := fun b hb => (View.mem_standing.1 (hos ▸ hb)).2
  have hins1 : s1.view.standing s1.view.received .received = ins := by
    rw [View.standing_changeBags s.view s1.view _ outs .scanned .handedOver .received (by rw [hv1]) hstand (by decide) (by decide), hv1]
    dsimp only
    rw [hrec, his]
  have hstand1 : ∀ b ∈ ins, (s1.view.bag b).map Bag.state = some .received := fun b hb => (View.mem_standing.1 (hins1 ▸ hb)).2
  have hv2 : s2.view = { s1.view with
      bag := s1.view.changeBags ins fun x => { x with state := .queued }, ordinary := s1.view.ordinary ++ ins
      totals := { s1.oc.totals with received := s1.oc.totals.received + declared } } := by
    have hoc : (ins.foldl (fun u b => u.enqueueTail b .ordinary) s1).oc = s1.oc :=
      foldl_keeps State.oc _ (fun u b => by simp) _ _
    rw [← hs2, State.tellOc_view, hoc, State.foldl_enqueueTail_view]
  have hleft2 : ∀ w : View, w.bag = s2.view.bag → w.standing (s.view.inbound h.consignment) .expected = left := fun w hw => by
    rw [View.standing_changeBags s1.view w _ ins .received .queued .expected (by rw [hw, hv2]) hstand1 (by decide) (by decide),
      View.standing_changeBags s.view s1.view _ outs .scanned .handedOver .expected (by rw [hv1]) hstand (by decide) (by decide)]
    exact hls
  have hv4 : s4.view = { s2.view with
      bag := s2.view.changeBags left fun x => { x with consignment := none }
      inbound := Function.update s2.view.inbound h.consignment ((s2.view.inbound h.consignment).filter fun b => decide (b ∉ left))
      received := [] } := by
    have hchu : s3.view = { s2.view with bag := s2.view.changeBags left fun x => { x with consignment := none } } := by
      rw [← hs3]
      exact State.foldl_changeBag_view left _ (fun x => { x with consignment := none }) (fun _ => rfl) (fun _ => rfl) s2
    have ho : (s3.consignment h.consignment).outbound = s2.view.outbound h.consignment :=
      congrFun (congrArg View.outbound hchu) h.consignment
    have hi : (s3.consignment h.consignment).inbound = s2.view.inbound h.consignment :=
      congrFun (congrArg View.inbound hchu) h.consignment
    rw [← hs4, State.setHandover_view, State.changeConsignment_view _ _ _ ⟨rfl, rfl⟩, hchu]
    dsimp only
    rw [ho, hi, Function.update_eq_self]
    rfl
  have step1 : s.Leads day s1 := by
    refine .of_change (.handedOver h.consignment outs s1.view.slot s1.view.totals hos.symm (fun b hb => ?_) (fun d => by rw [hv1]) ?_) ?_
    · obtain ⟨y, hy, -⟩ := Option.map_eq_some_iff.1 (hstand b hb)
      obtain ⟨z, hz, -⟩ := State.view_bag_eq_some hy
      exact s.bag_some_lt _ _ hz
    · rw [hv1, ← hvs]
      show Totals.moved { s.oc.totals with handedOver := s.oc.totals.handedOver + _ } = s.oc.totals.moved + _
      have hval : (outs.map fun b => linesValueIn s.view.denoms (((s.view.bag b).map Bag.lines).getD [])) =
          outs.map fun b => s.linesValue (((s.bag b).map Bag.lines).getD []) := List.map_congr_left fun b _ => by
        show s.linesValue ((((s.bag b).map Bag.core).map Bag.lines).getD []) = _
        rw [Option.map_map]
        rfl
      rw [hval]
      simp only [Totals.moved]
      push_cast
      omega
    · rw [hv1]
  have step2 : Chain day s1.view { s2.view with received := [] } := by
    have htaken := Change.takenIn (v := s1.view)
    rw [hins1] at htaken
    refine (Relation.ReflTransGen.single (.change htaken)).tail (.change ?_)
    rw [hv2]
    exact Change.traded _ _ (fun _ => id) (fun _ => rfl) (fun _ _ => id) fun _ => rfl
  have step3 : Chain day { s2.view with received := [] } s4.view := by
    have hleft := Change.left (v := { s2.view with received := [] }) h.consignment
    have hi : s2.view.inbound h.consignment = s.view.inbound h.consignment := by rw [hv2, hv1]
    dsimp only at hleft
    rw [hi, hleft2 { s2.view with received := [] } rfl, ← hi] at hleft
    rw [hv4]
    exact .single (.change hleft)
  exact Relation.ReflTransGen.trans (Relation.ReflTransGen.trans step1 step2) step3

/-! ### The records of the handset -/

theorem State.dockConfirm_leads {day : Bool} (s : State) {h : Handover} (hh : s.chu.handover = some h) : s.Leads day (s.dockConfirm h) := by
  unfold State.dockConfirm
  split
  · exact s.completeHandover_leads hh
  · exact .refl s

theorem State.dockRecord_leads {day : Bool} (s : State) (r : DockRecord) : s.Leads day (s.dockRecord r) := by
  unfold State.dockRecord
  split
  · exact .refl s
  · split
    · exact .refl s
    · split
      · split
        · exact s.dockPresent_leads _ _
        · exact .refl s
      · rename_i h hh
        split
        · split
          · exact .refl s
          · exact s.abandonHandover_leads _
          · exact .refl s
        · dsimp only
          have h1 : (s.setHandover (some { h with step := some 120 })).view = s.view :=
            s.setHandover_same_view (k := { h with step := some 120 }) hh rfl
          refine (State.Leads.of_view h1).trans ?_
          split
          · exact .refl _
          · exact State.dockScan_leads _ rfl _
          · exact State.dockConfirm_leads _ rfl
          · exact State.abandonHandover_leads _ _

/-! ### The partner lines -/

theorem State.failFrame_view (s : State) (l : PartnerLine) : (s.failFrame l).view = s.view := by
  cases l <;> rfl

theorem State.takePartnerFrame_leads {day : Bool} (s : State) (l : PartnerLine) (ty : Nat) (body : List Byte) :
    s.Leads day (s.takePartnerFrame l ty body) := by
  unfold State.takePartnerFrame
  split
  · split
    · exact .refl s
    · exact s.stationArrival_leads _ _
  · split
    · exact .refl s
    · exact s.dockRecord_leads _
  · exact s.resolveOldest_leads _

theorem State.partnerByte_leads (l : PartnerLine) (s : State) (b : Byte) : s.Leads true (s.partnerByte l b) := by
  unfold State.partnerByte
  dsimp only
  refine (State.Leads.of_view (s.setReceiver_view l (Receiver.take l (s.receiver l) b).1)).trans ?_
  split
  · exact .refl _
  · exact .of_view (State.failFrame_view _ _)
  · exact (State.takePartnerFrame_leads _ _ _ _).trans (State.settle_leads _ _)

theorem State.partnerGap_view (s : State) (l : PartnerLine) : (s.partnerGap l).view = s.view := by
  unfold State.partnerGap
  split
  · rfl
  · rw [State.failFrame_view, State.setReceiver_view]

/-! ### The host line -/

/-- What leaves the records of the part is not seen. -/
theorem State.takeByte_view (s : State) (b : Byte) : (s.takeByte b).view = s.view := by
  apply State.view_congr <;> simp

theorem State.rejectFrame_view (s : State) : s.rejectFrame.view = s.view := by
  apply State.view_congr <;> simp

theorem State.replySent_view (s : State) : s.replySent.view = s.view := by
  unfold State.replySent
  split <;> rfl

theorem State.noticeSent_view (s : State) : s.noticeSent.view = s.view := by
  unfold State.noticeSent
  split <;> rfl

end Sys2Proof.Machine
end

section
/-! PROOFS. How requests and events are acts on the view, and the requests of TPS. -/

namespace Sys2Proof.Machine

/-! ### Requests and events -/

/-- What an operation of the part other than OPEN DAY and a stop makes of the view: acts, behind at most one write of its own. -/
def View.Works (v w : View) : Prop := ∃ u, (u = v ∨ Begin v u) ∧ Chain true u w

theorem View.Works.path {v w : View} (h : v.Works w) : Path v w := by
  obtain ⟨u, rfl | hb, hc⟩ := h
  · exact .acts hc
  · exact .request hb hc

theorem View.Works.chain {v w x : View} (h : v.Works w) (hc : Chain true w x) : v.Works x := by
  obtain ⟨u, hu, hw⟩ := h
  exact ⟨u, hu, hw.trans hc⟩

theorem View.Works.of_chain {v w : View} (h : Chain true v w) : v.Works w := ⟨v, .inl rfl, h⟩

theorem State.Leads.works {s t : State} (h : s.Leads true t) : s.view.Works t.view := .of_chain h

theorem View.Works.of_begin {v w : View} (h : Begin v w) : v.Works w := ⟨w, .inr h, .refl⟩

/-- An answer leaves, where it accepts, a state of this property. -/
def Answer.Leaves (P : State → Prop) : Answer → Prop
  | .refuse _ _ => True
  | .accept t _ => P t

/-- What a step makes of the view: a path, or a cold start. -/
def State.Becomes (s t : State) : Prop := Path s.view t.view ∨ t.Cold

/-- Where an outcome leaves a next state, the view has become its view. -/
def State.Goes (s : State) (o : Host.Outcome State Fault Refusal) : Prop := ∀ t, o = .next t → s.Becomes t

theorem State.goes_next {s t : State} (h : s.Becomes t) : s.Goes (.next t) := by
  rintro u hu
  cases hu
  exact h

theorem State.Becomes.of_leads {s t : State} (h : s.Leads true t) : s.Becomes t := .inl (.acts h)

theorem State.Becomes.of_view {s t : State} (h : t.view = s.view) : s.Becomes t := .of_leads (.of_view h)

/-- A request becomes what its owner's answer becomes. -/
theorem State.goes_takeRequest {i : Instr} {op : State → Answer} {s : State} (h : (op s).Leaves fun t => Path s.view t.view) :
    s.Goes (takeRequest i op s) := by
  unfold takeRequest
  split
  · split
    · exact State.goes_next (.of_view (by simp))
    · rename_i t d ho
      rw [ho] at h
      refine State.goes_next (.inl ?_)
      have hv : (t.formReply i none d).startTx.view = t.view := by simp
      rw [hv]
      exact h
  · exact State.goes_next (.of_view rfl)

theorem Answer.Leaves.mono {P Q : State → Prop} {a : Answer} (h : a.Leaves P) (hpq : ∀ t, P t → Q t) : a.Leaves Q := by
  cases a with
  | refuse c d => trivial
  | accept t d => exact hpq t h

theorem unlessHeld_leaves {op : State → Answer} {P : State → Prop} {s : State} (h : (op s).Leaves P) : (unlessHeld op s).Leaves P := by
  unfold unlessHeld
  split
  · trivial
  · exact h

/-- A request that works on the view. -/
theorem State.goes_request {i : Instr} {op : State → Answer} {s : State} (h : (op s).Leaves fun t => s.view.Works t.view) :
    s.Goes (takeRequest i op s) :=
  State.goes_takeRequest (h.mono fun _ hw => hw.path)

theorem settled_leaves {op : State → Answer} {s : State} (h : (op s).Leaves fun t => s.view.Works t.view) :
    (settled op s).Leaves fun t => s.view.Works t.view := by
  unfold settled
  split
  · trivial
  · rename_i t d ho
    rw [ho] at h
    exact View.Works.chain h (s.settle_leads t)

/-- A request that the office takes where it is not HELD, and that ends as operations end. -/
theorem State.goes_settled {i : Instr} {op : State → Answer} {s : State} (h : (op s).Leaves fun t => s.view.Works t.view) :
    s.Goes (takeRequest i (unlessHeld (settled op)) s) :=
  State.goes_request (unlessHeld_leaves (settled_leaves h))

theorem State.goes_unlessHeld {i : Instr} {op : State → Answer} {s : State} (h : (op s).Leaves fun t => s.view.Works t.view) :
    s.Goes (takeRequest i (unlessHeld op) s) :=
  State.goes_request (unlessHeld_leaves h)

theorem State.goes_takeEvent {f : State → State} {s : State} (h : s.Leads true (f s)) : s.Goes (takeEvent f s) := by
  unfold takeEvent
  split
  · exact State.goes_next (.of_leads ((h.trans (State.settle_leads s _)).congr (State.startTx_view _)))
  · exact State.goes_next (.of_view rfl)

theorem State.goes_takeLineEvent {f : State → State} {s : State} (h : s.Leads true (f s)) : s.Goes (takeLineEvent f s) := by
  unfold takeLineEvent
  split
  · exact State.goes_next (.of_leads (h.congr (State.startTx_view _)))
  · exact State.goes_next (.of_view rfl)

theorem State.goes_takePartner (l : PartnerLine) (bs : List Byte) (s : State) : s.Goes (takePartner l bs s) :=
  State.goes_takeLineEvent (State.Leads.foldl (fun u b => u.partnerByte_leads l b) bs s)

/-! ### Tills -/

theorem State.changeTill_view (s : State) (n : Nat) (f : Till → Till) (h1 : 1 ≤ n) (h2 : n ≤ 96) :
    (s.changeTill n f).view = { s.view with till := Function.update s.view.till n (f (s.till n)) } := s.setTill_view n _ h1 h2

theorem tillOk_iff {n : Nat} : tillOk n = true ↔ 1 ≤ n ∧ n ≤ 96 := by simp [tillOk]

theorem askSetTill_leaves (n c e : Nat) (s : State) : (askSetTill n c e s).Leaves fun t => s.view.Works t.view := by
  unfold askSetTill
  split
  · trivial
  · split
    · trivial
    · split
      · trivial
      · exact (s.changeTill_leads n _ rfl).works

/-! ### The composition of a float -/

/-- The template takes no more than it is asked for, and no more of a slot than stands available (R69). -/
theorem phase1_sound (is : List FloatInput) (r : Nat) :
    valueOf is (phase1 is r).1 + (phase1 is r).2 = r ∧ (phase1 is r).1.length = is.length ∧
      ∀ p ∈ is.zip (phase1 is r).1, p.2 ≤ p.1.avail := by
  induction is generalizing r with
  | nil => simp [phase1, valueOf]
  | cons i is ih =>
    have hn : min (min i.target i.avail) (r / i.value) * i.value ≤ r :=
      (Nat.mul_le_mul_right _ (Nat.min_le_right _ _)).trans (Nat.div_mul_le_self r i.value)
    obtain ⟨hv, hl, ha⟩ := ih (r - min (min i.target i.avail) (r / i.value) * i.value)
    refine ⟨?_, ?_, ?_⟩
    · simp only [phase1, valueOf, List.zip_cons_cons, List.map_cons, List.sum_cons] at hv ⊢
      omega
    · simp only [phase1, List.length_cons, hl]
    · simp only [phase1, List.zip_cons_cons, List.mem_cons, forall_eq_or_imp]
      exact ⟨by omega, ha⟩

/-- The fill adds to the pieces taken, within the availability (R70). -/
theorem phase2_sound (is : List FloatInput) (ns : List Nat) (r : Nat) (hl : ns.length = is.length) (ha : ∀ p ∈ is.zip ns, p.2 ≤ p.1.avail) :
    valueOf is (phase2 is ns r).1 + (phase2 is ns r).2 = valueOf is ns + r ∧ ∀ p ∈ is.zip (phase2 is ns r).1, p.2 ≤ p.1.avail := by
  induction is generalizing ns r with
  | nil => simp [phase2, valueOf]
  | cons i is ih =>
    obtain _ | ⟨n, ns⟩ := ns
    · simp at hl
    have he : min (min (i.cap - n) (i.avail - n)) (r / i.value) * i.value ≤ r :=
      (Nat.mul_le_mul_right _ (Nat.min_le_right _ _)).trans (Nat.div_mul_le_self r i.value)
    simp only [List.zip_cons_cons, List.mem_cons, forall_eq_or_imp] at ha
    obtain ⟨hv, hav⟩ := ih ns (r - min (min (i.cap - n) (i.avail - n)) (r / i.value) * i.value) (by simpa using hl) ha.2
    refine ⟨?_, ?_⟩
    · simp only [phase2, valueOf, List.zip_cons_cons, List.map_cons, List.sum_cons, Nat.add_mul] at hv ⊢
      omega
    · simp only [phase2, List.zip_cons_cons, List.mem_cons, forall_eq_or_imp]
      exact ⟨by have := ha.1; omega, hav⟩

/-- A composition is worth the amount less its remainder, within the availability (R69 to R71). -/
theorem compose_sound (is : List FloatInput) (amount : Nat) :
    valueOf is (compose is amount).1 + (compose is amount).2 = amount ∧ ∀ p ∈ is.zip (compose is amount).1, p.2 ≤ p.1.avail := by
  obtain ⟨hv, hl, ha⟩ := phase1_sound is amount
  unfold compose
  dsimp only
  split
  · exact ⟨hv, ha⟩
  · obtain ⟨hv2, ha2⟩ := phase2_sound is (phase1 is amount).1 (phase1 is amount).2 hl ha
    exact ⟨hv2.trans hv, ha2⟩

/-- The lines of a float are worth what was composed. -/
theorem linesValueIn_floatLines (ds : List Denom) (is : List FloatInput) (ns : List Nat) (h : ∀ i ∈ is, i.value = pieceValueIn ds i.slot) :
    linesValueIn ds (floatLines is ns) = valueOf is ns := by
  induction is generalizing ns with
  | nil => rfl
  | cons i is ih =>
    obtain _ | ⟨n, ns⟩ := ns
    · rfl
    have ih := ih ns fun j hj => h j (by simp [hj])
    have hi := h i (by simp)
    simp only [linesValueIn, floatLines, valueOf, List.zip_cons_cons, List.map_cons, List.sum_cons, List.filter_cons] at ih ⊢
    split
    · simp only [List.map_cons, List.sum_cons, ih, hi]
    · rename_i hn
      simp only [decide_eq_true_eq, Nat.not_lt, Nat.le_zero] at hn
      rw [ih, hn]
      simp

theorem slot_mem_of_floatLines {is : List FloatInput} {ns : List Nat} {l : ContentLine} (h : l ∈ floatLines is ns) :
    ∃ i ∈ is, i.slot = l.slot := by
  simp only [floatLines, List.mem_map, List.mem_filter] at h
  obtain ⟨p, ⟨hp, -⟩, rfl⟩ := h
  exact ⟨p.1, (List.of_mem_zip hp).1, rfl⟩

/-- The lines of a float hold of a slot no more than stands available. -/
theorem heldBy_floatLines_le {is : List FloatInput} {ns : List Nat} {d a : Nat} (hn : (is.map FloatInput.slot).Nodup)
    (hp : ∀ p ∈ is.zip ns, p.2 ≤ p.1.avail) (ha : ∀ i ∈ is, i.slot = d → i.avail ≤ a) :
    heldBy (floatLines is ns) .working d ≤ a := by
  induction is generalizing ns with
  | nil => exact Nat.zero_le _
  | cons i is ih =>
    obtain _ | ⟨n, ns⟩ := ns
    · exact Nat.zero_le _
    simp only [List.zip_cons_cons, List.mem_cons, forall_eq_or_imp] at hp ha
    simp only [List.map_cons, List.nodup_cons] at hn
    have hcons : heldBy (floatLines (i :: is) (n :: ns)) .working d = (if i.slot = d then n else 0) + heldBy (floatLines is ns) .working d := by
      unfold floatLines
      rw [List.zip_cons_cons, List.filter_cons]
      split
      · rw [List.map_cons, heldBy_cons]
        simp
      · rename_i h0
        simp only [decide_eq_true_eq, Nat.not_lt, Nat.le_zero] at h0
        simp [h0]
    rw [hcons]
    by_cases hi : i.slot = d
    · have hrest : heldBy (floatLines is ns) .working d = 0 := heldBy_of_not_mem (fun l hl hd => by
        obtain ⟨j, hj, hs⟩ := slot_mem_of_floatLines hl
        exact hn.1 (List.mem_map.2 ⟨j, hj, by rw [hs, hd, hi]⟩)) _
      have h1 := ha.1 hi
      have h2 := hp.1
      rw [hrest, if_pos hi]
      omega
    · rw [if_neg hi, Nat.zero_add]
      exact ih hn.2 hp.2 ha.2

/-! ### Floats -/

theorem floatOutcome_exact {amount rest m : Nat} {r : Bool} (h : floatOutcome amount rest m r = .exact) : rest = 0 := by
  unfold floatOutcome at h
  split at h
  · assumption
  · split at h <;> (try split at h) <;> (try split at h) <;> simp at h

theorem floatOutcome_reduced {amount rest m : Nat} {r : Bool} (h : floatOutcome amount rest m r = .reduced) :
    rest ≠ 0 ∧ amount - rest ≠ 0 ∧ m ≤ amount - rest := by
  unfold floatOutcome at h
  split at h
  · simp at h
  · split at h
    · simp at h
    · split at h
      · simp at h
      · split at h
        · simp at h
        · rename_i h1 h2 h3 h4
          exact ⟨h1, h3, Nat.le_of_not_lt h4⟩

/-- A float placed is a float composed (R73, R74, R77). -/
theorem State.placeFloat_begins (s : State) {n amount : Nat} {reduced : Bool} (h1 : 1 ≤ n) (h2 : n ≤ 96)
    (hs : (s.till n).state = .closed ∨ (s.till n).state = .reconciled) (hr : s.st.reservations.length < 16)
    (ha : 1 ≤ amount ∧ amount ≤ 10000000)
    (hred : reduced = decide ((compose (s.floatInputs (s.till n).cls) amount).2 ≠ 0))
    (hone : amount - (compose (s.floatInputs (s.till n).cls) amount).2 ≠ 0)
    (hmin : (compose (s.floatInputs (s.till n).cls) amount).2 ≠ 0 →
      classOf s.profile.floatMin (s.till n).cls ≤ amount - (compose (s.floatInputs (s.till n).cls) amount).2) :
    Begin s.view (s.placeFloat n amount (amount - (compose (s.floatInputs (s.till n).cls) amount).2) reduced
      (floatLines (s.floatInputs (s.till n).cls) (compose (s.floatInputs (s.till n).cls) amount).1)).view := by
  obtain ⟨hv, hav⟩ := compose_sound (s.floatInputs (s.till n).cls) amount
  generalize his : s.floatInputs (s.till n).cls = is at *
  have hvalue : ∀ i ∈ is, i.value = pieceValueIn s.st.denoms i.slot := by
    rw [← his]
    simp only [State.floatInputs, List.mem_map]
    rintro i ⟨d, -, rfl⟩
    rfl
  have hslots : (is.map FloatInput.slot).Nodup := by
    rw [← his, State.floatInputs, List.map_map]
    exact (List.map_id _).symm ▸ nodup_slots s
  have havail : ∀ d, ∀ i ∈ is, i.slot = d → i.avail ≤ s.availability d := by
    rw [← his]
    simp only [State.floatInputs, List.mem_map]
    rintro d i ⟨e, -, rfl⟩ rfl
    exact Nat.le_refl _
  generalize hc : compose is amount = c at *
  unfold State.placeFloat
  dsimp only
  rw [State.changeTill_view _ _ _ h1 h2, State.placeReservation_view]
  refine Begin.composed n { prior := (s.till n).state, requested := amount, composed := amount - c.2, reduced := reduced } _ hs rfl
    ⟨?_, ?_, ha.2, ?_⟩ (fun hlt => hmin ?_) rfl ?_ ?_ (fun d _ _ hres => ?_) hr
  · exact Nat.one_le_iff_ne_zero.2 hone
  · exact Nat.sub_le _ _
  · subst hred
    dsimp only
    simp only [ne_eq, decide_not, Bool.not_eq_true', decide_eq_false_iff_not]
    omega
  · change amount - c.2 < amount at hlt
    omega
  · intro l hl
    simp only [floatLines, List.mem_map] at hl
    obtain ⟨p, -, rfl⟩ := hl
    rfl
  · rw [show s.view.denoms = s.st.denoms from rfl, linesValueIn_floatLines _ _ _ hvalue]
    exact Nat.eq_sub_of_add_eq hv
  · have hheld := heldBy_floatLines_le hslots hav (havail d)
    have : s.availability d = (s.slot d).working - nth 0 s.profile.floor d - reservedIn s.view.reservations .working d := rfl
    show _ + heldBy (floatLines is c.1) .working d ≤ _
    have hslot : (s.view.slot d).working = (s.slot d).working := rfl
    omega

theorem askOpenTill_leaves (n amount reduce : Nat) (s : State) : (askOpenTill n amount reduce s).Leaves fun t => s.view.Works t.view := by
  unfold askOpenTill
  split
  · trivial
  · rename_i hrange
    simp only [not_or, Bool.not_eq_false, tillOk_iff] at hrange
    obtain ⟨⟨h1, h2⟩, hlow, hhigh⟩ := hrange
    split
    · trivial
    · split
      · trivial
      · split
        · trivial
        · rename_i hstate
          have hs : (s.till n).state = .closed ∨ (s.till n).state = .reconciled := by
            by_contra hcon
            exact hstate (.inl (not_or.1 hcon))
          split
          · trivial
          · rename_i hfull
            unfold State.composeFloat
            dsimp only
            split
            · rename_i ho
              have h0 := floatOutcome_exact ho
              exact .of_begin (s.placeFloat_begins h1 h2 hs (by omega) (by omega) (by simp [h0]) (by omega) (by omega))
            · rename_i ho
              obtain ⟨h0, hone, hm⟩ := floatOutcome_reduced ho
              exact .of_begin (s.placeFloat_begins h1 h2 hs (by omega) (by omega) (by simp [h0]) hone fun _ => hm)
            · trivial
            · trivial
            · trivial

end Sys2Proof.Machine
end

section
/-! PROOFS. The remaining requests of TPS as acts on the view. -/

namespace Sys2Proof.Machine

/-! ### Lines taken from WORKING -/

theorem State.takeLines_slot (s : State) (ls : List ContentLine) (d : Nat) (h1 : 1 ≤ d) (h2 : d ≤ 12) :
    ((s.takeLines ls).slot d).working = (s.slot d).working - heldBy ls .working d ∧
      ((s.takeLines ls).slot d).unfit = (s.slot d).unfit - heldBy ls .unfit d ∧
      ((s.takeLines ls).slot d).dispatch = (s.slot d).dispatch ∧ ((s.takeLines ls).slot d).reserve = (s.slot d).reserve ∧
      ((s.takeLines ls).slot d).suspect = (s.slot d).suspect := by
  rw [State.takeLines, State.slot_moveLines _ _ _ _ _ h1 h2]
  exact StockSlot.moveLines_take ls d (s.slot d)

theorem State.takeLines_view (s : State) (ls : List ContentLine) :
    (s.takeLines ls).view = { s.view with slot := (s.takeLines ls).slot } :=
  State.moveLines_view ContentLine.slot _ ls s

theorem State.takeLines_outside (s : State) (ls : List ContentLine) (d : Nat) (h : ¬ (1 ≤ d ∧ d ≤ 12)) :
    (s.takeLines ls).slot d = s.view.slot d := by
  rw [State.slot_outside _ _ h]
  exact (State.slot_outside _ _ h).symm

/-- What stands reserved of a slot. -/
theorem State.reserved_eq (s : State) (a : Source) (d : Nat) : s.reserved a d = reservedIn s.view.reservations a d := rfl

/-- Lines taken from WORKING within what is not reserved, their value told to OC with the totals (R9, R16). -/
theorem State.takeLines_leads {day : Bool} (s : State) (ls : List ContentLine) (f : Totals → Totals) (hw : ∀ l ∈ ls, l.source = .working)
    (hl : ∀ d, 1 ≤ d → d ≤ 12 → heldBy ls .working d ≤ (s.slot d).working - s.reserved .working d)
    (hf : (f s.oc.totals).moved = s.oc.totals.moved + (s.linesValue ls : Nat)) : s.Leads day ((s.takeLines ls).tellOc f) := by
  have hunfit : ∀ d, heldBy ls .unfit d = 0 := fun d => by
    have : (ls.filter fun l => l.slot = d && l.source = .unfit) = [] := List.filter_eq_nil_iff.2 fun l hl => by simp [hw l hl]
    simp [heldBy, this]
  have hoc : (s.takeLines ls).oc = s.oc := by simp
  refine .of_change (.traded (s.takeLines ls).slot (f s.oc.totals) (fun d hlim => ?_) (fun d => ?_) (fun d a hr => ?_) fun h12 => ?_)
    (by rw [State.tellOc_view, State.takeLines_view, hoc])
  · by_cases hd : 1 ≤ d ∧ d ≤ 12
    · obtain ⟨h1, h2, h3, h4, h5⟩ := s.takeLines_slot ls d hd.1 hd.2
      obtain ⟨l1, l2, l3, l4, l5⟩ := hlim
      exact ⟨by rw [h1]; exact (Nat.sub_le _ _).trans l1, by rw [h4]; exact l2, by rw [h2]; exact (Nat.sub_le _ _).trans l3,
        by rw [h3]; exact l4, by rw [h5]; exact l5⟩
    · rwa [s.takeLines_outside ls d hd]
  · by_cases hd : 1 ≤ d ∧ d ≤ 12
    · exact (s.takeLines_slot ls d hd.1 hd.2).2.2.1
    · rw [s.takeLines_outside ls d hd]
  · by_cases hd : 1 ≤ d ∧ d ≤ 12
    · obtain ⟨h1, h2, -⟩ := s.takeLines_slot ls d hd.1 hd.2
      have hle := hl d hd.1 hd.2
      rw [s.reserved_eq] at hle
      have hslot : s.view.slot d = s.slot d := rfl
      cases a
      · show _ ≤ ((s.takeLines ls).slot d).working
        change _ ≤ (s.slot d).working at hr
        omega
      · show _ ≤ ((s.takeLines ls).slot d).unfit
        change _ ≤ (s.slot d).unfit at hr
        rw [h2, hunfit]
        exact hr
    · rwa [s.takeLines_outside ls d hd]
  · have hval := valueIn_add_linesValueIn (ds := s.view.denoms) (slot := s.view.slot) (slot' := (s.takeLines ls).slot) ls
      fun d h1 h2 => by
        obtain ⟨g1, g2, g3, g4, -⟩ := s.takeLines_slot ls d h1 (h2.trans h12)
        have hle := hl d h1 (h2.trans h12)
        have hslot : s.view.slot d = s.slot d := rfl
        simp only [StockSlot.pieces, piecesOf, g1, g2, g3, g4, hunfit, hslot]
        omega
    have hlv : linesValueIn s.view.denoms ls = s.linesValue ls := rfl
    have htot : s.view.totals = s.oc.totals := rfl
    rw [hf, htot]
    omega

/-- What a list of working lines holds of a slot is what it names for it. -/
theorem heldBy_workingLines {ls : List StockLine} (hn : (ls.map StockLine.slot).Nodup) (d : Nat) :
    heldBy (workingLines ls) .working d = lineFor ls d := by
  induction ls with
  | nil => rfl
  | cons l ls ih =>
    simp only [List.map_cons, List.nodup_cons] at hn
    have ih := ih hn.2
    simp only [workingLines, List.map_cons, heldBy_cons, lineFor, List.find?_cons] at ih ⊢
    by_cases hd : l.slot = d
    · have h0 : heldBy (ls.map fun l => ({ slot := l.slot, pieces := l.pieces, source := .working } : ContentLine)) .working d = 0 :=
        heldBy_of_not_mem (fun m hm hmd => hn.1 (by
          obtain ⟨q, hq, rfl⟩ := List.mem_map.1 hm
          exact List.mem_map.2 ⟨q, hq, hmd.trans hd.symm⟩)) _
      simp [hd, h0]
    · simp [hd, ih]

theorem State.stockLinesOk_iff {s : State} {ls : List StockLine} :
    s.stockLinesOk ls = true ↔ (1 ≤ ls.length ∧ ls.length ≤ 12) ∧
      (∀ l ∈ ls, (1 ≤ l.slot ∧ l.slot ≤ s.st.denoms.length) ∧ 1 ≤ l.pieces ∧ l.pieces ≤ pieceLimit) ∧ (ls.map StockLine.slot).Nodup := by
  simp [State.stockLinesOk, State.slotOk, and_assoc]

/-- A slot that no line names holds none of them. -/
theorem lineFor_eq_zero {ls : List StockLine} {d : Nat} (h : d ∉ ls.map StockLine.slot) : lineFor ls d = 0 := by
  have : (ls.find? fun l => decide (l.slot = d)) = none := List.find?_eq_none.2 fun l hl => by
    simp only [decide_eq_true_eq]
    exact fun hd => h (List.mem_map.2 ⟨l, hl, hd⟩)
  simp [lineFor, this]

theorem leastFailing_eq_none {f : Nat → Bool} {ds : List Nat} : leastFailing f ds = none ↔ ∀ d ∈ ds, f d = false := by
  simp [leastFailing, List.min?_eq_none_iff, List.filter_eq_nil_iff]

theorem State.mem_namedSlots {s : State} {ls : List StockLine} {d : Nat} :
    d ∈ s.namedSlots ls ↔ (1 ≤ d ∧ d ≤ s.st.denoms.length) ∧ d ∈ ls.map StockLine.slot := by
  simp only [State.namedSlots, List.mem_filter, mem_slots, decide_eq_true_eq]

/-- Every line is within a limit of its slot where no named slot fails the test. -/
theorem State.lineFor_le {s : State} {ls : List StockLine} (hok : s.stockLinesOk ls = true) {limit : Nat → Nat}
    (h : ∀ d ∈ s.namedSlots ls, lineFor ls d ≤ limit d) (d : Nat) : lineFor ls d ≤ limit d := by
  by_cases hd : d ∈ ls.map StockLine.slot
  · obtain ⟨l, hl, rfl⟩ := List.mem_map.1 hd
    exact h _ (State.mem_namedSlots.2 ⟨((State.stockLinesOk_iff.1 hok).2.1 l hl).1, hd⟩)
  · rw [lineFor_eq_zero hd]
    exact Nat.zero_le _

theorem askTopUp_leaves (n : Nat) (ls : List StockLine) (s : State) : (askTopUp n ls s).Leaves fun t => s.view.Works t.view := by
  unfold askTopUp
  split
  · trivial
  · rename_i hrange
    simp only [not_or, Bool.not_eq_false] at hrange
    split
    · trivial
    · split
      · trivial
      · rename_i hshort
        dsimp only
        refine State.Leads.works ?_
        have hle : ∀ d, lineFor ls d ≤ s.availability d := State.lineFor_le hrange.2 fun d hd => by
          simpa using leastFailing_eq_none.1 hshort d hd
        refine State.Leads.trans ?_ (State.retryPasses_leads _ _)
        refine State.Leads.trans ?_ (State.evaluate_leads _ _ _)
        refine State.Leads.trans ?_ (State.changeTill_leads _ _ _ rfl)
        refine s.takeLines_leads (workingLines ls) _ (fun l hl => ?_) (fun d h1 h2 => ?_) ?_
        · obtain ⟨m, -, rfl⟩ := List.mem_map.1 hl
          rfl
        · rw [heldBy_workingLines (State.stockLinesOk_iff.1 hrange.2).2.2]
          have := hle d
          unfold State.availability at this
          omega
        · have hval : s.linesValue (workingLines ls) = s.stockLinesValue ls := by
            simp [State.linesValue, State.stockLinesValue, workingLines, Function.comp_def]
          rw [hval]
          simp only [Totals.moved]
          push_cast
          omega

/-! ### CONFIRM FLOAT, CANCEL FLOAT, REPORT TAKINGS -/

theorem askConfirmFloat_leaves (n : Nat) (s : State) : (askConfirmFloat n s).Leaves fun t => s.view.Works t.view := by
  unfold askConfirmFloat
  split
  · trivial
  · rename_i hn
    simp only [Bool.not_eq_false, tillOk_iff] at hn
    split
    · trivial
    · rename_i hs
      refine View.Works.chain (.of_begin ?_) (State.retryPasses_leads _ _)
      rw [State.changeTill_view _ _ _ hn.1 hn.2]
      unfold State.floatDebit
      dsimp only
      generalize hls : ((s.reservationOf (.till n)).map Reservation.lines).getD [] = ls
      have hoc : ((s.takeLines ls).freeReservation (.till n)).oc = s.oc := by
        show (s.takeLines ls).oc = s.oc
        simp
      have htill : (((s.takeLines ls).freeReservation (.till n)).tellOc fun q =>
          { q with floatsIssued := q.floatsIssued + s.linesValue ls }).till n = s.till n := by
        show (s.takeLines ls).till n = s.till n
        exact State.till_congr (by simp) n
      rw [htill, State.tellOc_view, hoc, State.freeReservation_view, State.takeLines_view]
      refine Begin.confirmed n _ ls (s.takeLines ls).slot _ (not_not.1 hs) rfl hls.symm (fun d h1 h2 => s.takeLines_slot ls d h1 h2)
        (fun d hd => s.takeLines_outside ls d hd) ?_
      show Totals.moved { s.oc.totals with floatsIssued := s.oc.totals.floatsIssued + s.linesValue ls } =
        s.oc.totals.moved + (s.linesValue ls : Nat)
      simp only [Totals.moved]
      push_cast
      omega

theorem askCancelFloat_leaves (n : Nat) (s : State) : (askCancelFloat n s).Leaves fun t => s.view.Works t.view := by
  unfold askCancelFloat
  split
  · trivial
  · split
    · trivial
    · exact (s.uncompose_leads n).works

/-- A report leaves the rate, or brings it within the bounds of the profile (R51). -/
theorem Till.reported_rate (t : Till) (p : Profile) (takings minute : Nat) :
    (t.reported p takings minute).rate = t.rate ∨
      (p.rateMin ≤ p.rateMax → p.rateMin * 16 ≤ (t.reported p takings minute).rate ∧ (t.reported p takings minute).rate ≤ p.rateMax * 16) := by
  show (t.rateUpdate p takings minute).rate = t.rate ∨ (_ → _ ≤ (t.rateUpdate p takings minute).rate ∧ (t.rateUpdate p takings minute).rate ≤ _)
  unfold Till.rateUpdate
  split
  · exact .inr fun h => clampTo_range _ _ _ (Nat.mul_le_mul_right 16 h)
  · exact .inl rfl

theorem Till.rateUpdate_session (t : Till) (p : Profile) (takings minute : Nat) :
    (t.rateUpdate p takings minute).session = (t.state, t.pending, t.onList, t.bags, (t.rateUpdate p takings minute).rate) := by
  unfold Till.rateUpdate
  split <;> rfl

theorem askReportTakings_leaves (n k : Nat) (s : State) : (askReportTakings n k s).Leaves fun t => s.view.Works t.view := by
  unfold askReportTakings
  split
  · trivial
  · rename_i hrange
    simp only [not_or, Bool.not_eq_false, tillOk_iff] at hrange
    split
    · trivial
    · dsimp only
      refine View.Works.chain (.of_begin ?_) (State.evaluate_leads _ _ _)
      rw [State.changeTill_view _ _ _ hrange.1.1 hrange.1.2]
      exact .reported n _ ((s.till n).rateUpdate_session s.profile k s.minute) ((s.till n).reported_rate s.profile k s.minute)

/-! ### DECLARE PICKUP, CLOSE TILL -/

theorem State.declarationSlot_ok {s : State} {q b : Nat} (h : s.declarationSlot q = .ok b) :
    s.liveSeal q = none ∧ s.bag b = none ∧ b < 240 := by
  unfold State.declarationSlot at h
  split at h
  · simp at h
  · rename_i hl
    split at h
    · simp at h
    · rename_i c hc
      obtain rfl : c = b := by simpa using h
      have h1 := List.mem_of_find?_eq_some hc
      have h2 := List.find?_some hc
      refine ⟨by simpa [State.sealLive] using hl, by simpa using h2, by simpa using h1⟩

/-- A declared bag is a new record under a seal that is not live. -/
theorem State.declaredBag_fresh {s : State} (k : BagKind) (n : Option Nat) {q v : Nat} {t : OfficeTime} (h : s.liveSeal q = none) :
    (declaredBag k n q v t).core.Fresh s.view :=
  State.fresh rfl (.inl rfl) (fun h => by simp [declaredBag, newBag] at h) fun m hm _ => by
    obtain rfl : q = m := by simpa [declaredBag] using hm
    exact h

/-- A new bag joins the session of a till, whose other figures change with it. -/
theorem State.join_leads {day : Bool} (s : State) {n b : Nat} {x : Bag} {f : Till → Till} (hn : 1 ≤ n ∧ n ≤ 96) (hb : s.bag b = none)
    (h256 : b < 256) (hx : x.core.Fresh s.view) (ht : x.till = some n) (hs : (s.till n).state = .opened ∨ (s.till n).state = .draining)
    (hf : (f (s.till n)).session =
      ((s.till n).state, (s.till n).pending, (s.till n).onList, (s.till n).bags ++ [b], (s.till n).rate)) :
    s.Leads day ((s.setBag b (some x)).changeTill n f) := by
  have hjoin : Act day s.view _ := .change (.joined n b x.core (State.view_bag_none hb) hx ht hs)
  refine (Relation.ReflTransGen.single hjoin).tail (.change ?_)
  rw [State.changeTill_view _ _ _ hn.1 hn.2, State.setBag_view _ _ _ h256]
  have hfig := Change.figures (v := { s.view with
    bag := Function.update s.view.bag b (some x.core)
    till := Function.update s.view.till n { s.view.till n with bags := (s.view.till n).bags ++ [b] } }) n (f (s.till n))
    (by rw [hf]; dsimp only; rw [Function.update_self]; rfl)
  dsimp only at hfig
  rw [Function.update_idem] at hfig
  exact hfig

theorem askDeclarePickup_leaves (n q amount : Nat) (s : State) :
    (askDeclarePickup n q amount s).Leaves fun t => s.view.Works t.view := by
  unfold askDeclarePickup
  split
  · trivial
  · rename_i hrange
    simp only [not_or, Bool.not_eq_false, tillOk_iff] at hrange
    split
    · trivial
    · rename_i hstate
      split
      · trivial
      · split
        · trivial
        · rename_i b hb
          obtain ⟨hseal, hnone, h240⟩ := State.declarationSlot_ok hb
          dsimp only
          refine State.Leads.works (State.Leads.trans ?_ (State.evaluate_leads _ _ _))
          exact s.join_leads hrange.1 hnone (by omega) (State.declaredBag_fresh _ _ hseal) rfl
            (.inl (not_not.1 (not_or.1 hstate).2)) rfl

theorem State.leaveDue_leads {day : Bool} (s : State) {n : Nat} (hn : 1 ≤ n ∧ n ≤ 96) : s.Leads day (s.leaveDue n) := by
  refine .of_change (.unlisted n) ?_
  unfold State.leaveDue
  dsimp only
  rw [State.setDue_view, State.changeTill_view _ _ _ hn.1 hn.2, map_till_filter]
  rfl

theorem State.drainToPriority_view (s : State) (n : Nat) :
    (s.drainToPriority n).view = { s.view with
      priority := s.view.priority ++ s.view.ordinary.filter fun b => decide ((s.view.bag b).bind Bag.till = some n)
      ordinary := s.view.ordinary.filter fun b => !decide ((s.view.bag b).bind Bag.till = some n) } := by
  have hmine : (fun b => decide ((s.bag b).bind Bag.till = some n)) = fun b => decide ((s.view.bag b).bind Bag.till = some n) := by
    funext b
    show _ = decide (((s.bag b).map Bag.core).bind Bag.till = some n)
    cases s.bag b <;> rfl
  unfold State.drainToPriority
  dsimp only
  rw [State.setQueue_view]
  generalize hm : s.br.ordinary.filter (fun b => decide ((s.bag b).bind Bag.till = some n)) = moved
  have hv : (moved.foldl (fun u b => u.changeBag b fun x => { x with queueClass := some .priority }) s).view = s.view :=
    State.foldl_view _ (fun u b => u.changeBag_view_same b (fun x => { x with queueClass := some .priority }) fun _ => rfl) moved s
  have hp := congrArg View.priority hv
  have ho := congrArg View.ordinary hv
  change (moved.foldl _ s).br.priority = _ at hp
  change (moved.foldl _ s).br.ordinary = _ at ho
  rw [hv, hp, ho, ← hm]
  simp only [hmine]
  rw [show s.br.ordinary = s.view.ordinary from rfl]
  congr 2
  funext b
  rw [congrFun hmine b]

/-- A till off the list starts to drain. -/
theorem State.drain_till_leads {day : Bool} (s : State) {n : Nat} (hn : 1 ≤ n ∧ n ≤ 96) (hs : (s.till n).state = .opened)
    (hl : (s.till n).onList = false) : s.Leads day ((s.changeTill n fun t => { t with state := .draining }).drainToPriority n) := by
  refine .of_change (.drained n hs hl) ?_
  rw [State.drainToPriority_view, State.changeTill_view _ _ _ hn.1 hn.2]
  rfl

theorem State.till_changeTill (s : State) {n : Nat} (f : Till → Till) (hn : 1 ≤ n ∧ n ≤ 96) : (s.changeTill n f).till n = f (s.till n) :=
  State.till_setTill_same _ _ _ hn.1 hn.2

theorem State.changeTill_changeTill (s : State) {n : Nat} (f g : Till → Till) (hn : 1 ≤ n ∧ n ≤ 96) :
    ((s.changeTill n f).changeTill n g).view = (s.changeTill n fun t => g (f t)).view := by
  rw [State.changeTill_view _ _ _ hn.1 hn.2, State.changeTill_view _ _ _ hn.1 hn.2, State.changeTill_view _ _ _ hn.1 hn.2,
    State.till_changeTill _ _ hn]
  dsimp only
  rw [Function.update_idem]

/-- The till record that a bag has joined (R52, R57, R58). -/
def Till.joined (b value : Nat) (t : Till) : Till :=
  { t with
    bags := t.bags ++ [b], pickups := t.pickups + value
    exposure := { t with bags := t.bags ++ [b], pickups := t.pickups + value }.exposureOf }

theorem State.joinSession_eq (s : State) (n b value : Nat) : s.joinSession n b value = s.changeTill n (Till.joined b value) := rfl

theorem State.drainTill_leads {day : Bool} (s : State) {n b : Nat} {x : Bag} (amount takings : Nat) (hn : 1 ≤ n ∧ n ≤ 96)
    (hb : s.bag b = none) (h256 : b < 256) (hx : x.core.Fresh s.view) (ht : x.till = some n) (hs : (s.till n).state = .opened) :
    s.Leads day ((s.setBag b (some x)).drainTill n b amount takings) := by
  unfold State.drainTill
  dsimp only
  generalize hs1 : ((s.setBag b (some x)).changeTill n fun t => { t with takings := takings }).joinSession n b amount = s1
  have h1 : s.Leads day s1 := by
    rw [← hs1, State.joinSession_eq]
    have hjoin : s.Leads day ((s.setBag b (some x)).changeTill n fun t => Till.joined b amount { t with takings := takings }) :=
      s.join_leads hn hb h256 hx ht (.inl hs) rfl
    exact hjoin.congr ((s.setBag b (some x)).changeTill_changeTill (fun t => { t with takings := takings }) (Till.joined b amount) hn)
  have hstate : (s1.till n).state = .opened := by
    rw [← hs1, State.joinSession, State.till_changeTill _ _ hn, State.till_changeTill _ _ hn]
    exact hs
  have hleave : (s1.leaveDue n).till n = { s1.till n with onList := false } :=
    s1.till_changeTill (fun t => { t with onList := false }) hn
  exact (h1.trans (s1.leaveDue_leads hn)).trans
    ((s1.leaveDue n).drain_till_leads hn (by rw [hleave]; exact hstate) (by rw [hleave]))

theorem askCloseTill_leaves (n q amount takings : Nat) (s : State) :
    (askCloseTill n q amount takings s).Leaves fun t => s.view.Works t.view := by
  unfold askCloseTill
  split
  · trivial
  · rename_i hrange
    simp only [not_or, Bool.not_eq_false, tillOk_iff] at hrange
    split
    · trivial
    · rename_i hstate
      split
      · trivial
      · rename_i b hb
        obtain ⟨hseal, hnone, h240⟩ := State.declarationSlot_ok hb
        exact (s.drainTill_leads amount takings hrange.1 hnone (by omega) (State.declaredBag_fresh _ _ hseal) rfl
          (not_not.1 (not_or.1 hstate).2)).works

end Sys2Proof.Machine
end

section
/-! PROOFS. The requests of BR as acts on the view. -/

namespace Sys2Proof.Machine

theorem askDeclareOfficeBag_leaves (q v : Nat) (s : State) : (askDeclareOfficeBag q v s).Leaves fun t => s.view.Works t.view := by
  unfold askDeclareOfficeBag
  split
  · trivial
  · split
    · trivial
    · split
      · trivial
      · rename_i b hb
        obtain ⟨hseal, hnone, h240⟩ := State.declarationSlot_ok hb
        exact (s.setBag_created hnone (by omega) (State.declaredBag_fresh _ _ hseal) rfl).works

/-! ### Orphans -/

/-- An orphan's slot is freed (R95). -/
theorem State.freeOrphanSlot_leads {day : Bool} (s : State) {b : Nat} {x : Bag} (hx : s.bag b = some x) (ho : x.state = .orphan) :
    s.Leads day (s.freeOrphanSlot b) := by
  have h1 : s.Leads day (s.setBag b none) :=
    .of_change (.removed b x.core (State.view_bag hx) ho) (s.setBag_view b none (s.bag_some_lt _ _ hx))
  unfold State.freeOrphanSlot
  dsimp only
  split
  · exact h1.congr (State.decideShutter_view _)
  · exact h1

theorem State.freeGeneral_some {s : State} {g : Nat} (h : s.freeGeneral = some g) : s.bag g = none ∧ g < 240 := by
  have h1 := List.mem_of_find?_eq_some h
  have h2 := List.find?_some h
  exact ⟨by simpa using h2, by simpa using h1⟩

/-- A bag joins a till's session before or behind its place in the queue. -/
theorem State.joinSession_enqueueTail_view (s : State) {n : Nat} (b g v : Nat) (c : QueueClass) (hn : 1 ≤ n ∧ n ≤ 96) :
    ((s.enqueueTail g c).joinSession n b v).view = ((s.joinSession n b v).enqueueTail g c).view := by
  have htill : (s.enqueueTail g c).till n = s.till n := State.till_congr (by simp) n
  rw [State.joinSession_eq, State.joinSession_eq, State.changeTill_view _ _ _ hn.1 hn.2, State.enqueueTail_view, State.enqueueTail_view,
    State.changeTill_view _ _ _ hn.1 hn.2, htill]
  cases c <;> rfl

theorem State.entryClass_joinSession (s : State) {n : Nat} (b v : Nat) (hn : 1 ≤ n ∧ n ≤ 96) :
    (s.joinSession n b v).entryClass (some n) = s.entryClass (some n) := by
  unfold State.entryClass
  dsimp only
  rw [State.joinSession_eq, State.till_changeTill _ _ hn]
  rfl

/-- An orphan is adopted: its new record is QUEUED and joined to its till (R58, R96). -/
theorem State.adopt_leads {day : Bool} (s : State) {b g : Nat} {k : BagKind} {till : Option Nat} {v q : Nat} {x : Bag} (hx : s.bag b = some x)
    (ho : x.state = .orphan) (hb : 240 ≤ b) (hg : s.bag g = none ∧ g < 240) (hq : s.liveSeal q = none)
    (ht : ∀ n, till = some n → (1 ≤ n ∧ n ≤ 96) ∧ ((s.till n).state = .opened ∨ (s.till n).state = .draining)) :
    s.Leads day (s.adopt b g k till v q) := by
  have hfresh : (declaredBag k till q v s.oc.clock).core.Fresh s.view := State.declaredBag_fresh _ _ hq
  have hgb : b ≠ g := by omega
  unfold State.adopt
  dsimp only
  generalize hs1 : s.setBag g (some (declaredBag k till q v s.oc.clock)) = s1
  have hg1 : s1.bag g = some (declaredBag k till q v s.oc.clock) := by
    rw [← hs1]
    exact State.bag_setBag_same _ _ _ (by omega)
  have hb2 : (s1.enqueueTail g (s1.entryClass till)).bag b = some x := by
    have : s1.bag b = some x := by
      rw [← hs1, State.bag_setBag_other _ _ _ _ hgb]
      exact hx
    rw [← this]
    unfold State.enqueueTail
    dsimp only
    have hc : ∀ c : QueueClass, (s1.changeBag g fun x => { x with state := .queued, changed := s1.oc.clock, queueClass := some c, bypass := some 0 }).bag b = s1.bag b :=
      fun c => by rw [State.bag_changeBag, if_neg hgb]
    cases s1.entryClass till <;> exact hc _
  cases till with
  | none =>
    have h1 : s.Leads day s1 := hs1 ▸ s.setBag_created hg.1 (by omega) hfresh rfl
    exact (h1.trans (s1.enqueueTail_leads hg1 (.inl rfl))).trans (State.freeOrphanSlot_leads _ hb2 ho)
  | some n =>
    obtain ⟨hn, hs⟩ := ht n rfl
    have hjoin : s.Leads day (s1.joinSession n g v) := by
      rw [← hs1]
      exact s.join_leads hn hg.1 (by omega) hfresh rfl hs rfl
    have hgj : (s1.joinSession n g v).bag g = some (declaredBag k (some n) q v s.oc.clock) :=
      (State.bag_congr (by simp) g).trans hg1
    have hqueue : s.Leads day ((s1.enqueueTail g (s1.entryClass (some n))).joinSession n g v) := by
      refine (hjoin.trans ((s1.joinSession n g v).enqueueTail_leads hgj (.inl rfl))).congr ?_
      rw [State.joinSession_enqueueTail_view _ _ _ _ _ hn]
      exact congrArg (fun c => ((s1.joinSession n g v).enqueueTail g c).view) (s1.entryClass_joinSession g v hn).symm
    refine (hqueue.trans (State.evaluate_leads _ n s.minute)).trans (State.freeOrphanSlot_leads _ ?_ ho)
    exact (State.bag_congr (by simp) b).trans hb2

theorem State.adoptionRefusal_none {s : State} {n : Nat} (h : s.adoptionRefusal (some n) = none) :
    (s.till n).state = .opened ∨ (s.till n).state = .draining := by
  unfold State.adoptionRefusal at h
  dsimp only at h
  split at h
  · exact .inl ‹_›
  · split at h
    · exact .inr ‹_›
    · simp at h

theorem adoptedKind_till {kind : Nat} {till : Option Nat} {k : BagKind} {n : Nat} (h : adoptedKind kind till = some (k, some n)) :
    1 ≤ n ∧ n ≤ 96 := by
  unfold adoptedKind at h
  split at h
  · split at h
    · simp only [Option.some.injEq, Prod.mk.injEq] at h
      obtain ⟨-, rfl⟩ := h
      exact tillOk_iff.1 ‹_›
    · simp at h
  · simp at h
  · simp at h

theorem askAdoptBag_leaves (b kind : Nat) (till : Option Nat) (v q : Nat) (s : State) :
    (askAdoptBag b kind till v q s).Leaves fun t => s.view.Works t.view := by
  unfold askAdoptBag
  split
  · trivial
  · rename_i k n hk
    split
    · trivial
    · rename_i hrange
      split
      · trivial
      · rename_i x hx
        split
        · trivial
        · rename_i ho
          split
          · trivial
          · split
            · trivial
            · rename_i hlive
              split
              · trivial
              · rename_i hadopt
                split
                · trivial
                · rename_i g hg
                  refine State.Leads.works (s.adopt_leads hx (not_not.1 ho) (by omega) (State.freeGeneral_some hg)
                    (by simpa [State.sealLive] using hlive) fun m hm => ?_)
                  subst hm
                  exact ⟨adoptedKind_till hk, State.adoptionRefusal_none hadopt⟩

theorem State.writeOffOrphan_leads {day : Bool} (s : State) {b : Nat} {x : Bag} (hx : s.bag b = some x) (ho : x.state = .orphan) (g : Option Nat)
    (hg : ∀ k, g = some k → s.bag k = none ∧ k < 240) : s.Leads day (s.writeOffOrphan b x g) := by
  unfold State.writeOffOrphan
  dsimp only
  cases g with
  | none => exact (s.tellOc_leads (fun q => { q with lostBags := q.lostBags + 1 }) rfl).trans (State.freeOrphanSlot_leads _ hx ho)
  | some k =>
    obtain ⟨hk, h240⟩ := hg k rfl
    have hkb : b ≠ k := fun h => by simp [← h, hx] at hk
    have h1 : s.Leads day (s.setBag k (some { newBag .unknown .lost s.oc.clock with sealNo := x.sealNo.filter fun n => !s.sealLive n })) :=
      s.setBag_created hk (by omega) (State.fresh rfl (.inr (.inr (.inl rfl))) (fun h => by simp [newBag] at h) fun n hn _ => by
        have := Option.mem_filter_iff.1 (Option.mem_def.2 hn)
        simpa [State.sealLive] using this.2) rfl
    refine (h1.trans (State.tellOc_leads _ (fun q => { q with lostBags := q.lostBags + 1 }) rfl)).trans (State.freeOrphanSlot_leads _ ?_ ho)
    show (s.setBag k _).bag b = some x
    rw [State.bag_setBag_other _ _ _ _ hkb]
    exact hx

theorem askWriteOffBag_leaves (b op : Nat) (s : State) : (askWriteOffBag b op s).Leaves fun t => s.view.Works t.view := by
  unfold askWriteOffBag
  split
  · trivial
  · split
    · trivial
    · split
      · trivial
      · rename_i x hx
        split
        · rename_i hs
          refine (s.loseBag_leads b fun y hy => ?_).works
          obtain rfl := Option.some.inj (hx.symm.trans hy)
          exact .inl hs
        · rename_i hs
          split
          · trivial
          · refine (s.loseBag_leads b fun y hy => ?_).works
            obtain rfl := Option.some.inj (hx.symm.trans hy)
            exact .inr (.inl hs)
        · rename_i hs
          exact (s.writeOffOrphan_leads hx hs _ fun k hk => State.freeGeneral_some hk).works
        · trivial

theorem askRecountBag_leaves (b : Nat) (s : State) : (askRecountBag b s).Leaves fun t => s.view.Works t.view := by
  unfold askRecountBag
  split
  · trivial
  · split
    · trivial
    · rename_i x hx
      split
      · trivial
      · rename_i hs
        dsimp only
        have h1 : (s.changeBag b fun y => { y with attempts := some 0 }).view = s.view := s.changeBag_view_same b _ fun _ => rfl
        have hb : (s.changeBag b fun y => { y with attempts := some 0 }).bag b = some { x with attempts := some 0 } := by
          rw [State.bag_changeBag, if_pos rfl, hx]
          rfl
        have hc : s.entryClass x.till = (s.changeBag b fun y => { y with attempts := some 0 }).entryClass x.till := by
          unfold State.entryClass
          cases x.till with
          | none => rfl
          | some n =>
            dsimp only
            rw [State.till_congr (t := s.changeBag b fun y => { y with attempts := some 0 }) (s := s) (by simp) n]
        rw [hc]
        exact ((State.Leads.of_view h1).trans (State.enqueueHead_leads _ hb (.inr (not_not.1 hs)))).works

end Sys2Proof.Machine
end

section
/-! PROOFS. The requests of CHU as acts on the view. -/

namespace Sys2Proof.Machine

theorem consignmentOk_iff {c : Nat} : consignmentOk c = true ↔ 1 ≤ c ∧ c ≤ 8 := by simp

theorem bagSlotOk_iff {b : Nat} : bagSlotOk b = true ↔ b ≤ 255 := by simp

theorem askNewConsignment_leaves (s : State) : (askNewConsignment s).Leaves fun t => s.view.Works t.view := by
  unfold askNewConsignment
  split
  · trivial
  · split
    · trivial
    · rename_i c hc
      have hmem := (mem_upTo 8 c).1 (List.mem_of_find?_eq_some hc)
      refine State.Leads.works (.of_change (.emptied c) ?_)
      exact s.setConsignment_view c _ hmem.1 hmem.2

/-! ### ASSEMBLE BAG -/

theorem insertLine_perm (l : ContentLine) (ls : List ContentLine) : (insertLine l ls).Perm (l :: ls) := by
  induction ls with
  | nil => exact .refl _
  | cons m ms ih =>
    unfold insertLine
    split
    · exact .refl _
    · exact (ih.cons m).trans (List.Perm.swap l m ms)

theorem sortLines_perm (ls : List ContentLine) : (sortLines ls).Perm ls := by
  induction ls with
  | nil => exact .refl _
  | cons l ls ih => exact (insertLine_perm l _).trans (ih.cons l)

/-- The content lines of a request name each slot once. -/
theorem nodup_contentLines {ls : List AssemblyLine} (h : (ls.map AssemblyLine.slot).Nodup) : ((contentLines ls).map ContentLine.slot).Nodup := by
  refine ((sortLines_perm _).map ContentLine.slot).nodup_iff.2 ?_
  rwa [List.map_map]

/-- Lines that name each slot once, each within a limit, hold of every slot no more than the limit. -/
theorem heldBy_le_limit {ls : List ContentLine} (hn : (ls.map ContentLine.slot).Nodup) {limit : Source → Nat → Nat}
    (h : ∀ l ∈ ls, l.pieces ≤ limit l.source l.slot) (a : Source) (d : Nat) : heldBy ls a d ≤ limit a d := by
  rcases heldBy_of_nodup hn d with h0 | ⟨l, hl, rfl, hl'⟩
  · rw [h0]
    exact Nat.zero_le _
  · rw [hl']
    split
    · rename_i ha
      exact ha ▸ h l hl
    · exact Nat.zero_le _

theorem State.assemblyLimit_eq (s : State) (a : Source) (d : Nat) :
    s.assemblyLimit a d = (s.view.slot d).area a - reservedIn s.view.reservations a d := by
  cases a <;> rfl

theorem State.assemble_leads {day : Bool} (s : State) {c b : Nat} {ls : List ContentLine} (hc : 1 ≤ c ∧ c ≤ 8) (hb : s.bag b = none)
    (h256 : b < 256) (hn : (ls.map ContentLine.slot).Nodup) (hl : ∀ l ∈ ls, l.pieces ≤ s.assemblyLimit l.source l.slot)
    (hr : s.st.reservations.length < 16) : s.Leads day (s.assemble c b ls) := by
  refine .of_change (.assembled c b (assemblingBag c (s.linesValue ls) ls s.oc.clock).core
    { owner := .bag b, lines := ls, created := s.oc.clock, expiry := none } (State.view_bag_none hb) rfl rfl rfl rfl rfl rfl rfl hn
    (fun d a hres => ?_) hr) ?_
  · have := heldBy_le_limit hn hl a d
    rw [s.assemblyLimit_eq] at this
    show _ + heldBy ls a d ≤ _
    omega
  · unfold State.assemble
    dsimp only
    generalize hs2 : (s.setBag b (some (assemblingBag c (s.linesValue ls) ls s.oc.clock))).placeReservation
      { owner := .bag b, lines := ls, created := s.oc.clock, expiry := none } = s2
    have hv2 : s2.view = { s.view with
        bag := Function.update s.view.bag b (some (assemblingBag c (s.linesValue ls) ls s.oc.clock).core)
        reservations := s.view.reservations ++ [{ owner := .bag b, lines := ls, created := s.oc.clock, expiry := none }] } := by
      rw [← hs2, State.placeReservation_view, State.setBag_view _ _ _ h256]
      rfl
    have hx : s2.consignment c = s.consignment c := by rw [← hs2]; rfl
    unfold State.changeConsignment
    rw [State.setConsignment_view _ _ _ hc.1 hc.2, hv2, hx]
    dsimp only
    have hin : Function.update s.view.inbound c (s.consignment c).inbound = s.view.inbound := Function.update_eq_self c s.view.inbound
    rw [hin]
    rfl

theorem askAssembleBag_leaves (c : Nat) (ls : List AssemblyLine) (s : State) :
    (askAssembleBag c ls s).Leaves fun t => s.view.Works t.view := by
  unfold askAssembleBag
  dsimp only
  split
  · trivial
  · rename_i hrange
    simp only [not_or, Bool.not_eq_false, consignmentOk_iff] at hrange
    have hn : (ls.map AssemblyLine.slot).Nodup := by
      have := hrange.2
      unfold State.assemblyLinesOk at this
      simp only [Bool.and_eq_true, decide_eq_true_eq] at this
      exact this.2
    split
    · trivial
    · split
      · trivial
      · split
        · trivial
        · split
          · trivial
          · split
            · trivial
            · rename_i hfull
              split
              · trivial
              · rename_i b hb
                split
                · trivial
                · rename_i hshort
                  obtain ⟨hnone, h240⟩ := State.freeGeneral_some hb
                  refine (s.assemble_leads hrange.1 hnone (by omega) (nodup_contentLines hn) (fun l hl => ?_) (by omega)).works
                  have := List.find?_eq_none.1 hshort l hl
                  simpa using this

/-! ### SEAL BAG, DISCARD BAG, UNSEAL BAG -/

theorem State.freeOutbound_view (s : State) {b : Nat} (x : Bag) (h256 : b < 256) :
    (s.freeOutbound b x).view =
      { s.view with outbound := s.view.unlist b x.consignment, bag := Function.update s.view.bag b none } := by
  unfold State.freeOutbound
  dsimp only
  rw [State.setBag_view _ _ _ h256]
  cases x.consignment with
  | none => rfl
  | some c =>
    dsimp only
    rw [State.changeConsignment_view _ _ _ ⟨rfl, rfl⟩]
    dsimp only
    have hin : Function.update s.view.inbound c (s.consignment c).inbound = s.view.inbound := Function.update_eq_self c s.view.inbound
    rw [hin]
    rfl

theorem State.sealBag_leads {day : Bool} (s : State) {b q : Nat} {x : Bag} (hx : s.bag b = some x) (hk : x.kind = .outbound)
    (hs : x.state = .assembling) (hq : s.liveSeal q = none) (hfit : ∀ l ∈ x.lines, (s.slot l.slot).dispatch + l.pieces ≤ pieceLimit) :
    s.Leads day (s.sealBag b q x.lines) := by
  have h256 := s.bag_some_lt _ _ hx
  refine .of_change (.sealed b q x.core (s.enterDispatch x.lines).slot (State.view_bag hx) h256 hk hs (fun c y hy ho => ?_) hfit
    (fun d h1 h2 => ?_) fun d hd => ?_) ?_
  · obtain ⟨z, hz, rfl⟩ := State.view_bag_eq_some hy
    exact State.liveSeal_eq_none.1 hq c z hz ho
  · rw [State.enterDispatch, State.slot_moveLines _ _ _ _ _ h1 h2]
    exact StockSlot.moveLines_enter x.lines d (s.slot d)
  · rw [State.slot_outside _ _ hd]
    exact (State.slot_outside _ _ hd).symm
  · have hd : (s.enterDispatch x.lines).view = { s.view with slot := (s.enterDispatch x.lines).slot } := State.moveLines_view ContentLine.slot _ x.lines s
    have hw : ((s.enterDispatch x.lines).freeReservation (.bag b)).view =
        { s.view with slot := (s.enterDispatch x.lines).slot, reservations := s.view.without (.bag b) } := by
      rw [State.freeReservation_view, hd]
      rfl
    unfold State.sealBag
    rw [State.changeBag_view _ b _ (fun x => { x with sealNo := some q, state := .sealed }) fun _ => rfl,
      View.changeBag_of_some (x := x.core) (by rw [hw]; exact State.view_bag hx), hw]

theorem askSealBag_leaves (b q : Nat) (s : State) : (askSealBag b q s).Leaves fun t => s.view.Works t.view := by
  unfold askSealBag
  split
  · trivial
  · split
    · trivial
    · rename_i x hx
      split
      · trivial
      · rename_i hkind
        simp only [not_or, not_not] at hkind
        split
        · trivial
        · rename_i hlive
          split
          · trivial
          · rename_i hfull
            refine ((s.sealBag_leads hx hkind.1 hkind.2 (by simpa [State.sealLive] using hlive) fun l hl => ?_).trans
              (State.retryPasses_leads _ _)).works
            have := List.find?_eq_none.1 hfull l hl
            simpa using this

theorem askDiscardBag_leaves (b : Nat) (s : State) : (askDiscardBag b s).Leaves fun t => s.view.Works t.view := by
  unfold askDiscardBag
  split
  · trivial
  · split
    · trivial
    · rename_i x hx
      split
      · trivial
      · rename_i hkind
        simp only [not_or, not_not] at hkind
        refine State.Leads.works (.of_change (.discarded b x.core (State.view_bag hx) hkind.1 hkind.2) ?_)
        rw [State.freeOutbound_view _ _ (s.bag_some_lt _ _ hx), State.freeReservation_view]
        rfl

theorem State.unseal_leads {day : Bool} (s : State) {b : Nat} {x : Bag} (hx : s.bag b = some x) (hk : x.kind = .outbound)
    (hs : x.state = .sealed) (hfit : ∀ l ∈ x.lines, (s.slot l.slot).area l.source + l.pieces ≤ pieceLimit) :
    s.Leads day ((s.backFromDispatch x.lines).freeOutbound b x) := by
  have h256 := s.bag_some_lt _ _ hx
  refine .of_change (.unsealed b x.core (s.backFromDispatch x.lines).slot (State.view_bag hx) h256 hk hs hfit
    (fun d h1 h2 => ?_) fun d hd => ?_) ?_
  · rw [State.backFromDispatch, State.slot_moveLines _ _ _ _ _ h1 h2]
    exact StockSlot.moveLines_back x.lines d (s.slot d)
  · rw [State.slot_outside _ _ hd]
    exact (State.slot_outside _ _ hd).symm
  · have hd : (s.backFromDispatch x.lines).view = { s.view with slot := (s.backFromDispatch x.lines).slot } := State.moveLines_view ContentLine.slot _ x.lines s
    rw [State.freeOutbound_view _ _ h256, hd]
    rfl

theorem askUnsealBag_leaves (b op : Nat) (s : State) : (askUnsealBag b op s).Leaves fun t => s.view.Works t.view := by
  unfold askUnsealBag
  split
  · trivial
  · split
    · trivial
    · split
      · trivial
      · rename_i x hx
        split
        · trivial
        · rename_i hkind
          simp only [not_or, not_not] at hkind
          split
          · trivial
          · split
            · trivial
            · rename_i hfull
              refine (s.unseal_leads hx hkind.1 hkind.2 fun l hl => ?_).works
              have := List.find?_eq_none.1 hfull l hl
              simpa using this

/-! ### ATTACH BAG, EXPECT DELIVERY -/

theorem Consignment.join_lists (x : Consignment) (k : BagKind) (b : Nat) :
    (x.join k b).outbound = (if k = .outbound then x.outbound ++ [b] else x.outbound) ∧
      (x.join k b).inbound = (if k = .outbound then x.inbound else x.inbound ++ [b]) := by
  unfold Consignment.join
  split <;> exact ⟨rfl, rfl⟩

/-- A bag joins a list of a consignment, as the view sees it. -/
theorem State.join_view (s : State) {c : Nat} (k : BagKind) (b : Nat) (hc : 1 ≤ c ∧ c ≤ 8) :
    (s.changeConsignment c fun z => z.join k b).view =
      { s.view with
        outbound := if k = .outbound then Function.update s.view.outbound c (s.view.outbound c ++ [b]) else s.view.outbound
        inbound := if k = .outbound then s.view.inbound else Function.update s.view.inbound c (s.view.inbound c ++ [b]) } := by
  unfold State.changeConsignment
  rw [State.setConsignment_view _ _ _ hc.1 hc.2, ((s.consignment c).join_lists k b).1, ((s.consignment c).join_lists k b).2]
  split
  · rw [show (s.consignment c).inbound = s.view.inbound c from rfl, Function.update_eq_self]
    rfl
  · rw [show (s.consignment c).outbound = s.view.outbound c from rfl, Function.update_eq_self]
    rfl

theorem askAttachBag_leaves (b c : Nat) (s : State) : (askAttachBag b c s).Leaves fun t => s.view.Works t.view := by
  unfold askAttachBag
  split
  · trivial
  · rename_i hrange
    simp only [not_or, Bool.not_eq_false, consignmentOk_iff] at hrange
    split
    · trivial
    · rename_i x hx
      dsimp only
      split
      · trivial
      · split
        · trivial
        · rename_i hatt
          simp only [Bag.attachable, Bool.not_eq_false, decide_eq_true_eq] at hatt
          split
          · trivial
          · split
            · trivial
            · split
              · trivial
              · refine State.Leads.works (.of_change (.attached c b x.core (State.view_bag hx) hatt.1 ?_ ?_) ?_)
                · rcases hatt.2 with ⟨-, h⟩ | ⟨-, h⟩ <;> simp [Bag.core, h]
                · exact hatt.2.imp And.left And.left
                · rw [State.join_view _ _ _ hrange.2, State.changeBag_view s b _ (fun z => { z with consignment := some c }) fun _ => rfl,
                    View.changeBag_of_some (State.view_bag hx)]
                  rfl

theorem askExpectDelivery_leaves (c q v : Nat) (s : State) : (askExpectDelivery c q v s).Leaves fun t => s.view.Works t.view := by
  unfold askExpectDelivery
  dsimp only
  split
  · trivial
  · rename_i hrange
    simp only [not_or, Bool.not_eq_false, consignmentOk_iff] at hrange
    split
    · trivial
    · split
      · trivial
      · split
        · trivial
        · split
          · trivial
          · split
            · trivial
            · rename_i b hb
              obtain ⟨hseal, hnone, h240⟩ := State.declarationSlot_ok hb
              have hfresh : (expectedBag c q v s.oc.clock).core.Fresh s.view :=
                State.fresh rfl (.inr (.inr (.inr rfl))) (fun h => by simp [expectedBag, newBag] at h) fun m hm _ => by
                  obtain rfl : q = m := by simpa [expectedBag] using hm
                  exact hseal
              refine State.Leads.works (.of_change (.expected c b _ (State.view_bag_none hnone) hfresh rfl rfl rfl) ?_)
              rw [State.join_view _ _ _ hrange.1, State.setBag_view _ _ _ (by omega)]
              rfl

/-! ### SCHEDULE COLLECTION, CANCEL CONSIGNMENT -/

theorem askScheduleCollection_leaves (c u r : Nat) (e l : OfficeTime) (s : State) :
    (askScheduleCollection c u r e l s).Leaves fun t => s.view.Works t.view := by
  unfold askScheduleCollection
  dsimp only
  split
  · trivial
  · split
    · trivial
    · split
      · trivial
      · split
        · trivial
        · split
          · trivial
          · split
            · trivial
            · split
              · trivial
              · exact State.Leads.works (.of_view (s.changeConsignment_view_same c _ rfl rfl))

theorem State.loseBag_setOuter (s : State) (b : Nat) (c : Csc) (u : Chu) : (s.setOuter c u).loseBag b = (s.loseBag b).setOuter c u := by
  have hb : (s.setOuter c u).bag b = s.bag b := rfl
  have hm : (s.setOuter c u).moveBag b .lost = (s.moveBag b .lost).setOuter c u := by
    unfold State.moveBag State.changeBag
    rw [hb]
    cases s.bag b <;> rfl
  unfold State.loseBag
  dsimp only
  rw [hb, hm]
  cases ((s.bag b).getD default).till with
  | none => rfl
  | some n =>
    exact State.reconcile_setOuter ((s.moveBag b .lost).tellOc fun q =>
      { q with lostBags := q.lostBags + 1, lostValue := q.lostValue + ((s.bag b).getD default).declared.getD 0 }) n c u

theorem State.foldl_loseBag_setOuter (bs : List Nat) (s : State) (c : Csc) (u : Chu) :
    bs.foldl State.loseBag (s.setOuter c u) = (bs.foldl State.loseBag s).setOuter c u := by
  induction bs generalizing s with
  | nil => rfl
  | cons b bs ih => rw [List.foldl_cons, List.foldl_cons, State.loseBag_setOuter, ih]

/-- Bags EXPECTED or LOST that are lost stay so. -/
theorem State.foldl_loseBag_leads {day : Bool} (s : State) (bs : List Nat)
    (h : ∀ b ∈ bs, ∀ x, s.bag b = some x → x.state = .expected ∨ x.state = .lost) : s.Leads day (bs.foldl State.loseBag s) := by
  refine .foldl_of (P := fun u => ∀ b ∈ bs, ∀ x, u.bag b = some x → x.state = .expected ∨ x.state = .lost)
    (fun u b hb hu => ⟨u.loseBag_leads b fun x hx => .inr (hu b hb x hx), fun c hc x hx => ?_⟩) s h
  have hbag : (u.loseBag b).bag c = (u.moveBag b .lost).bag c := by
    refine State.bag_congr ?_ c
    unfold State.loseBag
    dsimp only
    cases ((u.bag b).getD default).till with
    | none => rfl
    | some n => simp
  rw [hbag, State.bag_moveBag] at hx
  split at hx
  · obtain ⟨y, -, rfl⟩ := Option.map_eq_some_iff.1 hx
    exact .inr rfl
  · exact hu c hc x hx

theorem State.cancelConsignment_leads {day : Bool} (s : State) (c : Nat) : s.Leads day (s.cancelConsignment c) := by
  unfold State.cancelConsignment
  dsimp only
  generalize hs1 : (s.consignment c).outbound.foldl (fun u b => u.changeBag b fun x => { x with consignment := none }) s = s1
  have hv1 : s1.view = { s.view with bag := s.view.changeBags (s.view.outbound c) fun x => { x with consignment := none } } := by
    rw [← hs1]
    exact State.foldl_changeBag_view _ _ (fun x => { x with consignment := none }) (fun _ => rfl) (fun _ => rfl) s
  have hchu : s1.chu = s.chu := by
    rw [← hs1]
    exact foldl_keeps State.chu _ (fun u b => by simp) _ _
  generalize hf : (fun z : Consignment => { z with state := .cancelled, outbound := [] }) = f
  have hset : ∀ u : State, u.chu = s.chu → u.changeConsignment c f = u.setOuter u.csc (s.changeConsignment c f).chu := by
    intro u hu
    unfold State.changeConsignment State.setConsignment State.consignment State.setOuter
    rw [hu]
  have hlost : ((s.bagsIn (s.consignment c).inbound .expected).foldl State.loseBag s1).chu = s.chu :=
    (foldl_keeps State.chu _ (fun u b => by simp) _ _).trans hchu
  have hcsc : ((s.bagsIn (s.consignment c).inbound .expected).foldl State.loseBag s1).csc = s1.csc :=
    foldl_keeps State.csc _ (fun u b => by simp) _ _
  rw [hset _ hlost, hcsc, ← State.foldl_loseBag_setOuter, ← hset _ hchu]
  have hun : s.Leads day (s1.changeConsignment c f) := by
    refine .of_change (.unattached c) ?_
    rw [State.changeConsignment_view _ _ _ (by subst hf; exact ⟨rfl, rfl⟩), hv1, State.consignment_congr hchu, ← hf]
    dsimp only
    have hin : Function.update s.view.inbound c (s.consignment c).inbound = s.view.inbound := Function.update_eq_self c s.view.inbound
    rw [hin]
  refine hun.trans (State.foldl_loseBag_leads _ _ fun b hb x hx => .inl ?_)
  have hx' : s1.view.bag b = some x.core := State.view_bag hx
  have hst := (State.mem_bagsIn.1 hb).2
  rw [hv1] at hx'
  dsimp only [View.changeBags] at hx'
  obtain ⟨y, hy, hys⟩ := Option.map_eq_some_iff.1 hst
  rw [State.view_bag hy] at hx'
  have : x.core.state = y.core.state := by
    split at hx'
    · rw [Option.map_some, Option.some.injEq] at hx'
      rw [← hx']
    · rw [Option.some.inj hx']
  exact this.trans hys

theorem askCancelConsignment_leaves (c : Nat) (s : State) : (askCancelConsignment c s).Leaves fun t => s.view.Works t.view := by
  unfold askCancelConsignment
  dsimp only
  split
  · trivial
  · split
    · trivial
    · split
      · trivial
      · split
        · trivial
        · exact (s.cancelConsignment_leads c).works

end Sys2Proof.Machine
end

section
/-! PROOFS. A profile written and brought into its ranges. -/

namespace Sys2Proof.Machine

/-! ### Fields by class and slot -/

theorem classOf_setIfInBounds (v : Vector Nat 4) (c k x : Nat) :
    classOf (v.setIfInBounds c x) k = if k = c ∧ c < 4 then x else classOf v k := by
  unfold classOf
  rw [Vector.getElem?_setIfInBounds]
  by_cases h : c = k
  · subst h
    by_cases h4 : c < 4 <;> simp [h4]
  · simp [h, Ne.symm h]

theorem classOf_zipWith_min (v w : Vector Nat 4) (c : Nat) (h : c < 4) :
    classOf (Vector.zipWith min v w) c = min (classOf v c) (classOf w c) := by
  simp [classOf, h]

theorem classSlotOf_putClassSlot (v : Vector (Vector Nat 12) 4) (c d x k e : Nat) :
    classSlotOf (putClassSlot v c d x) k e = x ∨ classSlotOf (putClassSlot v c d x) k e = classSlotOf v k e := by
  unfold classSlotOf putClassSlot
  rw [Vector.getElem?_setIfInBounds]
  by_cases h : c = k
  · subst h
    by_cases h4 : c < 4
    · simp only [h4, if_true, Option.getD_some, nth_putNth]
      split
      · exact .inl rfl
      · exact .inr rfl
    · refine .inr ?_
      simp [h4]
  · refine .inr ?_
    simp [h]

theorem classSlotOf_zipWith_max (v w : Vector (Vector Nat 12) 4) (c d : Nat) (h : c < 4) (h1 : 1 ≤ d) (h2 : d ≤ 12) :
    classSlotOf (Vector.zipWith (fun a b => Vector.zipWith max a b) v w) c d = max (classSlotOf v c d) (classSlotOf w c d) := by
  have hd : d - 1 < 12 := by omega
  simp [classSlotOf, nth, h, hd, show d ≠ 0 by omega]

/-- A class or slot that a field does not have reads as 0. -/
theorem classSlotOf_outside (v : Vector (Vector Nat 12) 4) {c d : Nat} (h : ¬ (c < 4 ∧ 1 ≤ d ∧ d ≤ 12)) : classSlotOf v c d = 0 := by
  unfold classSlotOf
  by_cases hd : 1 ≤ d ∧ d ≤ 12
  · have hc : ¬ c < 4 := fun hc => h ⟨hc, hd⟩
    simp [hc, nth, show d - 1 < 12 by omega]
  · exact nth_outside _ _ _ hd

/-! ### The ranges of a profile -/

/-- The fixed ranges of the fields, apart from the limits that one field sets on another (R36, first step). -/
structure Profile.Fixed (p : Profile) : Prop where
  threshold  : ∀ c, c < 4 → 1000 ≤ classOf p.threshold c ∧ classOf p.threshold c ≤ 10000000
  floatMin   : ∀ c, c < 4 → classOf p.floatMin c ≤ 10000000
  target     : ∀ c d, classSlotOf p.target c d ≤ 999
  cap        : ∀ c d, classSlotOf p.cap c d ≤ 999
  rates      : p.rateMin ≤ 1000000 ∧ p.rateInit ≤ 1000000 ∧ p.rateMax ≤ 1000000
  smoothing  : 1 ≤ p.smoothing ∧ p.smoothing ≤ 16
  floor      : ∀ d, nth 0 p.floor d ≤ 99999
  tolerance  : p.tolerance ≤ 100000
  pool       : p.poolThreshold ≤ 10000000
  hold       : 1 ≤ p.hold ∧ p.hold ≤ 60
  lockDelay  : 1 ≤ p.lockDelay ∧ p.lockDelay ≤ 60
  lockWindow : 1 ≤ p.lockWindow ∧ p.lockWindow ≤ 15
  collection : p.collectionDelay ≤ 60

theorem Profile.InRange.fixed {p : Profile} (h : p.InRange) : p.Fixed where
  threshold := h.threshold
  floatMin := h.floatMin
  target c d := by
    by_cases hcd : c < 4 ∧ 1 ≤ d ∧ d ≤ 12
    · obtain ⟨h1, h2⟩ := h.template c d hcd.1 hcd.2.1 hcd.2.2
      exact h1.trans h2
    · rw [classSlotOf_outside _ hcd]
      exact Nat.zero_le _
  cap c d := by
    by_cases hcd : c < 4 ∧ 1 ≤ d ∧ d ≤ 12
    · exact (h.template c d hcd.1 hcd.2.1 hcd.2.2).2
    · rw [classSlotOf_outside _ hcd]
      exact Nat.zero_le _
  rates := ⟨h.rates.1.trans (h.rates.2.1.trans h.rates.2.2), h.rates.2.1.trans h.rates.2.2, h.rates.2.2⟩
  smoothing := h.smoothing
  floor d := by
    by_cases hd : 1 ≤ d ∧ d ≤ 12
    · exact h.floor d hd.1 hd.2
    · rw [nth_outside _ _ _ hd]
      exact Nat.zero_le _
  tolerance := h.tolerance
  pool := h.pool
  hold := h.hold
  lockDelay := h.lockDelay
  lockWindow := h.lockWindow
  collection := h.collection

/-- One field written in its fixed range (R36, first step). -/
theorem Profile.Fixed.set {p : Profile} (h : p.Fixed) (f c d x : Nat) : (p.set f c d (fixedRange f x)).Fixed := by
  unfold Profile.set
  split
  · refine { h with threshold := fun k hk => ?_ }
    rw [classOf_setIfInBounds]
    split
    · exact clampTo_range _ _ _ (by decide)
    · exact h.threshold k hk
  · exact { h with }
  · refine { h with floatMin := fun k hk => ?_ }
    rw [classOf_setIfInBounds]
    split
    · exact Nat.min_le_right _ _
    · exact h.floatMin k hk
  · refine { h with target := fun k e => ?_ }
    rcases classSlotOf_putClassSlot p.target c d (fixedRange 3 x) k e with he | he <;> rw [he]
    · exact Nat.min_le_right _ _
    · exact h.target k e
  · refine { h with cap := fun k e => ?_ }
    rcases classSlotOf_putClassSlot p.cap c d (fixedRange 4 x) k e with he | he <;> rw [he]
    · exact Nat.min_le_right _ _
    · exact h.cap k e
  · exact { h with rates := ⟨h.rates.1, Nat.min_le_right _ _, h.rates.2.2⟩ }
  · exact { h with rates := ⟨Nat.min_le_right _ _, h.rates.2⟩ }
  · exact { h with rates := ⟨h.rates.1, h.rates.2.1, Nat.min_le_right _ _⟩ }
  · exact { h with smoothing := clampTo_range _ _ _ (by decide) }
  · refine { h with floor := fun e => ?_ }
    rw [nth_putNth]
    split
    · exact Nat.min_le_right _ _
    · exact h.floor e
  · exact { h with tolerance := Nat.min_le_right _ _ }
  · exact { h with pool := Nat.min_le_right _ _ }
  · exact { h with hold := clampTo_range _ _ _ (by decide) }
  · exact { h with lockDelay := clampTo_range _ _ _ (by decide) }
  · exact { h with lockWindow := clampTo_range _ _ _ (by decide) }
  · exact { h with collection := Nat.min_le_right _ _ }
  · exact { h with }
  · exact h

theorem Profile.Fixed.write {p : Profile} (h : p.Fixed) (items : List ProfileItem) : (p.write items).Fixed := by
  unfold Profile.write
  induction items generalizing p with
  | nil => exact h
  | cons i items ih => exact ih (h.set _ _ _ _)

/-- The limits between fields bring a profile in its fixed ranges into its ranges (R36). -/
theorem Profile.Fixed.enforce {p : Profile} (h : p.Fixed) : p.enforce.InRange where
  threshold := h.threshold
  hysteresis c hc := by
    show classOf (Vector.zipWith min p.hysteresis p.threshold) c ≤ classOf p.threshold c
    rw [classOf_zipWith_min _ _ _ hc]
    exact Nat.min_le_right _ _
  floatMin := h.floatMin
  template c d hc h1 h2 := by
    show classSlotOf p.target c d ≤ classSlotOf (Vector.zipWith (fun c t => Vector.zipWith max c t) p.cap p.target) c d ∧ _
    rw [show p.enforce.cap = Vector.zipWith (fun c t => Vector.zipWith max c t) p.cap p.target from rfl,
      classSlotOf_zipWith_max _ _ _ _ hc h1 h2]
    exact ⟨Nat.le_max_right _ _, Nat.max_le.2 ⟨h.cap c d, h.target c d⟩⟩
  rates := by
    show p.rateMin ≤ clampTo p.rateMin (max p.rateMax p.rateMin) p.rateInit ∧
      clampTo p.rateMin (max p.rateMax p.rateMin) p.rateInit ≤ max p.rateMax p.rateMin ∧ max p.rateMax p.rateMin ≤ 1000000
    obtain ⟨h1, h2⟩ := clampTo_range p.rateMin (max p.rateMax p.rateMin) p.rateInit (Nat.le_max_right _ _)
    exact ⟨h1, h2, Nat.max_le.2 ⟨h.rates.2.2, h.rates.1⟩⟩
  smoothing := h.smoothing
  floor d _ _ := h.floor d
  tolerance := h.tolerance
  pool := h.pool
  hold := h.hold
  lockDelay := h.lockDelay
  lockWindow := h.lockWindow
  collection := h.collection

/-- A write leaves a profile in its ranges (R34, R36). -/
theorem Profile.InRange.afterWrite {p : Profile} (h : p.InRange) (items : List ProfileItem) : (p.afterWrite items).InRange :=
  (h.fixed.write items).enforce

end Sys2Proof.Machine
end

section
/-! PROOFS. The requests and events of SLC, of OC and of HLI as acts on the view. -/

namespace Sys2Proof.Machine

/-! ### The lock -/

theorem askRequestOpening_leaves (a b w : Nat) (s : State) : (askRequestOpening a b w s).Leaves fun t => s.view.Works t.view := by
  unfold askRequestOpening
  split
  · trivial
  · split
    · trivial
    · split
      · trivial
      · exact State.Leads.works (.of_view (State.enterLock_view _ _ _ _ _))

theorem askCancelOpening_leaves (s : State) : (askCancelOpening s).Leaves fun t => s.view.Works t.view := by
  unfold askCancelOpening State.cancelOpening
  split
  · trivial
  · rename_i t ht
    refine State.Leads.works ?_
    split at ht
    · split at ht
      · simp at ht
      · split at ht
        · obtain rfl := Except.ok.inj ht
          exact .of_view rfl
        · obtain rfl := Except.ok.inj ht
          exact .of_view (State.enterLock_view _ _ _ _ _)
    · obtain rfl := Except.ok.inj ht
      exact (State.Leads.of_view (by rfl)).trans (State.enterSecuring_leads _ _)
    · obtain rfl := Except.ok.inj ht
      exact .of_view rfl
    · simp at ht
    · simp at ht
    · simp at ht

theorem askClearAlarm_leaves (op : Nat) (s : State) : (askClearAlarm op s).Leaves fun t => s.view.Works t.view := by
  unfold askClearAlarm
  split
  · trivial
  · split
    · trivial
    · split
      · trivial
      · exact State.Leads.works (.of_view (State.lockNotice_view _ _))

/-! ### The day -/

theorem askCancelClose_leaves (s : State) : (askCancelClose s).Leaves fun t => s.view.Works t.view := by
  unfold askCancelClose
  split
  · exact .of_begin (.office .trading)
  · trivial

theorem askCloseDay_leaves (s : State) : (askCloseDay s).Leaves fun t => s.view.Works t.view := by
  unfold askCloseDay
  split
  · rename_i ho
    split
    · trivial
    · split
      · exact .of_chain (.single (.day (s.closeDay_closes (by rw [ho]; decide))))
      · exact View.Works.chain (.of_begin (.office .closing)) (State.endPass_leads s { s with oc := { s.oc with state := .closing } })
  · exact .of_chain .refl
  · trivial

theorem State.releaseDeferred_view (s : State) : s.releaseDeferred.view = s.view := by
  unfold State.releaseDeferred
  dsimp only
  have h : (s.oc.deferred.foldl State.queueNotice s).view = s.view := State.foldl_view _ (fun u n => u.queueNotice_view n) _ _
  rw [← h]
  exact State.view_congr rfl rfl rfl rfl rfl rfl

theorem askResume_leaves (s : State) : (askResume s).Leaves fun t => s.view.Works t.view := by
  unfold askResume
  split
  · dsimp only
    generalize hs1 : ({ s with oc := { s.oc with state := s.oc.remembered.getD .unconfigured, remembered := none } } : State) = s1
    have hb : Begin s.view s1.view := by
      rw [← hs1]
      exact .office (s.oc.remembered.getD .unconfigured)
    refine View.Works.chain (.of_begin hb) (State.Leads.trans ?_ (State.tellMinute_leads _))
    exact .of_view ((State.decideShutter_view _).trans (State.releaseDeferred_view _))
  · trivial

/-- OPEN DAY leaves the view of an opened day, and the pass behind it leaves the office, the totals and the stock (R7, R17, R23). -/
theorem settled_askOpenDay_leaves (s : State) : (settled askOpenDay s).Leaves fun t => Path s.view t.view := by
  unfold settled askOpenDay
  split
  · trivial
  · rename_i t d ho
    split at ho
    · simp at ho
    · split at ho
      · simp at ho
      · simp only [Answer.accept.injEq] at ho
        obtain ⟨ht, -⟩ := ho
        generalize hs1 : ({ s with
          oc := { s.oc with openMark := some s.oc.clock, minuteTold := 0, totals := Totals.zero, state := .trading }
          st := { s.st with slots := s.st.slots.map StockSlot.atOpenDay } } : State) = s1 at ht
        have hv1 : t.view = s.view.opened := by
          have hslot : s1.slot = fun d => (s.slot d).atOpenDay := by
            rw [← hs1]
            funext d
            exact nth_map StockSlot.empty s.st.slots StockSlot.atOpenDay rfl d
          rw [← ht, State.decideShutter_view]
          have h1 : s1.view = { s.view with slot := s1.slot, totals := Totals.zero, office := .trading } := by
            rw [← hs1]
            rfl
          rw [h1, hslot]
          rfl
        have hoffice : t.oc.state = .trading := congrArg View.office hv1
        have hset : s.settle t = s.endPass t := by
          unfold State.settle State.closingTest
          refine if_neg fun h => ?_
          simp [hoffice] at h
        show Path s.view (s.settle t).view
        rw [hset]
        obtain ⟨-, -, -, -, -, -, hoc, hst, -⟩ := State.endPass_frame s t
        have hlead : t.Leads true (s.endPass t) := State.endPass_leads s t
        generalize s.endPass t = w at hoc hst hlead ⊢
        have hslots : w.view.slot = t.view.slot := funext fun d => State.slot_congr hst d
        exact .opened (hv1 ▸ hlead) ⟨(congrArg Oc.state hoc).trans hoffice,
          (congrArg Oc.totals hoc).trans (congrArg View.totals hv1), hslots.trans (congrArg View.slot hv1),
          (congrArg St.denoms hst).trans (congrArg View.denoms hv1)⟩

theorem askSetClock_leaves (c : OfficeTime) (s : State) : (askSetClock c s).Leaves fun t => s.view.Works t.view := by
  unfold askSetClock
  split
  · trivial
  · split
    · trivial
    · exact State.Leads.works (.of_view ((State.missReached_view _).trans rfl))

/-! ### Operators and profiles -/

theorem askEnrolOperator_leaves (op role : Nat) (s : State) : (askEnrolOperator op role s).Leaves fun t => s.view.Works t.view := by
  unfold askEnrolOperator
  split
  · trivial
  · rename_i r hr
    split
    · trivial
    · rename_i hrange
      split
      · trivial
      · rename_i hnew
        split
        · trivial
        · rename_i hfull
          refine .of_begin (.operators (s.oc.operators ++ [{ ident := op, role := r }]) (fun hn ho => ⟨?_, ?_⟩) fun _ => ?_)
          · rw [List.map_append, List.nodup_append]
            refine ⟨hn, by simp, fun a ha b hb hab => ?_⟩
            obtain rfl : b = op := by simpa using hb
            obtain ⟨o, hom, hoi⟩ := List.mem_map.1 ha
            simp only [State.roleOfOperator, Option.isSome_map, List.find?_isSome, decide_eq_true_eq, not_exists, not_and] at hnew
            exact hnew o hom (hoi.trans hab)
          · intro o hom
            rcases List.mem_append.1 hom with h | h
            · exact ho o h
            · obtain rfl : o = _ := List.mem_singleton.1 h
              have : idLimit = 65535 := rfl
              dsimp only
              omega
          · rw [List.length_append, List.length_singleton]
            omega

theorem askWithdrawOperator_leaves (op : Nat) (s : State) : (askWithdrawOperator op s).Leaves fun t => s.view.Works t.view := by
  unfold askWithdrawOperator
  split
  · trivial
  · refine .of_begin (.operators _ (fun hn ho => ⟨?_, fun o hom => ho o (List.mem_of_mem_filter hom)⟩) fun hl => ?_)
    · exact hn.sublist (List.filter_sublist.map _)
    · exact (List.length_filter_le _ _).trans hl

theorem askWriteProfile_leaves (set : Nat) (items : List ProfileItem) (s : State) :
    (askWriteProfile set items s).Leaves fun t => s.view.Works t.view := by
  unfold askWriteProfile
  split
  · trivial
  · rename_i n hn
    split
    · trivial
    · split
      · trivial
      · split
        · trivial
        · cases n with
          | a => exact .of_begin (.profiles (s.oc.profileA.afterWrite items) s.oc.profileB _ (fun h => h.afterWrite items) id)
          | b => exact .of_begin (.profiles s.oc.profileA (s.oc.profileB.afterWrite items) _ id (fun h => h.afterWrite items))

theorem askSelectProfile_leaves (set op : Nat) (s : State) : (askSelectProfile set op s).Leaves fun t => s.view.Works t.view := by
  unfold askSelectProfile
  split
  · trivial
  · split
    · trivial
    · exact .of_begin (.profiles s.oc.profileA s.oc.profileB _ id id)

/-! ### The host line -/

theorem askSetNotices_leaves (m : Nat) (s : State) : (askSetNotices m s).Leaves fun t => s.view.Works t.view := by
  unfold askSetNotices
  split
  · trivial
  · exact .of_chain .refl

theorem State.flush_view (s : State) : s.flush.view = s.view := rfl

end Sys2Proof.Machine
end

section
/-! PROOFS. The requests and events of CSC as acts on the view. -/

namespace Sys2Proof.Machine

theorem stationOk_iff {n : Nat} : stationOk n = true ↔ 1 ≤ n ∧ n ≤ 4 := by simp

theorem State.makeIdle_leads {day : Bool} (s : State) (n : Nat) (hs : (s.station n).duty.bag ≠ none → ¬ (s.station n).duty.Sound)
    (he : ∀ r, (s.station n).state ≠ .offline r) : s.Leads day (s.makeIdle n) := by
  unfold State.makeIdle
  refine State.Leads.congr ?_ (State.stationNotice_view _ _ _)
  by_cases hn : 1 ≤ n ∧ n ≤ 4
  · refine .of_change (.station n { bag := none, state := .idle, enabled := (s.station n).enabled } ?_ fun h => ⟨by simp, fun hf => ?_⟩)
      (s.setStation_view n _ hn.1 hn.2)
    · by_cases hb : (s.station n).duty.bag = none
      · exact .inl hb.symm
      · exact .inr ⟨rfl, hs hb⟩
    · obtain ⟨r, hr⟩ := h.2 hf
      exact absurd hr (he r)
  · rw [State.changeStation, s.setStation_outside n _ hn]

theorem HoldReason.not_works {r : HoldReason} (ho : r.own = false) (hp : r ≠ .pool) : ¬ (StationState.held r).Works := by
  cases r <;> simp_all [HoldReason.own, StationState.Works]

theorem State.clearStation_leads {day : Bool} {s t : State} {n : Nat} (h : s.clearStation n = some t) : s.Leads day t := by
  unfold State.clearStation at h
  dsimp only at h
  split at h
  · rename_i r hr
    have hoff : ∀ q, (s.station n).state ≠ .offline q := fun q => by simp [hr]
    split at h
    · simp at h
    · rename_i hpool
      split at h
      · rename_i hj
        obtain rfl := Option.some.inj h
        exact s.makeIdle_leads n (fun hb => absurd (by simp [Station.duty, hj]) hb) hoff
      · rename_i k hk
        split at h
        · split at h
          · obtain rfl := Option.some.inj h
            exact s.changeStation_leads_works n (fun x => { x with state := .held .pool }) (by simp [hk]) rfl
              (StationState.works_held (by simp)) rfl
          · obtain rfl := Option.some.inj h
            exact s.endHolds_leads _
        · rename_i hown
          obtain rfl := Option.some.inj h
          refine s.makeIdle_leads n (fun hb hsound => ?_) hoff
          have hw := hsound.1 hb
          rw [show (s.station n).duty.state = .held r from hr] at hw
          exact HoldReason.not_works (by simpa using hown) hpool hw
  · simp at h

theorem askClearStation_leaves (n : Nat) (s : State) : (askClearStation n s).Leaves fun t => s.view.Works t.view := by
  unfold askClearStation
  split
  · trivial
  · split
    · trivial
    · rename_i t ht
      exact ((State.clearStation_leads ht).trans (State.settle_leads s t)).works

theorem askEnableStation_leaves (n : Nat) (s : State) : (askEnableStation n s).Leaves fun t => s.view.Works t.view := by
  unfold askEnableStation
  split
  · trivial
  · dsimp only
    refine State.Leads.works ?_
    split
    · exact .refl s
    · rename_i he
      refine s.changeStation_leads n (fun x => { x with enabled := true, state := .offline .start }) rfl fun h => ?_
      obtain ⟨r, hr⟩ := h.2 (by simpa [Station.duty] using he)
      refine ⟨fun hb => ?_, fun hf => by simp [Station.duty] at hf⟩
      have hw := h.1 hb
      simp [StationState.Works, hr] at hw

theorem State.changeStation_changeStation_view (s : State) (n : Nat) (f g : Station → Station) :
    ((s.changeStation n f).changeStation n g).view = (s.changeStation n fun x => g (f x)).view := by
  by_cases hn : 1 ≤ n ∧ n ≤ 4
  · unfold State.changeStation
    rw [State.setStation_view _ _ _ hn.1 hn.2, State.setStation_view _ _ _ hn.1 hn.2, State.setStation_view _ _ _ hn.1 hn.2,
      State.station_setStation_same _ _ _ hn.1 hn.2]
    dsimp only
    rw [Function.update_idem]
  · simp only [State.changeStation, State.setStation_outside _ n _ hn]

/-- A station is disabled: OFFLINE without a job, its job, if it had one, aborted (R126). -/
theorem State.disableStation_leads {day : Bool} (s : State) (n : Nat) : s.Leads day (s.disableStation n) := by
  unfold State.disableStation
  dsimp only
  split
  · rename_i r x hr
    refine State.Leads.congr (s.changeStation_leads n (fun x => { x with enabled := false, state := .offline .disabled }) rfl fun h =>
      ⟨fun hb => ?_, fun _ => ⟨_, rfl⟩⟩) (s.changeStation_changeStation_view n _ _)
    have hw := h.1 hb
    simp [StationState.Works, Station.duty, hr] at hw
  · rename_i j hj hoff
    obtain ⟨h1, h4⟩ := State.station_inside (s := s) (n := n) (by simp [hj])
    have hview : (s.changeStation n fun x => { x with enabled := false }).view =
        { s.view with duty := (s.changeStation n fun x => { x with enabled := false }).view.duty } := by
      rw [State.changeStation, State.setStation_view _ _ _ h1 h4]
    have hsame : ((s.changeStation n fun x => { x with enabled := false }).station n) = { s.station n with enabled := false } :=
      State.station_setStation_same _ _ _ h1 h4
    have hother : ∀ m, m ≠ n → (s.changeStation n fun x => { x with enabled := false }).station m = s.station m :=
      fun m hm => State.station_setStation_other _ _ _ _ hm
    have hbag : (s.view.duty n).bag = some j.bag := by simp [State.view_duty, Station.duty, hj]
    refine State.abortJob_chain (by rw [hsame]; exact hj) .disabled hview ⟨.inr ⟨n, hbag⟩, fun m hm => ?_, fun m hm => ?_⟩
    · by_cases hmn : m = n
      · subst hmn
        simp only [View.freed, State.view_duty, hsame]
        rw [if_pos (by simp [Station.duty, hj])]
        exact ⟨rfl, fun _ => ⟨by simp, fun _ => ⟨.disabled, by simp [AbortReason.stations, AbortReason.faultState]⟩⟩⟩
      · simp only [View.freed, State.view_duty, hother m hmn]
        rw [if_pos (show (s.station m).duty.bag = some j.bag from hm)]
        refine ⟨rfl, fun hs => ⟨by simp, fun he => ?_⟩⟩
        have hen : (s.station m).duty.enabled = true := hs.enabled (by rw [show (s.station m).duty.bag = some j.bag from hm]; simp)
        rw [show (s.station m).duty.enabled = false from he] at hen
        simp at hen
    · have hmn : m ≠ n := fun h => hm (h ▸ hbag)
      simp only [View.freed, State.view_duty, hother m hmn]
      exact if_neg hm
  · rename_i hj hoff
    refine State.Leads.congr ?_ (State.stationNotice_view _ _ _)
    exact State.Leads.congr (s.changeStation_leads n (fun x => Station.clearJob { x with enabled := false } (.offline .disabled))
      (by simp [Station.duty, Station.clearJob, hj]) fun h => ⟨by simp [Station.duty, Station.clearJob], fun _ => ⟨_, rfl⟩⟩)
      (s.changeStation_changeStation_view n _ _)

theorem askDisableStation_leaves (n : Nat) (s : State) : (askDisableStation n s).Leaves fun t => s.view.Works t.view := by
  unfold askDisableStation
  split
  · trivial
  · exact ((s.disableStation_leads n).trans (State.settle_leads _ _)).works

theorem State.linkSilence_leads {day : Bool} (s : State) (n : Nat) : s.Leads day (s.linkSilence n) := by
  unfold State.linkSilence
  split
  · exact s.abortJob_leads _ _
  · exact s.changeStation_leads_same n _ rfl
  · exact .refl s

end Sys2Proof.Machine
end

section
/-! PROOFS. The requests of ST as acts on the view. -/

namespace Sys2Proof.Machine

/-! ### DEFINE DENOMINATIONS -/

theorem State.pieces_eq_zero {s : State} (h : s.holdsStock = false) (d : Nat) : (s.slot d).pieces = 0 := by
  by_cases hd : 1 ≤ d ∧ d ≤ 12
  · have hlt : d - 1 < 12 := by omega
    have hslot : s.slot d = s.st.slots[d - 1] := by
      simp [State.slot, nth, show d ≠ 0 by omega, hlt]
    have hmem : s.slot d ∈ s.st.slots.toList := by
      rw [hslot]
      simp
    have := List.any_eq_false.1 h _ hmem
    simp only [decide_eq_true_eq, not_or, not_not] at this
    simp only [StockSlot.pieces]
    omega
  · rw [State.slot_outside _ _ hd]
    rfl

theorem State.bag_eq_none {s : State} (h : s.holdsBag = false) (b : Nat) : s.bag b = none := by
  unfold State.bag
  cases hb : s.br.bags[b]? with
  | none => rfl
  | some o =>
    have hmem : o ∈ s.br.bags.toList := by
      rw [← Vector.getElem?_toList] at hb
      exact List.mem_of_getElem? hb
    have := List.any_eq_false.1 h _ hmem
    simpa using this

/-- A definition without a slot at fault has at most 12 slots. -/
theorem length_le_of_no_fault {es : List DenomEntry} (h : firstFaultyDenom es = none) : es.length ≤ 12 := by
  by_contra hl
  have := List.find?_eq_none.1 h es.length ((mem_upTo _ _).2 ⟨by omega, le_refl _⟩)
  simp [faultyDenom] at this
  omega

theorem askDefineDenominations_leaves (es : List DenomEntry) (s : State) :
    (askDefineDenominations es s).Leaves fun t => s.view.Works t.view := by
  unfold askDefineDenominations
  split
  · trivial
  · split
    · trivial
    · rename_i hempty
      simp only [Bool.or_eq_true, not_or, Bool.not_eq_true] at hempty
      split
      · trivial
      · split
        · trivial
        · rename_i hfault
          refine State.Leads.works (.of_change (.defined (denomsOf es) ?_ (State.pieces_eq_zero hempty.1)
            fun b => State.view_bag_none (State.bag_eq_none hempty.2 b)) ?_)
          · simpa [denomsOf] using length_le_of_no_fault hfault
          · have hslot : (fun d => nth StockSlot.empty (s.st.slots.map StockSlot.cleared) d) = fun d => (s.slot d).cleared :=
              funext fun d => nth_map StockSlot.empty s.st.slots StockSlot.cleared rfl d
            exact congrArg (fun f => ({ s.view with denoms := denomsOf es, slot := f } : View)) hslot

/-! ### TRANSFER STOCK -/

/-- The pieces named for a slot by lines that name it once. -/
theorem lineFor_of_mem {ls : List StockLine} (hn : (ls.map StockLine.slot).Nodup) {l : StockLine} (hl : l ∈ ls) :
    lineFor ls l.slot = l.pieces := by
  induction ls with
  | nil => simp at hl
  | cons m ms ih =>
    simp only [List.map_cons, List.nodup_cons] at hn
    rcases List.mem_cons.1 hl with rfl | hm
    · simp [lineFor]
    · have hne : m.slot ≠ l.slot := fun h => hn.1 (List.mem_map.2 ⟨l, hm, h.symm⟩)
      have := ih hn.2 hm
      simpa [lineFor, hne] using this

/-- A transfer moves in each slot named the pieces named for it, and leaves the others (R10). -/
theorem State.transferLines_slot (s : State) (down : Bool) {ls : List StockLine} (hn : (ls.map StockLine.slot).Nodup) (d : Nat) (h1 : 1 ≤ d)
    (h2 : d ≤ 12) : (s.transferLines down ls).slot d =
      if d ∈ ls.map StockLine.slot then StockSlot.transfer down (lineFor ls d) (s.slot d) else s.slot d := by
  rw [State.transferLines, State.slot_moveLines _ _ _ _ _ h1 h2]
  split
  · rename_i hd
    obtain ⟨l, hl, rfl⟩ := List.mem_map.1 hd
    rw [StockSlot.moveLines_of_mem _ hn hl, lineFor_of_mem hn hl]
  · rename_i hd
    exact StockSlot.moveLines_of_not_mem _ hd _

theorem StockSlot.transfer_areas (down : Bool) (n : Nat) (x : StockSlot) :
    (x.transfer down n).working = (if down then x.working - n else x.working + n) ∧
      (x.transfer down n).reserve = (if down then x.reserve + n else x.reserve - n) ∧
      (x.transfer down n).unfit = x.unfit ∧ (x.transfer down n).dispatch = x.dispatch ∧ (x.transfer down n).suspect = x.suspect := by
  cases down
  · obtain ⟨h1, h2, h3, h4, h5⟩ := x.withWorking_area (x.working + n)
    simp [StockSlot.transfer, h1, h3, h4, h5]
  · obtain ⟨h1, h2, h3, h4, h5⟩ := x.withWorking_area (x.working - n)
    simp [StockSlot.transfer, h1, h3, h4, h5]

/-- The areas of a slot after a transfer that fits (R10). -/
structure StockSlot.Transferred (x y : StockSlot) (reserved : Nat) : Prop where
  pieces   : y.pieces = x.pieces
  limited  : x.Limited → y.Limited
  within   : reserved ≤ x.working → reserved ≤ y.working
  unfit    : y.unfit = x.unfit
  dispatch : y.dispatch = x.dispatch

theorem StockSlot.transferred {x : StockSlot} {down : Bool} {n reserved : Nat}
    (hshort : n ≤ if down then x.working - reserved else x.reserve)
    (hfull : (if down then x.reserve else x.working) + n ≤ pieceLimit) : x.Transferred (x.transfer down n) reserved := by
  obtain ⟨h1, h2, h3, h4, h5⟩ := StockSlot.transfer_areas down n x
  refine ⟨?_, fun hl => ?_, fun hr => ?_, h3, h4⟩
  · simp only [StockSlot.pieces, h1, h2, h3, h4]
    cases down <;> simp only [Bool.false_eq_true, if_true, if_false] at hshort ⊢ <;> omega
  · obtain ⟨l1, l2, l3, l4, l5⟩ := hl
    unfold StockSlot.Limited
    rw [h1, h2, h3, h4, h5]
    refine ⟨?_, ?_, l3, l4, l5⟩ <;> cases down <;> simp only [Bool.false_eq_true, if_true, if_false] at hfull ⊢ <;> omega
  · rw [h1]
    cases down <;> simp only [Bool.false_eq_true, if_true, if_false] at hshort ⊢ <;> omega

theorem StockSlot.Transferred.refl (x : StockSlot) (r : Nat) : x.Transferred x r := ⟨rfl, id, id, rfl, rfl⟩

theorem State.transferLines_leads {day : Bool} (s : State) {down : Bool} {ls : List StockLine} (hok : s.stockLinesOk ls = true)
    (hshort : s.transferShort down ls = none) (hfull : s.transferFull down ls = none) : s.Leads day (s.transferLines down ls) := by
  have hn := (State.stockLinesOk_iff.1 hok).2.2
  have hmove : ∀ d, (s.slot d).Transferred ((s.transferLines down ls).slot d) (s.reserved .working d) := by
    intro d
    by_cases hd : 1 ≤ d ∧ d ≤ 12
    · rw [s.transferLines_slot down hn d hd.1 hd.2]
      split
      · rename_i hm
        obtain ⟨l, hl, hls⟩ := List.mem_map.1 hm
        have hnamed : d ∈ s.namedSlots ls :=
          State.mem_namedSlots.2 ⟨hls ▸ ((State.stockLinesOk_iff.1 hok).2.1 l hl).1, hm⟩
        have h1 := leastFailing_eq_none.1 hshort d hnamed
        have h2 := leastFailing_eq_none.1 hfull d hnamed
        simp only [decide_eq_false_iff_not, Nat.not_lt] at h1 h2
        exact StockSlot.transferred h1 h2
      · exact .refl _ _
    · rw [State.slot_outside _ _ hd, State.slot_outside _ _ hd]
      exact .refl _ _
  refine .of_change (.traded (s.transferLines down ls).slot s.oc.totals (fun d hl => (hmove d).limited hl) (fun d => (hmove d).dispatch)
    (fun d a hr => ?_) fun _ => ?_) (State.moveLines_view StockLine.slot _ ls s)
  · cases a
    · exact (hmove d).within hr
    · exact hr.trans (hmove d).unfit.symm.le
  · rw [valueIn_congr (slot := s.view.slot) fun d _ _ => (hmove d).pieces]
    rfl

theorem askTransferStock_leaves (a b dir : Nat) (ls : List StockLine) (s : State) :
    (askTransferStock a b dir ls s).Leaves fun t => s.view.Works t.view := by
  unfold askTransferStock
  dsimp only
  split
  · trivial
  · split
    · trivial
    · rename_i hrange
      simp only [not_or, Bool.not_eq_false] at hrange
      split
      · trivial
      · split
        · trivial
        · split
          · trivial
          · rename_i hshort _ hfull
            exact ((s.transferLines_leads hrange.2 hshort hfull).trans (State.retryPasses_leads _ _)).works

end Sys2Proof.Machine
end

section
/-! PROOFS. Every command, and every step, as acts on the view. -/

namespace Sys2Proof.Machine

/-! ### Power -/

theorem State.goes_execControlledStop (s : State) : s.Goes (execControlledStop s) := by
  unfold execControlledStop
  dsimp only
  split
  · exact State.goes_next (.inl ((s.setPowerFail true).controlledStop_path))
  · exact State.goes_next (.of_view rfl)

/-- An outcome that is a next state with the view as it stands, whichever way a condition falls. -/
theorem State.goes_ite {s t u : State} (p : Prop) [Decidable p] (ht : t.view = s.view) (hu : u.view = s.view) :
    s.Goes (if p then .next t else .next u) := by
  split
  · exact State.goes_next (.of_view ht)
  · exact State.goes_next (.of_view hu)

theorem State.Becomes.of_performColdStart {s u : State} (h : u.view = s.view) : s.Becomes u.performColdStart := by
  rcases u.performColdStart_view with hv | hv
  · exact .of_view (hv.trans h)
  · exact .inr hv

theorem State.goes_execColdStart (s : State) : s.Goes (execColdStart s) := by
  unfold execColdStart
  split
  · exact State.goes_next (.of_performColdStart rfl)
  · exact State.goes_next (.of_view rfl)

theorem State.goes_execWarmRestart (s : State) : s.Goes (execWarmRestart s) := by
  unfold execWarmRestart
  split
  · exact State.goes_next (.inl s.warmRestart_path)
  · exact State.goes_next (.of_view rfl)

theorem State.goes_execEraseRecords (a b : Nat) (s : State) : s.Goes (execEraseRecords a b s) := by
  unfold execEraseRecords
  split
  · split
    · exact State.goes_next (.of_view (by simp))
    · exact State.goes_next (.of_performColdStart ((State.flush_view _).trans (by simp)))
  · exact State.goes_next (.of_view rfl)

/-! ### Sense lines -/

/-- A sense line changes, and then the part takes it as an event. -/
theorem State.goes_sense {f : State → State} {s u : State} (hu : u.view = s.view) (h : u.Leads true (f u)) : s.Goes (takeEvent f u) := by
  intro t ht
  have := State.goes_takeEvent h t ht
  unfold State.Becomes at this ⊢
  rwa [hu] at this

/-! ### Every command -/

/-- A read leaves the view as it stands. -/
theorem State.goes_read {i : Instr} {op : State → Answer} {s : State} (h : (op s).Leaves fun t => t.view = s.view) :
    s.Goes (takeRequest i op s) :=
  State.goes_takeRequest (h.mono fun _ ht => .acts (ht ▸ .refl))

theorem State.goes_exec (i : Instr) (s : State) : s.Goes (exec i s) := by
  cases i with
  | defineDenominations es => exact State.goes_unlessHeld (askDefineDenominations_leaves es s)
  | transferStock a b d ls => exact State.goes_settled (askTransferStock_leaves a b d ls s)
  | openDay => exact State.goes_takeRequest (unlessHeld_leaves (settled_askOpenDay_leaves s))
  | closeDay => exact State.goes_unlessHeld (askCloseDay_leaves s)
  | cancelClose => exact State.goes_settled (askCancelClose_leaves s)
  | resume => exact State.goes_request (settled_leaves (askResume_leaves s))
  | setClock c => exact State.goes_unlessHeld (askSetClock_leaves c s)
  | enrolOperator a r => exact State.goes_unlessHeld (askEnrolOperator_leaves a r s)
  | withdrawOperator a => exact State.goes_unlessHeld (askWithdrawOperator_leaves a s)
  | writeProfile n is => exact State.goes_unlessHeld (askWriteProfile_leaves n is s)
  | selectProfile n a => exact State.goes_settled (askSelectProfile_leaves n a s)
  | eraseRecords a b => exact s.goes_execEraseRecords a b
  | setTill n c e => exact State.goes_unlessHeld (askSetTill_leaves n c e s)
  | openTill n a r => exact State.goes_unlessHeld (askOpenTill_leaves n a r s)
  | confirmFloat n => exact State.goes_settled (askConfirmFloat_leaves n s)
  | cancelFloat n => exact State.goes_settled (askCancelFloat_leaves n s)
  | topUp n ls => exact State.goes_settled (askTopUp_leaves n ls s)
  | reportTakings n k => exact State.goes_unlessHeld (askReportTakings_leaves n k s)
  | declarePickup n q a => exact State.goes_settled (askDeclarePickup_leaves n q a s)
  | closeTill n q a k => exact State.goes_settled (askCloseTill_leaves n q a k s)
  | declareOfficeBag q v => exact State.goes_settled (askDeclareOfficeBag_leaves q v s)
  | adoptBag b k n v q => exact State.goes_settled (askAdoptBag_leaves b k n v q s)
  | writeOffBag b a => exact State.goes_settled (askWriteOffBag_leaves b a s)
  | recountBag b => exact State.goes_settled (askRecountBag_leaves b s)
  | clearStation n => exact State.goes_unlessHeld (askClearStation_leaves n s)
  | enableStation n => exact State.goes_unlessHeld (askEnableStation_leaves n s)
  | disableStation n => exact State.goes_unlessHeld (askDisableStation_leaves n s)
  | requestOpening a b w => exact State.goes_settled (askRequestOpening_leaves a b w s)
  | cancelOpening => exact State.goes_settled (askCancelOpening_leaves s)
  | clearAlarm a => exact State.goes_settled (askClearAlarm_leaves a s)
  | newConsignment => exact State.goes_settled (askNewConsignment_leaves s)
  | assembleBag c ls => exact State.goes_settled (askAssembleBag_leaves c ls s)
  | sealBag b q => exact State.goes_settled (askSealBag_leaves b q s)
  | discardBag b => exact State.goes_settled (askDiscardBag_leaves b s)
  | unsealBag b a => exact State.goes_settled (askUnsealBag_leaves b a s)
  | attachBag b c => exact State.goes_settled (askAttachBag_leaves b c s)
  | expectDelivery c q v => exact State.goes_settled (askExpectDelivery_leaves c q v s)
  | scheduleCollection c u r e l => exact State.goes_settled (askScheduleCollection_leaves c u r e l s)
  | cancelConsignment c => exact State.goes_settled (askCancelConsignment_leaves c s)
  | setNotices m => exact State.goes_request (askSetNotices_leaves m s)
  | readStock =>
    unfold exec execReadStock
    exact State.goes_read rfl
  | readReservations k =>
    unfold exec execReadReservations
    refine State.goes_read ?_
    split
    · trivial
    · rfl
  | readOffice =>
    unfold exec execReadOffice
    exact State.goes_read rfl
  | readDaySummary =>
    unfold exec execReadDaySummary
    exact State.goes_read rfl
  | readOperators =>
    unfold exec execReadOperators
    exact State.goes_read rfl
  | readProfile n =>
    unfold exec execReadProfile
    refine State.goes_read ?_
    split
    · trivial
    · rfl
  | readTill n =>
    unfold exec execReadTill
    refine State.goes_read ?_
    split
    · rfl
    · trivial
  | readTills n =>
    unfold exec execReadTills
    refine State.goes_read ?_
    split
    · rfl
    · trivial
  | readPickupList k =>
    unfold exec execReadPickupList
    refine State.goes_read ?_
    split
    · trivial
    · rfl
  | readCountQueue k =>
    unfold exec execReadCountQueue
    refine State.goes_read ?_
    split
    · trivial
    · rfl
  | readBag b =>
    unfold exec execReadBag
    refine State.goes_read ?_
    split
    · trivial
    · rfl
  | readSeal q =>
    unfold exec execReadSeal
    refine State.goes_read ?_
    split
    · trivial
    · rfl
  | readOrphans =>
    unfold exec execReadOrphans
    exact State.goes_read rfl
  | readStations =>
    unfold exec execReadStations
    exact State.goes_read rfl
  | readLock =>
    unfold exec execReadLock
    exact State.goes_read rfl
  | readConsignment c =>
    unfold exec execReadConsignment
    refine State.goes_read ?_
    split
    · trivial
    · split
      · rfl
      · rfl
  | readHandover =>
    unfold exec execReadHandover
    exact State.goes_read rfl
  | readUnattached =>
    unfold exec execReadUnattached
    exact State.goes_read rfl
  | hostFrame bs =>
    unfold exec execHostFrame
    exact State.goes_takeLineEvent (.of_view (State.foldl_view _ (fun u b => u.takeByte_view b) bs s))
  | hostByteGapTimeout =>
    unfold exec execHostByteGapTimeout
    refine State.goes_takeLineEvent (.of_view ?_)
    split
    · rfl
    · exact s.rejectFrame_view
  | lineBreak =>
    unfold exec execLineBreak
    exact State.goes_takeLineEvent (.of_view rfl)
  | replySent =>
    unfold exec execReplySent
    exact State.goes_takeLineEvent (.of_view s.replySent_view)
  | noticeSent =>
    unfold exec execNoticeSent
    exact State.goes_takeLineEvent (.of_view s.noticeSent_view)
  | minuteEvent =>
    unfold exec execMinuteEvent
    exact State.goes_takeEvent s.tellMinute_leads
  | floatExpiry n =>
    unfold exec execFloatExpiry
    refine State.goes_takeEvent ?_
    split
    · exact s.floatExpired_leads n
    · exact .refl s
  | latestReached c =>
    unfold exec execLatestReached
    exact State.goes_takeEvent (.of_view (s.missConsignment_view c))
  | stationReady l w =>
    unfold exec execStationReady
    exact State.goes_takePartner _ _ s
  | stationSealRead l q w =>
    unfold exec execStationSealRead
    exact State.goes_takePartner _ _ s
  | strap l d n c w =>
    unfold exec execStrap
    exact State.goes_takePartner _ _ s
  | suspect l d w =>
    unfold exec execSuspect
    exact State.goes_takePartner _ _ s
  | doubt l d w =>
    unfold exec execDoubt
    exact State.goes_takePartner _ _ s
  | doubtCleared l v w =>
    unfold exec execDoubtCleared
    exact State.goes_takePartner _ _ s
  | jam l w =>
    unfold exec execJam
    exact State.goes_takePartner _ _ s
  | endTotals l t w =>
    unfold exec execEndTotals
    exact State.goes_takePartner _ _ s
  | linkSilenceExpiry l =>
    unfold exec execLinkSilenceExpiry
    exact State.goes_takeEvent (s.linkSilence_leads _)
  | partnerByteGapTimeout l =>
    unfold exec execPartnerByteGapTimeout
    exact State.goes_takeLineEvent (.of_view (s.partnerGap_view l))
  | slotSealRead q w =>
    unfold exec execSlotSealRead
    exact State.goes_takePartner _ _ s
  | readWaitExpiry =>
    unfold exec execReadWaitExpiry
    exact State.goes_takeEvent (s.resolveOldest_leads none)
  | doorSenseChange x =>
    unfold exec execDoorSenseChange
    refine State.goes_sense rfl ?_
    split
    · exact .refl _
    · exact State.doorEvent_leads _ x
  | boltSenseChange x =>
    unfold exec execBoltSenseChange
    refine State.goes_sense rfl ?_
    split
    · exact .refl _
    · exact State.boltEvent_leads _ x
  | slotSenseChange x =>
    unfold exec execSlotSenseChange
    refine State.goes_sense rfl ?_
    split
    · exact .refl _
    · exact State.slotEvent_leads _ x
  | delayExpiry =>
    unfold exec execDelayExpiry
    refine State.goes_takeEvent ?_
    split
    · exact State.enterWindow_leads _ _ _
    · exact .refl s
  | windowExpiry =>
    unfold exec execWindowExpiry
    refine State.goes_takeEvent ?_
    split
    · exact State.enterSecuring_leads _ _
    · exact .refl s
  | boltConfirmationExpiry =>
    unfold exec execBoltConfirmationExpiry
    refine State.goes_takeEvent ?_
    split
    · exact State.raiseBoltFault_leads _
    · exact .refl s
  | present u r w =>
    unfold exec execPresent
    exact State.goes_takePartner _ _ s
  | scan q w =>
    unfold exec execScan
    exact State.goes_takePartner _ _ s
  | confirm w =>
    unfold exec execConfirm
    exact State.goes_takePartner _ _ s
  | abandon w =>
    unfold exec execAbandon
    exact State.goes_takePartner _ _ s
  | stepTimerExpiry =>
    unfold exec execStepTimerExpiry
    refine State.goes_takeEvent ?_
    split
    · exact State.abandonHandover_leads _ _
    · exact .refl s
  | overallTimerExpiry =>
    unfold exec execOverallTimerExpiry
    exact State.goes_takeEvent (State.abandonHandover_leads _ _)
  | controlledStop => exact s.goes_execControlledStop
  | powerFailDeassert =>
    unfold exec execPowerFailDeassert
    exact State.goes_ite _ rfl rfl
  | resetAssert =>
    unfold exec execResetAssert
    exact State.goes_ite _ rfl rfl
  | resetRelease =>
    unfold exec execResetRelease
    exact State.goes_ite _ rfl rfl
  | powerUp =>
    unfold exec execPowerUp
    exact State.goes_ite _ rfl rfl
  | coldStart => exact s.goes_execColdStart
  | warmRestart => exact s.goes_execWarmRestart
  | lineReturnsToMark =>
    unfold exec execLineReturnsToMark
    refine State.goes_takeLineEvent (.of_view ?_)
    split
    · rfl
    · rfl
  | powerLoss =>
    unfold exec execPowerLoss
    exact State.goes_next (.of_view rfl)
  | dockFrameCheckFailed t b w =>
    unfold exec execDockFrameCheckFailed
    exact State.goes_takePartner _ _ s

/-! ### Every step -/

/-- A second of the time base is not seen. -/
theorem State.tick_view (s : State) : s.tick.view = s.view := by
  unfold State.tick
  dsimp only
  split
  · have hduty : (fun n => (nth Station.atColdStart (s.csc.stations.map fun x => { x with silence := secondOff x.silence }) n).duty) =
        fun n => (s.station n).duty := by
      funext n
      rw [nth_map Station.atColdStart s.csc.stations (fun x => { x with silence := secondOff x.silence }) rfl n]
      rfl
    have hreceived : ((s.chu.handover.map Handover.tick).map Handover.received).getD [] = (s.chu.handover.map Handover.received).getD [] := by
      rw [Option.map_map]
      rfl
    calc
      _ = { s.view with
            duty := fun n => (nth Station.atColdStart (s.csc.stations.map fun x => { x with silence := secondOff x.silence }) n).duty
            received := ((s.chu.handover.map Handover.tick).map Handover.received).getD [] } := rfl
      _ = s.view := by
        rw [hduty, hreceived]
        rfl
  · rfl

theorem State.nextOwn_view {s u : State} {c : Instr} (h : s.nextOwn = some (c, u)) : u.view = s.view := by
  unfold State.nextOwn at h
  split at h
  · simp at h
  · rename_i d ds hd
    unfold State.chosen at h
    split at h
    · simp only [Option.some.injEq, Prod.mk.injEq] at h
      exact h.2 ▸ rfl
    · simp only [Option.some.injEq, Prod.mk.injEq] at h
      exact h.2 ▸ rfl

/-- A step that begins from a state of the same view. -/
theorem State.Becomes.of_exec {s u t : State} {c : Instr} (hu : u.view = s.view) (h : exec c u = .next t) : s.Becomes t := by
  have := u.goes_exec c t h
  unfold State.Becomes at this ⊢
  rwa [hu] at this

/-- A step of the part makes of the view a path of acts, or a cold start. -/
theorem step_becomes {s t : State} (h : step s = .next t) : s.Becomes t := by
  unfold step at h
  split at h
  · rename_i c rest hp
    exact .of_exec (u := { s with pending := rest }) rfl h
  · unfold idle at h
    split at h
    · rename_i c u hu
      exact .of_exec (State.nextOwn_view hu) h
    · obtain rfl : s.tick = t := by injection h
      exact .of_view s.tick_view

end Sys2Proof.Machine
end

section
/-! PROOFS. The laws of the device on a state are those on its view; they hold at a cold start; and what every step keeps of the
tills, of the stock and of the custody of the bags. -/

namespace Sys2Proof.Machine

/-! ### The laws on a state and on its view -/

theorem State.view_bagState (s : State) (b : Nat) : (s.view.bag b).map Bag.state = (s.bag b).map Bag.state := by
  show ((s.bag b).map Bag.core).map Bag.state = _
  rw [Option.map_map]
  rfl

/-- What is said of a bag record but for the fields that the view blanks is said of it in the view. -/
theorem State.forall_view_bag {s : State} {b : Nat} {P : Bag → Prop} (hP : ∀ x : Bag, P x.core ↔ P x) :
    (∀ x, s.view.bag b = some x → P x) ↔ ∀ x, s.bag b = some x → P x := by
  constructor
  · exact fun h x hx => (hP x).1 (h x.core (State.view_bag hx))
  · intro h x hx
    obtain ⟨y, hy, rfl⟩ := State.view_bag_eq_some hx
    exact (hP y).2 (h y hy)

theorem State.exists_view_bag {s : State} {b : Nat} {P : Bag → Prop} (hP : ∀ x : Bag, P x.core ↔ P x) :
    (∃ x, s.view.bag b = some x ∧ P x) ↔ ∃ x, s.bag b = some x ∧ P x := by
  constructor
  · rintro ⟨x, hx, hp⟩
    obtain ⟨y, hy, rfl⟩ := State.view_bag_eq_some hx
    exact ⟨y, hy, (hP y).1 hp⟩
  · rintro ⟨x, hx, hp⟩
    exact ⟨x.core, State.view_bag hx, (hP x).2 hp⟩

theorem State.pickupLaw_iff {s : State} : s.PickupLaw ↔ View.Pickup s.view.till s.view.due :=
  ⟨fun ⟨h1, h2, h3⟩ => ⟨h1, h2, h3⟩, fun ⟨h1, h2, h3⟩ => ⟨h1, h2, h3⟩⟩

theorem State.floatLaw_iff {s : State} : s.FloatLaw ↔ View.Floats s.view.till s.view.reservations s.view.denoms := by
  constructor
  · intro h n
    refine ⟨h.composed n, h.prior n, h.amounts n, h.reserved n, fun hne => ?_⟩
    obtain ⟨r, hr⟩ := List.exists_mem_of_ne_nil _ hne
    obtain ⟨hm, ho⟩ := List.mem_filter.1 hr
    exact h.owned r hm n (by simpa using ho)
  · intro h
    refine ⟨fun n => (h n).composed, fun n => (h n).prior, fun n => (h n).amounts, fun n => (h n).reserved, fun r hr n ho => (h n).owned ?_⟩
    exact List.ne_nil_of_mem (List.mem_filter.2 ⟨hr, by simpa using ho⟩)

theorem State.areaLaw_iff {s : State} : s.AreaLaw ↔ View.Areas s.view.slot s.view.bag := by
  have hl : (∀ b x, s.view.bag b = some x → (x.lines.map ContentLine.slot).Nodup) ↔
      ∀ b x, s.bag b = some x → (x.lines.map ContentLine.slot).Nodup :=
    forall_congr' fun b => State.forall_view_bag fun _ => .rfl
  exact ⟨fun ⟨h1, h2⟩ => ⟨h1, hl.2 h2⟩, fun ⟨h1, h2⟩ => ⟨h1, hl.1 h2⟩⟩

theorem State.reservedLaw_iff {s : State} : s.ReservedLaw ↔ View.Reserves s.view.denoms s.view.slot s.view.reservations s.view.bag := by
  have hc : (∀ b x, s.view.bag b = some x → x.kind = .outbound → x.state = .assembling →
        ∃ r ∈ s.view.reservations, r.owner = .bag b ∧ r.lines = x.lines) ↔
      ∀ b x, s.bag b = some x → x.kind = .outbound → x.state = .assembling →
        ∃ r ∈ s.st.reservations, r.owner = .bag b ∧ r.lines = x.lines :=
    forall_congr' fun b => State.forall_view_bag (P := fun x => x.kind = .outbound → x.state = .assembling →
      ∃ r ∈ s.st.reservations, r.owner = .bag b ∧ r.lines = x.lines) fun _ => .rfl
  exact ⟨fun ⟨h1, h2, h3⟩ => ⟨h1, h2, hc.2 h3⟩, fun ⟨h1, h2, h3⟩ => ⟨h1, h2, hc.1 h3⟩⟩

theorem State.custodyLaw_iff {s : State} :
    s.CustodyLaw ↔ View.Custody s.view.bag s.view.queue s.view.jobs s.view.held s.view.received s.view.duty := by
  have hst : ∀ {bs : List Nat} {st : BagState}, (∀ b, b ∈ bs ↔ (s.view.bag b).map Bag.state = some st) ↔
      ∀ b, b ∈ bs ↔ (s.bag b).map Bag.state = some st := fun {bs st} => forall_congr' fun b => by rw [s.view_bagState]
  have hjob : (∀ n b, (s.view.duty n).bag = some b → b ∈ s.view.jobs) ↔ ∀ n k, (s.station n).job = some k → k.bag ∈ s.csc.jobs.map CountJob.bag := by
    refine forall_congr' fun n => ⟨fun h k hk => h k.bag ?_, fun h b hb => ?_⟩
    · simp [State.view_duty, Station.duty, hk]
    · obtain ⟨k, hk, rfl⟩ := Option.map_eq_some_iff.1 hb
      exact h k hk
  have hrec : (s.view.received.Nodup ∧ ∀ b ∈ s.view.received, (s.view.bag b).map Bag.state = some .received) ↔
      ∀ h, s.chu.handover = some h → h.received.Nodup ∧ ∀ b ∈ h.received, (s.bag b).map Bag.state = some .received := by
    have hr : s.view.received = (s.chu.handover.map Handover.received).getD [] := rfl
    rw [hr]
    simp only [s.view_bagState]
    cases hh : s.chu.handover with
    | none => simp
    | some h => simp
  have hseal : View.Seals s.view.bag ↔ ∀ b c x y, s.bag b = some x → s.bag c = some y → x.state ≠ .orphan → y.state ≠ .orphan →
      x.sealNo ≠ none → x.sealNo = y.sealNo → b = c := by
    constructor
    · exact fun h b c x y hx hy => h b c x.core y.core (State.view_bag hx) (State.view_bag hy)
    · intro h b c x y hx hy
      obtain ⟨p, hp, rfl⟩ := State.view_bag_eq_some hx
      obtain ⟨q, hq, rfl⟩ := State.view_bag_eq_some hy
      exact h b c p q hp hq
  constructor
  · rintro ⟨h1, h2, h3, h4, h5, h6, h7, h8, h9⟩
    exact ⟨⟨h1, hst.2 h2⟩, ⟨h3, hst.2 h4⟩, hjob.2 h5, ⟨h6, hst.2 h7⟩, hrec.2 h8, hseal.2 h9⟩
  · rintro ⟨⟨h1, h2⟩, ⟨h3, h4⟩, h5, ⟨h6, h7⟩, h8, h9⟩
    exact ⟨h1, hst.1 h2, h3, hst.1 h4, hjob.1 h5, h6, hst.1 h7, hrec.1 h8, hseal.1 h9⟩

theorem State.listLaw_iff {s : State} : s.ListLaw ↔ View.Lists s.view.outbound s.view.inbound s.view.bag := by
  have hex : ∀ (k : BagKind) (c b : Nat), (∃ x, s.view.bag b = some x ∧ x.kind = k ∧ x.consignment = some c) ↔
      ∃ x, s.bag b = some x ∧ x.kind = k ∧ x.consignment = some c :=
    fun k c b => State.exists_view_bag (P := fun x => x.kind = k ∧ x.consignment = some c) fun _ => .rfl
  have horphan : (∀ b x, s.view.bag b = some x → x.state = .orphan → x.kind = .unknown) ↔
      ∀ b x, s.bag b = some x → x.state = .orphan → x.kind = .unknown :=
    forall_congr' fun b => State.forall_view_bag (P := fun x => x.state = .orphan → x.kind = .unknown) fun _ => .rfl
  constructor
  · rintro ⟨h1, h2, h3, h4⟩
    exact ⟨fun c b hb => (hex _ c b).2 (h1 c b hb), h2, fun c b hb => (hex _ c b).2 (h3 c b hb), horphan.2 h4⟩
  · rintro ⟨h1, h2, h3, h4⟩
    exact ⟨fun c b hb => (hex _ c b).1 (h1 c b hb), h2, fun c b hb => (hex _ c b).1 (h3 c b hb), horphan.1 h4⟩

theorem State.drainLaw_iff {s : State} : s.DrainLaw ↔ View.Drains s.view.bag s.view.till s.view.priority := by
  have hs : (∀ b x n, s.view.bag b = some x → x.till = some n → x.state ≠ .counted → x.state ≠ .lost →
        b ∈ (s.view.till n).bags ∧ ((s.view.till n).state = .opened ∨ (s.view.till n).state = .draining)) ↔
      ∀ b x n, s.bag b = some x → x.till = some n → x.state ≠ .counted → x.state ≠ .lost →
        b ∈ (s.till n).bags ∧ ((s.till n).state = .opened ∨ (s.till n).state = .draining) := by
    constructor
    · exact fun h b x n hx => h b x.core n (State.view_bag hx)
    · intro h b x n hx
      obtain ⟨y, hy, rfl⟩ := State.view_bag_eq_some hx
      exact h b y n hy
  have hp : ∀ b, (∃ x n, s.view.bag b = some x ∧ x.till = some n ∧ (s.view.till n).state = .draining) ↔
      ∃ x n, s.bag b = some x ∧ x.till = some n ∧ (s.till n).state = .draining := by
    intro b
    simp only [exists_and_left]
    exact State.exists_view_bag (P := fun x => ∃ n, x.till = some n ∧ (s.till n).state = .draining) fun _ => .rfl
  constructor
  · rintro ⟨h1, h2⟩
    exact ⟨hs.2 h1, fun b hb => (hp b).2 (h2 b hb)⟩
  · rintro ⟨h1, h2⟩
    exact ⟨hs.1 h1, fun b hb => (hp b).1 (h2 b hb)⟩

theorem State.jobLaw_iff {s : State} : s.JobLaw ↔ View.Jobs s.view.bag s.view.duty := by
  have ha : (∀ b x, s.view.bag b = some x → x.state = .counting →
        1 ≤ (stationsOf s.view.duty b).length ∧ (stationsOf s.view.duty b).length ≤ 2) ↔
      ∀ b x, s.bag b = some x → x.state = .counting →
        1 ≤ (stationsOf s.view.duty b).length ∧ (stationsOf s.view.duty b).length ≤ 2 :=
    forall_congr' fun b => State.forall_view_bag (P := fun x => x.state = .counting →
      1 ≤ (stationsOf s.view.duty b).length ∧ (stationsOf s.view.duty b).length ≤ 2) fun _ => .rfl
  have hjob : ∀ {P : Nat → Nat → Prop}, (∀ n b, (s.view.duty n).bag = some b → P n b) ↔ ∀ n k, (s.station n).job = some k → P n k.bag := by
    intro P
    refine forall_congr' fun n => ⟨fun h k hk => h k.bag ?_, fun h b hb => ?_⟩
    · simp [State.view_duty, Station.duty, hk]
    · obtain ⟨k, hk, rfl⟩ := Option.map_eq_some_iff.1 hb
      exact h k hk
  constructor
  · rintro ⟨h1, h2, h3, h4⟩
    refine ⟨ha.2 h1, hjob.2 fun n k hk => (s.view_bagState _).trans (h2 n k hk), fun n => ⟨fun hb => ?_, h4 n⟩⟩
    obtain ⟨b, hb⟩ := Option.ne_none_iff_exists'.1 hb
    obtain ⟨k, hk, -⟩ := Option.map_eq_some_iff.1 hb
    exact h3 n k hk
  · rintro ⟨h1, h2, h3⟩
    refine ⟨ha.1 h1, fun n k hk => (s.view_bagState _).symm.trans (hjob.1 h2 n k hk), fun n k hk => (h3 n).1 ?_, fun n => (h3 n).2⟩
    simp [State.view_duty, Station.duty, hk]

theorem sum_filterMap_range (f : Nat → Option Bag) (g : Bag → Nat) (k : Nat) :
    (((List.range k).filterMap fun b => (f b).map fun x => (b, x)).map fun p => g p.2).sum = ∑ b ∈ Finset.range k, ((f b).map g).getD 0 := by
  induction k with
  | zero => rfl
  | succ k ih =>
    rw [List.range_succ, List.filterMap_append, List.map_append, List.sum_append, ih, Finset.sum_range_succ]
    cases hf : f k <;> simp [hf]

theorem State.dispatchLaw_iff {s : State} : s.DispatchLaw ↔ View.Dispatch s.view.slot s.view.bag := by
  have hsum : ∀ d, (s.bagList.map fun p => p.2.dispatched d).sum = ∑ b ∈ Finset.range 256, dispatchedBy (s.view.bag b) d := by
    intro d
    rw [State.bagList, sum_filterMap_range s.bag (fun x => x.dispatched d) 256]
    refine Finset.sum_congr rfl fun b _ => ?_
    show _ = dispatchedBy ((s.bag b).map Bag.core) d
    cases s.bag b <;> rfl
  unfold State.DispatchLaw View.Dispatch
  simp only [hsum]
  rfl

/-! ### The laws at a cold start -/

theorem nth_replicate {α : Type} {n : Nat} (d : α) (k : Nat) : nth d (Vector.replicate n d) k = d := by
  unfold nth
  split
  · rfl
  · by_cases h : k - 1 < n <;> simp [h]

theorem State.reset_till (n : Nat) : State.reset.view.till n = Till.atColdStart := nth_replicate _ n

theorem State.reset_bag (b : Nat) : State.reset.view.bag b = none := by
  refine State.view_bag_none (s := State.reset) ?_
  show (Vector.replicate 256 (none : Option Bag))[b]?.getD none = none
  by_cases h : b < 256 <;> simp [h]

theorem State.reset_slot (d : Nat) : State.reset.view.slot d = StockSlot.empty := nth_replicate _ d

theorem State.reset_duty (n : Nat) : State.reset.view.duty n = Station.atColdStart.duty :=
  congrArg Station.duty (nth_replicate Station.atColdStart n)

theorem State.reset_consignment (c : Nat) : State.reset.view.outbound c = [] ∧ State.reset.view.inbound c = [] := by
  have h : State.reset.consignment c = Consignment.atColdStart := nth_replicate _ c
  exact ⟨congrArg Consignment.outbound h, congrArg Consignment.inbound h⟩

/-- Every law of the tills, of the stock and of the bags holds at a cold start. -/
structure View.Lawful (v : View) : Prop where
  pickup   : View.Pickup v.till v.due
  floats   : View.Floats v.till v.reservations v.denoms
  areas    : View.Areas v.slot v.bag
  reserves : View.Reserves v.denoms v.slot v.reservations v.bag
  custody  : View.Custody v.bag v.queue v.jobs v.held v.received v.duty
  dispatch : View.Dispatch v.slot v.bag
  drains   : View.Drains v.bag v.till v.priority
  jobs     : View.Jobs v.bag v.duty

theorem State.reset_lawful : State.reset.view.Lawful where
  pickup := ⟨List.nodup_nil, fun n => by rw [State.reset_till]; simp [State.view, State.reset, Tps.atColdStart, Till.atColdStart],
    fun n => by rw [State.reset_till]; simp [Till.atColdStart]⟩
  floats n := by
    rw [State.reset_till]
    refine ⟨by simp [Till.atColdStart], fun c hc => ?_, fun c hc => ?_, fun c hc => ?_, fun h => absurd rfl h⟩ <;>
      simp [Till.atColdStart] at hc
  areas := ⟨fun d => by rw [State.reset_slot]; simp [StockSlot.Limited, StockSlot.empty], fun b x hx => by simp [State.reset_bag] at hx⟩
  reserves := ⟨Nat.zero_le _, fun d a _ _ => Nat.zero_le _, fun b x hx => by simp [State.reset_bag] at hx⟩
  custody := by
    have hnone : ∀ {st : BagState} (b : Nat), b ∈ ([] : List Nat) ↔ (State.reset.view.bag b).map Bag.state = some st :=
      fun b => by simp [State.reset_bag]
    exact ⟨⟨List.nodup_nil, hnone⟩, ⟨List.nodup_nil, hnone⟩, fun n b hb => by simp [State.reset_duty, Station.duty, Station.atColdStart] at hb,
      ⟨List.nodup_nil, hnone⟩, ⟨List.nodup_nil, fun b hb => by simp [State.view, State.reset, Chu.atColdStart] at hb⟩,
      fun b c x y hx => by simp [State.reset_bag] at hx⟩
  dispatch d _ _ := by
    rw [State.reset_slot]
    simp [State.reset_bag, dispatchedBy, StockSlot.empty]
  drains := ⟨fun b x n hx => by simp [State.reset_bag] at hx, fun b hb => by simp [State.view, State.reset, Br.atColdStart] at hb⟩
  jobs := ⟨fun b x hx => by simp [State.reset_bag] at hx, fun n b hb => by simp [State.reset_duty, Station.duty, Station.atColdStart] at hb,
    fun n => by rw [State.reset_duty]; exact ⟨by simp [Station.duty, Station.atColdStart], fun _ => ⟨_, rfl⟩⟩⟩

/-- A property of the view that every act keeps and that holds at a cold start is kept by every step. -/
theorem Kept.step {P : View → Prop} (hp : Kept P) (hreset : P State.reset.view) {s t : State} (h : step s = .next t) (hs : P s.view) :
    P t.view := by
  rcases step_becomes h with hpath | hcold
  · exact hp.path hpath hs
  · rw [hcold.view]
    exact hreset

/-! ### What every step keeps -/

theorem State.profile_inRange {s : State} (h : s.ProfileLaw) : s.profile.InRange := by
  unfold State.profile State.profileOf
  split
  · exact h.1
  · exact h.2

/-- A step leaves the rate of a till, brings it within the bounds of the active profile, or is a cold start. -/
theorem step_rate {s t : State} (hp : s.ProfileLaw) (h : step s = .next t) (n : Nat) :
    (t.till n).rate = (s.till n).rate ∨ (s.profile.rateMin * 16 ≤ (t.till n).rate ∧ (t.till n).rate ≤ s.profile.rateMax * 16) ∨
      t.tps = Tps.atColdStart := by
  rcases step_becomes h with hpath | hcold
  · obtain ⟨h1, h2, -⟩ := (State.profile_inRange hp).rates
    exact (hpath.rate ⟨h1, h2⟩ n).imp_right .inl
  · exact .inr (.inr hcold.tps)

/-- Settles O13: what the tills and their floats are made of is kept by each act of the view. -/
theorem stepKeepsPickupLaw : Obligations.StepKeepsPickupLaw := by
  refine ⟨fun s t hs h => ?_, fun s t hf hr h => ?_, fun s t n c hf h hn hc hlt => ?_, fun s t n hp h => step_rate hp h n,
    fun s t hp hrate h n => ?_⟩
  · exact State.pickupLaw_iff.2 (kept_pickup.step State.reset_lawful.pickup h (State.pickupLaw_iff.1 hs))
  · exact State.floatLaw_iff.2 (kept_floats.step ⟨State.reset_lawful.floats, State.reset_lawful.reserves⟩ h
      ⟨State.floatLaw_iff.1 hf, State.reservedLaw_iff.1 hr⟩).1
  · have hnone : (s.till n).pending = none := by
      rw [← Option.not_isSome_iff_eq_none]
      exact fun hsome => hn ((hf.composed n).2 hsome)
    rcases step_becomes h with hpath | hcold
    · exact hpath.floatMin hnone hc hlt
    · have : (t.till n).pending = none := by
        rw [show t.till n = t.view.till n from rfl, hcold.view, State.reset_till]
        rfl
      simp [this] at hc
  · obtain ⟨-, -, hmax⟩ := (State.profile_inRange hp).rates
    rcases step_rate hp h n with he | ⟨-, hle⟩ | hcold
    · rw [he]
      exact hrate n
    · omega
    · have : (t.till n).rate = 0 := by
        rw [State.till, hcold]
        exact congrArg Till.rate (nth_replicate Till.atColdStart n)
      omega

/-- The stock value is the value of the pieces of the four areas (R4). -/
theorem State.stockValue_eq (s : State) : s.stockValue = valueIn s.view.denoms s.view.slot := by
  unfold State.stockValue State.areaValue valueIn
  rw [← List.sum_map_add, ← List.sum_map_add, ← List.sum_map_add]
  refine congrArg List.sum (List.map_congr_left fun d _ => ?_)
  simp only [StockSlot.pieces, Nat.add_mul]
  rfl

/-- Settles O15: stock moves with the totals that tell of it, act by act. -/
theorem stepKeepsAreaLaw : Obligations.StepKeepsAreaLaw := by
  refine ⟨fun s t hs h => ?_, fun s t hs h => ?_, fun s t hr hd hl hc h => ?_⟩
  · exact State.areaLaw_iff.2 (kept_areas.step State.reset_lawful.areas h (State.areaLaw_iff.1 hs))
  · exact State.reservedLaw_iff.2 (kept_reserves.step State.reset_lawful.reserves h (State.reservedLaw_iff.1 hs))
  · rcases step_becomes h with hpath | hcold
    · have hstocked : s.view.Stocked :=
        ⟨State.reservedLaw_iff.1 hr, State.dispatchLaw_iff.1 hd, State.listLaw_iff.1 hl, State.custodyLaw_iff.1 hc⟩
      rw [State.stockValue_eq, State.stockValue_eq]
      rcases hpath.value hstocked with (hb | hday) | hopen
      · exact .inl hb
      · exact .inr (.inl hday)
      · exact .inr (.inr (.inl hopen))
    · exact .inr (.inr (.inr hcold.st))

/-- Settles O16: each act of the view moves a bag and what holds it together. -/
theorem stepKeepsCustodyLaw : Obligations.StepKeepsCustodyLaw := by
  refine ⟨fun s t hs h => ?_, fun s t hc hl hd h => ?_, fun s t hc hd h => ?_, fun s t hc hj h => ?_⟩
  · exact State.custodyLaw_iff.2 (kept_custody.step State.reset_lawful.custody h (State.custodyLaw_iff.1 hs))
  · refine State.dispatchLaw_iff.2 (kept_dispatch.step ⟨State.reset_lawful.dispatch, State.reset_lawful.custody, ?_⟩ h
      ⟨State.dispatchLaw_iff.1 hd, State.custodyLaw_iff.1 hc, State.listLaw_iff.1 hl⟩).1
    exact ⟨fun c b hb => by simp [State.reset_consignment c] at hb, fun c => by simp [State.reset_consignment c],
      fun c b hb => by simp [State.reset_consignment c] at hb, fun b x hx => by simp [State.reset_bag] at hx⟩
  · exact State.drainLaw_iff.2 (kept_drains.step ⟨State.reset_lawful.drains, State.reset_lawful.custody⟩ h
      ⟨State.drainLaw_iff.1 hd, State.custodyLaw_iff.1 hc⟩).1
  · have hreset := State.reset_lawful
    have hkept := kept_manned.step ⟨hreset.custody.jobs_iff.1 hreset.jobs, hreset.custody⟩ h
      ⟨(State.custodyLaw_iff.1 hc).jobs_iff.1 (State.jobLaw_iff.1 hj), State.custodyLaw_iff.1 hc⟩
    exact State.jobLaw_iff.2 (hkept.2.jobs_iff.2 hkept.1)

end Sys2Proof.Machine
end

section

/-! PROOFS. The capacities of the lists that notices, drops and frames fill: each shared operation keeps them. -/

namespace Sys2Proof.Machine

/-- The lists that notices, drops and frames fill lie within their capacities (R41, R92, R171, R174, R175). -/
structure State.Room (s : State) : Prop where
  deferred    : s.oc.deferred.length ≤ 32
  drops       : s.br.drops.length ≤ 4
  buffer      : s.hli.buffer.length ≤ 4
  notices     : s.hli.notices.length ≤ 32
  lineReplies : (s.hli.replies.filter Reply.ofLine).length ≤ 8

namespace State.Room

/-- Another record of the part does not touch these lists. -/
theorem of_eq {s t : State} (h : s.Room) (hh : t.hli = s.hli) (ho : t.oc.deferred = s.oc.deferred)
    (hb : t.br.drops = s.br.drops) : t.Room where
  deferred := ho ▸ h.deferred
  drops := hb ▸ h.drops
  buffer := hh ▸ h.buffer
  notices := hh ▸ h.notices
  lineReplies := hh ▸ h.lineReplies

variable {s : State}

/-- A loop of operations that each keep the capacities. -/
theorem foldl {α : Type} {f : State → α → State} (hf : ∀ u a, u.Room → (f u a).Room) (l : List α) (h : s.Room) :
    (l.foldl f s).Room :=
  List.foldlRecOn l f h fun u hu a _ => hf u a hu

/-! ### Notices and frames sent -/

theorem queueNotice (h : s.Room) (n : Notice) : (s.queueNotice n).Room := by
  have hn := (s.queueNotice_length n h.notices).2
  unfold State.queueNotice at hn ⊢
  split
  · exact h
  · split
    · rename_i hm hl
      rw [if_neg hm, if_pos hl] at hn
      exact { deferred := h.deferred, drops := h.drops, buffer := h.buffer, notices := hn, lineReplies := h.lineReplies }
    · exact { deferred := h.deferred, drops := h.drops, buffer := h.buffer, notices := h.notices, lineReplies := h.lineReplies }

theorem deferNotice (h : s.Room) (n : Notice) : (s.deferNotice n).Room := by
  unfold State.deferNotice
  split
  · rename_i hl
    refine { deferred := ?_, drops := h.drops, buffer := h.buffer, notices := h.notices, lineReplies := h.lineReplies }
    simp only [List.length_append, List.length_cons, List.length_nil]
    omega
  · exact h.of_eq rfl rfl rfl

theorem place (h : s.Room) (k : NoticeKind) (ds : List Datum) : (s.place k ds).Room := by
  unfold State.place
  split
  · exact h.queueNotice _
  · exact h.deferNotice _

/-- A notice placed once another record of the part has changed. -/
theorem notice (h : s.Room) {t : State} {k : NoticeKind} {ds : List Datum} (hh : t.hli = s.hli)
    (ho : t.oc.deferred = s.oc.deferred) (hb : t.br.drops = s.br.drops) : (t.place k ds).Room :=
  (h.of_eq hh ho hb).place k ds

theorem send (h : s.Room) (r : SentRecord) : (s.send r).Room := h.of_eq rfl rfl rfl

/-! ### Bags and the count queue -/

theorem changeBag (h : s.Room) (b : Nat) (f : Bag → Bag) : (s.changeBag b f).Room := by
  unfold State.changeBag
  split
  · exact h
  · exact h.of_eq rfl rfl rfl

theorem moveBag (h : s.Room) (b : Nat) (st : BagState) : (s.moveBag b st).Room := h.changeBag b _

theorem enqueueTail (h : s.Room) (b : Nat) (c : QueueClass) : (s.enqueueTail b c).Room := by
  unfold State.enqueueTail
  cases c with
  | priority => exact (h.changeBag b _).of_eq rfl rfl rfl
  | ordinary => exact (h.changeBag b _).of_eq rfl rfl rfl

theorem enqueueHead (h : s.Room) (b : Nat) (c : QueueClass) : (s.enqueueHead b c).Room := by
  unfold State.enqueueHead
  cases c with
  | priority => exact (h.changeBag b _).of_eq rfl rfl rfl
  | ordinary => exact (h.changeBag b _).of_eq rfl rfl rfl

theorem dequeue (h : s.Room) (b : Nat) : (s.dequeue b).Room := (h.changeBag b _).of_eq rfl rfl rfl

theorem drainToPriority (h : s.Room) (n : Nat) : (s.drainToPriority n).Room := by
  unfold State.drainToPriority
  exact (h.foldl (fun u b hu => hu.changeBag b _) _).of_eq rfl rfl rfl

/-! ### Tills -/

theorem reconcile (h : s.Room) (n : Nat) : (s.reconcile n).Room := by
  unfold State.reconcile
  dsimp only
  split
  · exact h.notice rfl rfl rfl
  · exact h

theorem tellCounted (h : s.Room) (b : Nat) : (s.tellCounted b).Room := by
  unfold State.tellCounted
  split
  · exact h
  · split
    · exact h
    · exact (h.of_eq rfl rfl rfl : State.Room (s.changeTill _ _)).reconcile _

theorem loseBag (h : s.Room) (b : Nat) : (s.loseBag b).Room := by
  have hm := h.moveBag b .lost
  unfold State.loseBag
  dsimp only
  split
  · exact hm.of_eq rfl rfl rfl
  · refine State.Room.reconcile ?_ _
    exact hm.of_eq rfl rfl rfl

theorem evaluate (h : s.Room) (n m : Nat) : (s.evaluate n m).Room := by
  unfold State.evaluate
  dsimp only
  split
  · exact h
  · split
    · exact h.notice rfl rfl rfl
    · split
      · exact h.notice rfl rfl rfl
      · exact h

theorem minuteEvent (h : s.Room) (m : Nat) : (s.minuteEvent m).Room := by
  unfold State.minuteEvent
  refine State.Room.foldl (fun _ n hu => hu.evaluate n m) (upTo 96) ?_
  exact h.of_eq rfl rfl rfl

theorem tellMinute (h : s.Room) : s.tellMinute.Room := by
  unfold State.tellMinute
  split
  · exact h.minuteEvent _
  · exact h

theorem floatExpired (h : s.Room) (n : Nat) : (s.floatExpired n).Room :=
  h.notice rfl rfl rfl

/-! ### Stock and credits -/

theorem changeSlots (h : s.Room) {α : Type} (l : List α) (d : α → Nat) (f : α → StockSlot → StockSlot) :
    (l.foldl (fun u a => u.changeSlot (d a) (f a)) s).Room :=
  h.foldl (f := fun u a => u.changeSlot (d a) (f a)) (fun _ _ hu => hu.of_eq rfl rfl rfl) l

theorem applyCredit (h : s.Room) (b : Nat) (t : Vector Counts 12) : (s.applyCredit b t).Room := by
  have hs := h.changeSlots s.slots id fun d => StockSlot.add (nth default t d)
  unfold State.applyCredit
  refine State.Room.tellCounted (State.Room.moveBag ?_ b _) b
  exact hs.of_eq rfl rfl rfl

theorem addSuspects (h : s.Room) (t : Vector Counts 12) : (s.addSuspects t).Room := by
  have hs := h.changeSlots s.slots id fun d x => { x with suspect := min (x.suspect + (nth default t d).suspect) pieceLimit }
  unfold State.addSuspects
  exact hs.of_eq rfl rfl rfl

theorem credit (h : s.Room) (b : Nat) (t : Vector Counts 12) : (s.credit b t).Room := by
  have ha := h.addSuspects t
  unfold State.credit
  dsimp only
  split
  · exact ha.applyCredit b t
  · refine State.Room.place (State.Room.moveBag ?_ b _) _ _
    exact ha.of_eq rfl rfl rfl

theorem retryOne (h : s.Room) (p : Nat × Source) (e : HeldCredit) : (State.retryOne p s e).Room := by
  unfold State.retryOne
  split
  · split
    · refine State.Room.applyCredit ?_ _ _
      exact h.of_eq rfl rfl rfl
    · exact h.of_eq rfl rfl rfl
  · exact h

theorem retryPasses (h : s.Room) (ps : List (Nat × Source)) : (s.retryPasses ps).Room :=
  h.foldl (fun _ p hu => hu.foldl (fun _ e hv => hv.retryOne p e) _) ps

theorem takeLines (h : s.Room) (ls : List ContentLine) : (s.takeLines ls).Room :=
  h.changeSlots ls ContentLine.slot _

/-! ### Drops -/

theorem decideShutter (h : s.Room) : s.decideShutter.Room := by
  unfold State.decideShutter
  split
  · split
    · exact h
    · exact h.notice rfl rfl rfl
  · split
    · exact h
    · exact h.notice rfl rfl rfl

theorem orphanDrop (h : s.Room) (q : Option Nat) (r : OrphanReason) : (s.orphanDrop q r).Room := by
  unfold State.orphanDrop
  split
  · exact h.place _ _
  · rename_i b rest _
    have hp := (h.of_eq rfl rfl rfl : (s.setBag b (some { newBag .unknown .orphan s.oc.clock with sealNo := q })).Room).place
      .orphanBag ([.present true, .byte b, .sealNo (q.getD 0)] ++ r.fields ++ [.count rest.length])
    dsimp only
    split
    · exact hp.decideShutter
    · exact hp

theorem resolveDrop (h : s.Room) (q : Option Nat) : (s.resolveDrop q).Room := by
  unfold State.resolveDrop
  split
  · exact h.orphanDrop _ _
  · split
    · exact h.orphanDrop _ _
    · split
      · exact (h.enqueueTail _ _).place _ _
      · exact h.orphanDrop _ _

/-- The oldest drop leaves the list. -/
theorem dropOne (h : s.Room) {d : PendingDrop} {ds : List PendingDrop} (hd : s.br.drops = d :: ds) :
    ({ s with br := { s.br with drops := ds } } : State).Room where
  deferred := h.deferred
  drops := by
    have := h.drops
    rw [hd, List.length_cons] at this
    exact Nat.le_of_succ_le this
  buffer := h.buffer
  notices := h.notices
  lineReplies := h.lineReplies

theorem resolveOldest (h : s.Room) (q : Option Nat) : (s.resolveOldest q).Room := by
  unfold State.resolveOldest
  split
  · exact h
  · rename_i d ds hd
    exact (h.dropOne hd).resolveDrop q

end State.Room

/-- Resolving a drop leaves the pending drops as they stand. -/
@[simp] theorem State.changeBag_drops (s : State) (b : Nat) (f : Bag → Bag) : (s.changeBag b f).br.drops = s.br.drops := by
  unfold State.changeBag
  split
  · rfl
  · rfl

@[simp] theorem State.enqueueTail_drops (s : State) (b : Nat) (c : QueueClass) : (s.enqueueTail b c).br.drops = s.br.drops := by
  cases c with
  | priority => exact s.changeBag_drops b _
  | ordinary => exact s.changeBag_drops b _

@[simp] theorem State.orphanDrop_drops (s : State) (q : Option Nat) (r : OrphanReason) : (s.orphanDrop q r).br.drops = s.br.drops := by
  unfold State.orphanDrop
  split
  · simp
  · dsimp only
    split
    · simp
    · simp

@[simp] theorem State.resolveDrop_drops (s : State) (q : Option Nat) : (s.resolveDrop q).br.drops = s.br.drops := by
  unfold State.resolveDrop
  split
  · simp
  · split
    · simp
    · dsimp only
      split
      · simp
      · simp

/-- A full list makes room for a passage (R92). -/
theorem State.resolveOldest_drops (s : State) (q : Option Nat) : (s.resolveOldest q).br.drops = s.br.drops.tail := by
  unfold State.resolveOldest
  split
  · rename_i h
    rw [h]
    rfl
  · rename_i h
    rw [h, State.resolveDrop_drops]
    rfl

theorem State.Room.passage {s : State} (h : s.Room) : s.passage.Room := by
  have hlen := h.drops
  have key : ∀ u : State, u.Room → u.br.drops.length < 4 →
      ({ u with br := { u.br with drops := u.br.drops ++ [({ began := s.oc.clock, wait := 2 } : PendingDrop)] } } : State).Room := by
    intro u hu hl
    refine { deferred := hu.deferred, drops := ?_, buffer := hu.buffer, notices := hu.notices, lineReplies := hu.lineReplies }
    simp only [List.length_append, List.length_cons, List.length_nil]
    omega
  unfold State.passage
  dsimp only
  split
  · rename_i hl
    exact key s h hl
  · refine key _ (h.resolveOldest none) ?_
    rw [State.resolveOldest_drops, List.length_tail]
    omega

end Sys2Proof.Machine
end

section

/-! PROOFS. The capacities of the lists that notices, drops and frames fill: the lock, the handover and the stations keep them. -/

namespace Sys2Proof.Machine.State.Room

variable {s : State}

/-! ### The lock -/

theorem lockNotice (h : s.Room) (c : LockCause) : (s.lockNotice c).Room := h.place _ _

theorem enterLock (h : s.Room) (st : LockState) (o : Option Opening) (n : Option Nat) (c : LockCause) :
    (s.enterLock st o n c).Room := by
  unfold State.enterLock
  refine State.Room.lockNotice ?_ _
  exact h.of_eq rfl rfl rfl

theorem tellWindow (h : s.Room) : s.tellWindow.Room := by
  unfold State.tellWindow
  split
  · split
    · exact h.of_eq rfl rfl rfl
    · exact h
  · exact h

theorem enterWindow (h : s.Room) (o : Opening) (c : LockCause) : (s.enterWindow o c).Room := by
  unfold State.enterWindow
  refine State.Room.lockNotice ?_ _
  split
  · refine State.Room.tellWindow ?_
    exact h.of_eq rfl rfl rfl
  · exact h.of_eq rfl rfl rfl

theorem enterDelay (h : s.Room) (o : Opening) (c : LockCause) : (s.enterDelay o c).Room := by
  unfold State.enterDelay
  split
  · exact h.enterWindow _ _
  · exact h.enterLock _ _ _ _

theorem takeCollection (h : s.Room) : s.takeCollection.Room := h.enterDelay _ _

theorem boltConfirmed (h : s.Room) : s.boltConfirmed.Room := by
  have h1 : (s.changeSlc fun l => { l with pendingCollection := false }).Room := h.of_eq rfl rfl rfl
  unfold State.boltConfirmed
  dsimp only
  split
  · exact h1.enterDelay _ _
  · split
    · exact (h1.enterLock _ _ _ _).takeCollection
    · exact h1.enterLock _ _ _ _

theorem enterSecuring (h : s.Room) (c : LockCause) : (s.enterSecuring c).Room := by
  unfold State.enterSecuring
  dsimp only
  split
  · exact (h.enterLock _ _ _ _).boltConfirmed
  · exact h.enterLock _ _ _ _

/-! ### Collections and handovers -/

theorem collectionRequest (h : s.Room) : s.collectionRequest.1.Room := by
  unfold State.collectionRequest
  split
  · exact h
  · exact h
  · split
    · exact h
    · dsimp only
      split
      · exact h.takeCollection
      · exact h.of_eq rfl rfl rfl
      · exact h.of_eq rfl rfl rfl
      · exact h.of_eq rfl rfl rfl
      · exact h.of_eq rfl rfl rfl
      · exact h

theorem cancelCollection (h : s.Room) : s.cancelCollection.Room := by
  have h1 : (s.changeSlc fun l => { l with pendingCollection := false }).Room := h.of_eq rfl rfl rfl
  unfold State.cancelCollection
  dsimp only
  split
  · exact h1
  · split
    · split
      · exact h1.enterLock _ _ _ _
      · exact h1.of_eq rfl rfl rfl
    · exact h1

theorem missedNotice (h : s.Room) (c : Nat) : (s.missedNotice c).Room := h.place _ _

theorem missConsignment (h : s.Room) (c : Nat) : (s.missConsignment c).Room := by
  unfold State.missConsignment
  split
  · refine State.Room.missedNotice ?_ _
    exact h.of_eq rfl rfl rfl
  · exact h

theorem moveBags (h : s.Room) (bs : List Nat) (st : BagState) : (bs.foldl (fun u b => u.moveBag b st) s).Room :=
  h.foldl (fun _ b hu => hu.moveBag b st) bs

theorem abandonHandover (h : s.Room) (r : AbandonReason) : (s.abandonHandover r).Room := by
  unfold State.abandonHandover
  split
  · exact h
  · rename_i x _
    have h3 := ((h.moveBags (s.bagsIn (s.consignment x.consignment).outbound .scanned) .sealed).moveBags
      (s.bagsIn (s.consignment x.consignment).inbound .received) .expected).cancelCollection
    have h5 : ∀ c : ConsignmentState, ∀ ds, ((((State.cancelCollection _).changeConsignment x.consignment
        fun y => { y with state := c }).setHandover none).place .handoverAbandoned ds).Room :=
      fun c ds => h3.notice rfl rfl rfl
    dsimp only
    split
    · split
      · exact h5 _ _
      · exact (h5 _ _).missedNotice _
    · refine State.Room.send ?_ _
      split
      · exact h5 _ _
      · exact (h5 _ _).missedNotice _

theorem tellOpeningLost (h : s.Room) : s.tellOpeningLost.Room := by
  unfold State.tellOpeningLost
  split
  · split
    · exact h.abandonHandover _
    · exact h
  · exact h

theorem raiseBoltFault (h : s.Room) : s.raiseBoltFault.Room := by
  have h1 : (s.changeSlc fun l => l.toAlarm false true).Room := h.of_eq rfl rfl rfl
  unfold State.raiseBoltFault
  refine State.Room.place ?_ _ _
  split
  · exact h1.tellOpeningLost
  · exact h1

theorem raiseForcedDoor (h : s.Room) : s.raiseForcedDoor.Room := by
  have h1 : (s.changeSlc fun l => l.toAlarm true false).Room := h.of_eq rfl rfl rfl
  unfold State.raiseForcedDoor
  refine State.Room.place ?_ _ _
  split
  · exact h1.tellOpeningLost
  · exact h1

/-! ### Sense lines -/

theorem doorEvent (h : s.Room) (x : DoorSense) : (s.doorEvent x).Room := by
  have h1 : (s.changeSlc fun l => { l with door := x }).Room := h.of_eq rfl rfl rfl
  unfold State.doorEvent
  dsimp only
  split
  · exact h1.enterLock _ _ _ _
  · exact h1
  · split
    · exact h1
    · exact h1.raiseForcedDoor
  · exact h1.raiseForcedDoor
  · exact h1.raiseForcedDoor
  · exact h1.raiseForcedDoor
  · exact h1.enterSecuring _
  · exact h1

theorem boltEvent (h : s.Room) (x : BoltSense) : (s.boltEvent x).Room := by
  have h1 : (s.changeSlc fun l => { l with bolt := x }).Room := h.of_eq rfl rfl rfl
  unfold State.boltEvent
  dsimp only
  split
  · exact h1.boltConfirmed
  · exact h1
  · exact h1.raiseBoltFault
  · exact h1.raiseBoltFault
  · split
    · exact h1
    · exact h1.raiseBoltFault
  · exact h1

theorem slotEvent (h : s.Room) (x : SlotSense) : (s.slotEvent x).Room := by
  have h1 : (s.changeSlc fun l => { l with slot := x }).Room := h.of_eq rfl rfl rfl
  unfold State.slotEvent
  dsimp only
  split
  · exact h1.passage
  · exact h1

theorem resolveLock (h : s.Room) : s.resolveLock.Room := by
  have h1 : s.recomputeLock.Room := h.of_eq rfl rfl rfl
  unfold State.resolveLock
  dsimp only
  split
  · exact h1.place _ _
  · exact h1

/-! ### The arbiter -/

theorem changeStations (h : s.Room) (ns : List Nat) (f : Nat → Station → Station) :
    (ns.foldl (fun u n => u.changeStation n (f n)) s).Room :=
  h.foldl (f := fun u n => u.changeStation n (f n)) (fun _ _ hu => hu.of_eq rfl rfl rfl) ns

theorem changeJobs (h : s.Room) (js : List CountJob) : ({ s with csc := { s.csc with jobs := js } } : State).Room :=
  h.of_eq rfl rfl rfl

theorem sendStations (h : s.Room) (ns : List Nat) (r : ToStation) : (ns.foldl (fun u n => u.sendStation n r) s).Room :=
  h.foldl (f := fun u n => u.sendStation n r) (fun _ _ hu => hu.of_eq rfl rfl rfl) ns

theorem assign (h : s.Room) (b : Nat) (as : List (Nat × Portion × Option Nat)) : (s.assign b as).Room := by
  have hd := h.dequeue b
  unfold State.assign
  refine State.Room.foldl (fun u a hu => ?_) as ?_
  · exact hu.of_eq rfl rfl rfl
  · exact hd.of_eq rfl rfl rfl

theorem arbiterStep (h : s.Room) {t : State} (ht : s.arbiterStep = some t) : t.Room := by
  unfold State.arbiterStep at ht
  split at ht
  · simp at ht
  · simp at ht
  · split at ht
    · split at ht
      · obtain rfl : _ = t := by simpa only [Option.some.injEq] using ht
        exact h.assign _ _
      · dsimp only at ht
        split at ht
        · split at ht
          · obtain rfl : _ = t := by simpa only [Option.some.injEq] using ht
            exact (h.assign _ _).changeBag _ _
          · simp at ht
        · simp at ht
    · obtain rfl : _ = t := by simpa only [Option.some.injEq] using ht
      exact h.assign _ _

theorem arbiterSteps (k : Nat) : ∀ {s : State}, s.Room → (State.arbiterSteps k s).Room := by
  induction k with
  | zero => exact id
  | succ k ih =>
    intro s h
    unfold State.arbiterSteps
    split
    · exact h
    · rename_i t ht
      exact ih (h.arbiterStep ht)

theorem arbiterPass (h : s.Room) : s.arbiterPass.Room := by
  unfold State.arbiterPass
  split
  · exact arbiterSteps 4 h
  · exact h

theorem sendGos (h : s.Room) : s.sendGos.Room := by
  unfold State.sendGos
  refine h.foldl (fun u n hu => ?_) (upTo 4)
  split
  · exact hu.of_eq rfl rfl rfl
  · exact hu

theorem pause (h : s.Room) (n : Nat) : (s.pause n).Room := by
  unfold State.pause
  split
  · exact h.of_eq rfl rfl rfl
  · exact h

/-! ### Aborts and halts -/

theorem stationNotice (h : s.Room) (n : Nat) (a : Option AbortReason) : (s.stationNotice n a).Room := h.place _ _

theorem requeueAborted (h : s.Room) (b : Nat) (r : AbortReason) : (s.requeueAborted b r).Room := by
  unfold State.requeueAborted
  split
  · exact h
  · rename_i x _
    have h1 : ∀ o, (s.setBag b o).Room := fun o => h.of_eq rfl rfl rfl
    dsimp only
    split
    · exact (h1 _).enqueueHead _ _
    · exact ((h1 _).moveBag _ _).place _ _

theorem abortJob (h : s.Room) (n : Nat) (r : AbortReason) : (s.abortJob n r).Room := by
  unfold State.abortJob
  split
  · exact h
  · rename_i j _
    have h1 := h.sendStations (s.jobStations j.bag) .abort
    refine State.Room.foldl (fun _ m hu => hu.stationNotice m _) _ (State.Room.requeueAborted (State.Room.changeStations ?_ _ _) _ _)
    exact h1.of_eq rfl rfl rfl

theorem hold (h : s.Room) (n : Nat) (r : HoldReason) : (s.hold n r).Room := by
  unfold State.hold
  refine State.Room.stationNotice (State.Room.pause ?_ _) _ _
  exact h.of_eq rfl rfl rfl

theorem holdPartner (h : s.Room) (n : Nat) : (s.holdPartner n).Room := by
  unfold State.holdPartner
  split
  · exact h
  · dsimp only
    split
    · exact h
    · split
      · refine State.Room.hold ?_ _ _
        exact h.of_eq rfl rfl rfl
      · exact h

theorem halt (h : s.Room) (n : Nat) (r : HoldReason) : (s.halt n r).Room := (h.hold n r).holdPartner n

theorem haltIf (h : s.Room) (n b : Nat) (w : Bool) (r : HoldReason) : (s.haltIf n b w r).Room := by
  unfold State.haltIf
  split
  · exact h.halt _ _
  · exact h

/-! ### Completion -/

theorem countNotices (h : s.Room) (b : Nat) (x : Bag) (j : CountJob) (r : CountResult) : (s.countNotices b x j r).Room := by
  have h1 := fun ds => h.place .countDone ds
  have h2 : ∀ ds es, (if r.flag then (s.place .countDone ds).place .variance es else s.place .countDone ds).Room := by
    intro ds es
    split
    · exact (h1 ds).place _ _
    · exact h1 ds
  unfold State.countNotices
  dsimp only
  split
  · exact h2 _ _
  · exact (h2 _ _).place _ _

theorem completeJob (h : s.Room) (b : Nat) : (s.completeJob b).Room := by
  unfold State.completeJob
  split
  · rename_i j x _ _
    have hb : ∀ o, (s.setBag b o).Room := fun o => h.of_eq rfl rfl rfl
    have hc := ((hb (some { x with result := some (s.countResult j (x.declared.getD 0)) })).countNotices b x j
      (s.countResult j (x.declared.getD 0))).credit b (s.countResult j (x.declared.getD 0)).tally
    exact (hc.changeJobs _).changeStations _ _
  · exact h

theorem completePortion (h : s.Room) (n : Nat) (k : StationJob) : (s.completePortion n k).Room := by
  have h1 : (s.changeStation n fun x => { x with silence := none, job := some { k with complete := true } }).Room :=
    h.of_eq rfl rfl rfl
  unfold State.completePortion
  dsimp only
  split
  · exact h1.completeJob _
  · split
    · exact h1.completeJob _
    · exact h1

/-! ### Records of the stations -/

theorem tallyOr (h : s.Room) (b n d : Nat) (f : Counts → Counts) (o : Option Nat) (t : Vector Counts 12) :
    (s.tallyOr b n d f o t).Room := by
  unfold State.tallyOr
  dsimp only
  split
  · exact h.of_eq rfl rfl rfl
  · exact h.abortJob _ _

theorem applyCounting (h : s.Room) (n : Nat) (k : StationJob) (j : CountJob) (r : StationRecord) :
    (s.applyCounting n k j r).Room := by
  have ha := h.abortJob n .sequence
  unfold State.applyCounting
  cases r with
  | ready => exact ha
  | sealRead q => exact ha
  | strap d p g =>
    dsimp only
    split
    · exact h.tallyOr _ _ _ _ _ _
    · exact ha
  | suspect d =>
    dsimp only
    split
    · exact (h.tallyOr _ _ _ _ _ _).haltIf _ _ _ _
    · exact ha
  | doubt d =>
    dsimp only
    split
    · refine State.Room.haltIf ?_ _ _ _ _
      exact h.of_eq rfl rfl rfl
    · exact ha
  | doubtCleared a =>
    dsimp only
    split
    · exact ha
    · split
      · exact h.tallyOr _ _ _ _ _ _
      · exact (h.tallyOr _ _ _ _ _ _).haltIf _ _ _ _
  | jam => exact h.halt _ _
  | totals t =>
    dsimp only
    split
    · exact ha
    · split
      · exact h.completePortion _ _
      · exact h.abortJob _ _

theorem applyRecord (h : s.Room) (n : Nat) (r : StationRecord) : (s.applyRecord n r).Room := by
  have ha := h.abortJob n .sequence
  unfold State.applyRecord
  split
  · split
    · split
      · split
        · exact h.of_eq rfl rfl rfl
        · exact ha
      · exact ha
    · split
      · exact ha
      · exact h.applyCounting _ _ _ _
    · exact h
  · exact h

theorem drain (k n : Nat) : ∀ {s : State}, s.Room → (State.drain k n s).Room := by
  induction k with
  | zero => exact id
  | succ k ih =>
    intro s h
    unfold State.drain
    split
    · exact h
    · split
      · refine ih (State.Room.applyRecord ?_ _ _)
        exact h.of_eq rfl rfl rfl
      · exact h

theorem enterIntake (h : s.Room) (n : Nat) (r : StationRecord) : (s.enterIntake n r).Room := by
  unfold State.enterIntake
  dsimp only
  split
  · refine drain _ _ ?_
    exact h.of_eq rfl rfl rfl
  · exact h.abortJob _ _

theorem stationOnline (h : s.Room) (n : Nat) : (s.stationOnline n).Room := by
  unfold State.stationOnline
  split
  · refine State.Room.stationNotice ?_ _ _
    exact h.of_eq rfl rfl rfl
  · exact h

theorem stationArrival (h : s.Room) (n : Nat) (r : StationRecord) : (s.stationArrival n r).Room := by
  unfold State.stationArrival
  dsimp only
  split
  · split
    · split
      · exact h.stationOnline _
      · exact h
    · exact h
  · split
    · split
      · exact h
      · exact h.enterIntake _ _
    · exact h.enterIntake _ _

theorem endHold (h : s.Room) (n : Nat) : (s.endHold n).Room := by
  unfold State.endHold
  dsimp only
  split
  · refine State.Room.stationNotice ?_ _ _
    exact h.of_eq rfl rfl rfl
  · exact h

theorem endHolds (h : s.Room) (b : Nat) : (s.endHolds b).Room := by
  unfold State.endHolds
  exact (h.foldl (fun _ n hu => hu.endHold n) _).foldl (fun u n hu => drain _ n hu) _

theorem resolveJobs (h : s.Room) : s.resolveJobs.Room := by
  have h1 : ((upTo 4).foldl (fun u n => if (u.station n).job.isSome then u.sendStation n .abort else u) s).Room := by
    refine h.foldl (fun u n hu => ?_) (upTo 4)
    split
    · exact hu.of_eq rfl rfl rfl
    · exact hu
  unfold State.resolveJobs
  refine State.Room.changeStations (State.Room.foldl (fun _ b hu => hu.requeueAborted b _) _ ?_) _ _
  exact h1.of_eq rfl rfl rfl

end Sys2Proof.Machine.State.Room
end

section

/-! PROOFS. The capacities of the lists that notices, drops and frames fill: the end of an operation, the lines, the starts and the
requests keep them. -/

namespace Sys2Proof.Machine.State.Room

variable {s : State}

/-! ### The end of an operation -/

theorem endPass (h : s.Room) (u : State) : (u.endPass s).Room := by
  unfold State.endPass
  refine State.Room.sendGos ?_
  split
  · exact h.arbiterPass
  · exact h

theorem closeDay (h : s.Room) : s.closeDay.Room := by
  unfold State.closeDay
  refine State.Room.decideShutter ?_
  exact h.of_eq rfl rfl rfl

theorem closingTest (h : s.Room) : s.closingTest.Room := by
  unfold State.closingTest
  split
  · exact h.closeDay.place _ _
  · exact h

theorem settle (h : s.Room) (u : State) : (u.settle s).Room := (h.endPass u).closingTest

/-! ### The host line -/

theorem startTx (h : s.Room) : s.startTx.Room := by
  unfold State.startTx
  split
  · split
    · rename_i r rs hr
      have hl := h.lineReplies
      rw [hr] at hl
      refine { deferred := h.deferred, drops := h.drops, buffer := h.buffer, notices := h.notices, lineReplies := ?_ }
      exact (((List.sublist_cons_self r rs).filter _).length_le).trans hl
    · split
      · exact { deferred := h.deferred, drops := h.drops, buffer := h.buffer, notices := h.notices, lineReplies := h.lineReplies }
      · exact h
  · exact h

/-- A break leaves at most one place of the buffer, and no reply and no notice waits (R177). -/
theorem broken (h : s.Room) (r : Option Reply) : ({ s with hli := { s.hli.broken with lastReply := r } } : State).Room where
  deferred := h.deferred
  drops := h.drops
  buffer := by
    have hb := h.buffer
    dsimp only [Hli.broken]
    split
    · split
      · exact (s.hli.buffer.length_take_le' 1).trans hb
      · exact Nat.zero_le _
    · exact Nat.zero_le _
  notices := Nat.zero_le _
  lineReplies := Nat.zero_le _

/-- A reply with a place of the buffer is none of the line's own. -/
theorem queueReply (h : s.Room) {r : Reply} (hr : r.holdsPlace = true) : (s.queueReply r).Room := by
  have hl : ((s.hli.replies ++ [r]).filter Reply.ofLine).length ≤ 8 := by
    rw [List.filter_append, List.filter_cons_of_neg (by simp [Reply.ofLine, hr]), List.filter_nil, List.append_nil]
    exact h.lineReplies
  have hb : (markTaken s.hli.buffer).length ≤ 4 := (markTaken_length _).trans_le h.buffer
  obtain ⟨-, he⟩ | ⟨-, -, he⟩ | ⟨-, -, he⟩ := s.queueReply_cases r
  · rw [he]
    exact { deferred := h.deferred, drops := h.drops, buffer := hb, notices := h.notices, lineReplies := hl }
  · rw [he]
    exact { deferred := h.deferred, drops := h.drops, buffer := hb, notices := h.notices, lineReplies := hl }
  · rw [he]
    exact (h.broken (some r)).of_eq rfl rfl rfl

theorem formReply (h : s.Room) (i : Instr) (c : Option Code) (ds : List Datum) : (s.formReply i c ds).Room := by
  have hlast : ∀ r, ({ s with hli := { s.hli with lastReply := r } } : State).Room := fun r =>
    { deferred := h.deferred, drops := h.drops, buffer := h.buffer, notices := h.notices, lineReplies := h.lineReplies }
  unfold State.formReply
  split
  · split
    · exact h.queueReply rfl
    · exact hlast _
  · exact hlast _

theorem lineReply (h : s.Room) (t k : Nat) (c : Code) : (s.lineReply t k c).Room := by
  unfold State.lineReply
  split
  · rename_i hl
    refine { deferred := h.deferred, drops := h.drops, buffer := h.buffer, notices := h.notices, lineReplies := ?_ }
    rw [List.filter_append, List.length_append]
    exact Nat.add_le_add (Nat.le_of_lt_succ hl) (List.length_filter_le _ [_])
  · exact h

theorem answerFrame (h : s.Room) (t k : Nat) (c : Code) : (s.answerFrame t k c).Room := (h.lineReply t k c).startTx

theorem setRx (h : s.Room) (bs : List Byte) : (s.setRx bs).Room where
  deferred := h.deferred
  drops := h.drops
  buffer := h.buffer
  notices := h.notices
  lineReplies := h.lineReplies

theorem rejectFrame (h : s.Room) : s.rejectFrame.Room := (h.setRx []).answerFrame _ _ _

theorem takeFrame (h : s.Room) (k t : Nat) (body : List Byte) : (s.takeFrame k t body).Room := by
  unfold State.takeFrame
  split
  · exact h.answerFrame _ _ _
  · split
    · exact h.answerFrame _ _ _
    · split
      · rename_i hl
        refine { deferred := h.deferred, drops := h.drops, buffer := ?_, notices := h.notices, lineReplies := h.lineReplies }
        rw [List.length_append]
        exact Nat.succ_le_of_lt hl
      · exact h.answerFrame _ _ _

theorem endFrame (h : s.Room) (bs : List Byte) : (s.endFrame bs).Room := by
  unfold State.endFrame
  dsimp only
  split
  · exact (h.setRx []).takeFrame _ _ _
  · exact h.rejectFrame

theorem takeByte (h : s.Room) (b : Byte) : (s.takeByte b).Room := by
  unfold State.takeByte
  split
  · exact h
  · split
    · split
      · exact h.setRx _
      · exact h
    · dsimp only
      split
      · exact h.setRx _
      · split
        · exact h.rejectFrame
        · split
          · exact h.setRx _
          · exact h.endFrame _

theorem replySent (h : s.Room) : s.replySent.Room := by
  unfold State.replySent
  split
  · refine { deferred := h.deferred, drops := h.drops, buffer := ?_, notices := h.notices, lineReplies := h.lineReplies }
    dsimp only
    split
    · rw [List.length_drop]
      exact (Nat.sub_le _ _).trans h.buffer
    · exact h.buffer
  · exact h

theorem noticeSent (h : s.Room) : s.noticeSent.Room := by
  unfold State.noticeSent
  split
  · refine { deferred := h.deferred, drops := h.drops, buffer := h.buffer, notices := ?_, lineReplies := h.lineReplies }
    dsimp only
    split
    · rw [List.length_drop]
      exact (Nat.sub_le _ _).trans h.notices
    · exact h.notices
  · exact h

/-! ### The dock and the receivers -/

theorem dockRefuse (h : s.Room) (c : Code) : (s.dockRefuse c).Room := h.send _

theorem beginHandover (h : s.Room) (c u : Nat) (a : CollectionAnswer) : (s.beginHandover c u a).Room :=
  h.of_eq (by simp) (by simp) (by simp)

theorem dockPresent (h : s.Room) (u r : Nat) : (s.dockPresent u r).Room := by
  unfold State.dockPresent
  dsimp only
  split
  · exact h.dockRefuse _
  · split
    · exact h.dockRefuse _
    · split
      · exact h.dockRefuse _
      · split
        · exact h.dockRefuse _
        · split
          · exact h.dockRefuse _
          · exact h.collectionRequest.beginHandover _ _ _

theorem setHandover (h : s.Room) (x : Option Handover) : (s.setHandover x).Room := h.of_eq rfl rfl rfl

theorem foreignScan (h : s.Room) (x : Handover) : (s.foreignScan x).Room := by
  have h1 := (h.setHandover (some { x with foreign := x.foreign + 1 })).dockRefuse .absent
  unfold State.foreignScan
  dsimp only
  split
  · exact h1.abandonHandover _
  · exact h1

theorem dockScan (h : s.Room) (x : Handover) (q : Nat) : (s.dockScan x q).Room := by
  unfold State.dockScan
  dsimp only
  split
  · exact h.dockRefuse _
  · split
    · exact h.foreignScan _
    · split
      · split
        · exact (h.moveBag _ _).send _
        · split
          · exact h.dockRefuse _
          · exact h.foreignScan _
      · split
        · split
          · exact ((h.moveBag _ _).setHandover _).send _
          · split
            · exact h.dockRefuse _
            · exact h.foreignScan _
        · exact h.foreignScan _

theorem tellOc (h : s.Room) (f : Totals → Totals) : (s.tellOc f).Room := h.of_eq rfl rfl rfl

theorem changeConsignment (h : s.Room) (c : Nat) (f : Consignment → Consignment) : (s.changeConsignment c f).Room :=
  h.of_eq rfl rfl rfl

theorem handOverBag (h : s.Room) (b : Nat) : (s.handOverBag b).Room := by
  unfold State.handOverBag State.leaveDispatch
  exact (h.changeSlots _ ContentLine.slot fun l x => { x with dispatch := x.dispatch - l.pieces }).moveBag _ _

theorem completeHandover (h : s.Room) (x : Handover) : (s.completeHandover x).Room := by
  have h1 : ∀ bs : List Nat, (bs.foldl State.handOverBag s).Room := fun bs => h.foldl (fun _ b hu => hu.handOverBag b) bs
  have h2 : ∀ (bs : List Nat) {u : State}, u.Room → (bs.foldl (fun v b => v.enqueueTail b .ordinary) u).Room := fun bs _ hu =>
    hu.foldl (fun _ b hv => hv.enqueueTail b _) bs
  have h3 : ∀ (bs : List Nat) {u : State}, u.Room → (bs.foldl (fun v b => v.changeBag b fun y => { y with consignment := none }) u).Room :=
    fun bs _ hu => hu.foldl (fun _ b hv => hv.changeBag b _) bs
  unfold State.completeHandover
  refine State.Room.send ?_ _
  split
  · exact ((((h3 _ ((h2 _ ((h1 _).tellOc _)).tellOc _)).changeConsignment _ _).setHandover _).place _ _)
  · exact ((((h3 _ ((h2 _ ((h1 _).tellOc _)).tellOc _)).changeConsignment _ _).setHandover _).place _ _).place _ _

theorem dockConfirm (h : s.Room) (x : Handover) : (s.dockConfirm x).Room := by
  unfold State.dockConfirm
  split
  · exact h.completeHandover _
  · exact h.dockRefuse _

theorem dockRecord (h : s.Room) (r : DockRecord) : (s.dockRecord r).Room := by
  unfold State.dockRecord
  split
  · exact h.dockRefuse _
  · split
    · exact h.dockRefuse _
    · split
      · split
        · exact h.dockPresent _ _
        · exact h.dockRefuse _
      · split
        · split
          · exact h.dockRefuse _
          · exact h.abandonHandover _
          · exact h.send _
        · dsimp only
          split
          · exact (h.setHandover _).dockRefuse _
          · exact (h.setHandover _).dockScan _ _
          · exact (h.setHandover _).dockConfirm _
          · exact (h.setHandover _).abandonHandover _

theorem setReceiver (h : s.Room) (l : PartnerLine) (r : Receiver) : (s.setReceiver l r).Room :=
  h.of_eq (by simp) (by simp) (by simp)

theorem failFrame (h : s.Room) (l : PartnerLine) : (s.failFrame l).Room :=
  h.of_eq (by simp) (by simp) (by simp)

theorem takePartnerFrame (h : s.Room) (l : PartnerLine) (ty : Nat) (body : List Byte) : (s.takePartnerFrame l ty body).Room := by
  unfold State.takePartnerFrame
  split
  · split
    · exact h
    · exact h.stationArrival _ _
  · split
    · exact h.dockRefuse _
    · exact h.dockRecord _
  · exact h.resolveOldest _

theorem partnerByte (h : s.Room) (l : PartnerLine) (b : Byte) : (State.partnerByte l s b).Room := by
  unfold State.partnerByte
  dsimp only
  split
  · exact h.setReceiver _ _
  · exact (h.setReceiver _ _).failFrame _
  · exact ((h.setReceiver _ _).takePartnerFrame _ _ _).settle _

theorem partnerGap (h : s.Room) (l : PartnerLine) : (s.partnerGap l).Room :=
  h.of_eq (by simp) (by simp) (by simp)

/-! ### Stops and starts -/

theorem resolveTills (h : s.Room) : s.resolveTills.Room := by
  have h1 : ∀ ns : List Nat, (ns.foldl State.floatExpired s).Room := fun ns => h.foldl (fun _ n hu => hu.floatExpired n) ns
  unfold State.resolveTills
  exact (h1 _).of_eq rfl rfl rfl

theorem resolveDrops (h : s.Room) : s.resolveDrops.Room := h.foldl (fun _ _ hu => hu.resolveOldest none) _

theorem resolution (h : s.Room) : s.resolution.Room := h.resolveTills.resolveDrops.resolveJobs.resolveLock.abandonHandover _

theorem enterHeld (h : s.Room) : s.enterHeld.Room := by
  unfold State.enterHeld
  split
  · exact h
  · exact h.of_eq rfl rfl rfl

theorem missReached (h : s.Room) : s.missReached.Room := by
  unfold State.missReached
  refine h.foldl (fun u c hu => ?_) _
  split
  · exact hu.missConsignment c
  · exact hu

/-- The host line cleared at a stop or a start (R38, R178). -/
theorem of_cleared {t : State} (h : s.Room) (hb : t.hli.buffer = []) (hr : t.hli.replies = []) (hn : t.hli.notices = [])
    (ho : t.oc.deferred = s.oc.deferred) (hd : t.br.drops = s.br.drops) : t.Room where
  deferred := ho ▸ h.deferred
  drops := hd ▸ h.drops
  buffer := by simp [hb]
  notices := by simp [hn]
  lineReplies := by simp [hr]

/-- The clean-stop mark and the phase are no lists. -/
theorem marked (h : s.Room) (c : Bool) (p : Phase) : ({ s with clean := c, phase := p } : State).Room := h.of_eq rfl rfl rfl

theorem controlledStop (h : s.Room) : s.controlledStop.Room := by
  have h1 : ({ s with phase := .stopping, hli := s.hli.cleared, receivers := Receivers.rest } : State).Room :=
    h.of_cleared rfl rfl rfl rfl rfl
  unfold State.controlledStop
  exact h1.decideShutter.resolution.enterHeld.marked true .stopped

theorem placeRestart (h : s.Room) (k : StartKind) : (s.placeRestart k).Room where
  deferred := h.deferred
  drops := h.drops
  buffer := h.buffer
  notices := by simp [State.placeRestart]
  lineReplies := h.lineReplies

theorem warmRestart (h : s.Room) : s.warmRestart.Room := by
  have h1 : (({ s with clean := false, hli := { s.hli.cleared with lost := false }, receivers := Receivers.rest } : State).changeSlc
      fun l => { l with shutter := .closed }).readSenses.Room := h.of_cleared rfl rfl rfl rfl rfl
  have h3 := h1.resolution.missReached.enterHeld.placeRestart (if s.clean then .warm else .warmUnclean)
  unfold State.warmRestart
  exact (h3.marked _ .running).startTx

theorem coldStart (s : State) : s.coldStart.Room where
  deferred := Nat.zero_le _
  drops := Nat.zero_le _
  buffer := Nat.zero_le _
  notices := (by decide : Hli.atColdStart.notices.length ≤ 32)
  lineReplies := Nat.zero_le _

theorem performColdStart (h : s.Room) : s.performColdStart.Room := by
  obtain ⟨-, he⟩ | ⟨-, -, he⟩ | ⟨-, -, he⟩ := s.performColdStart_cases
  · rw [he]
    exact State.Room.coldStart s
  · rw [he]
    exact (State.Room.coldStart s).of_eq rfl rfl rfl
  · rw [he]
    exact h.of_eq rfl rfl rfl

theorem flush (h : s.Room) : s.flush.Room where
  deferred := h.deferred
  drops := h.drops
  buffer := h.buffer
  notices := h.notices
  lineReplies := Nat.zero_le _

theorem tick (h : s.Room) : s.tick.Room := by
  have hd := h.drops
  unfold State.tick
  dsimp only
  split
  · refine { deferred := h.deferred, drops := ?_, buffer := h.buffer, notices := h.notices, lineReplies := h.lineReplies }
    rw [List.length_map]
    exact hd
  · exact h.of_eq rfl rfl rfl

theorem releaseDeferred (h : s.Room) : s.releaseDeferred.Room := by
  have h1 : (s.oc.deferred.foldl State.queueNotice s).Room := h.foldl (fun _ n hu => hu.queueNotice n) _
  unfold State.releaseDeferred
  exact { deferred := Nat.zero_le _, drops := h1.drops, buffer := h1.buffer, notices := h1.notices, lineReplies := h1.lineReplies }

end Sys2Proof.Machine.State.Room
end

section

/-! PROOFS. The capacities of the lists that notices, drops and frames fill: every request, every command and every step keep them. -/

namespace Sys2Proof.Machine

open State

/-- Every next state of an outcome keeps the capacities. -/
def RoomIn (o : Host.Outcome State Fault Refusal) : Prop := ∀ t, o = .next t → t.Room

theorem RoomIn.next {t : State} (h : t.Room) : RoomIn (.next t) := by
  rintro _ ⟨⟩
  exact h

theorem roomIn_takeRequest {i : Instr} {op : State → Answer} {s : State} (h : s.Room) (ho : (op s).Leaves State.Room) :
    RoomIn (takeRequest i op s) := by
  unfold takeRequest
  split
  · split
    · exact .next (h.formReply _ _ _).startTx
    · rename_i t d ht
      rw [ht] at ho
      exact .next (State.Room.formReply ho _ _ _).startTx
  · exact .next h

theorem roomIn_takeEvent {f : State → State} {s : State} (h : s.Room) (hf : (f s).Room) : RoomIn (takeEvent f s) := by
  unfold takeEvent
  split
  · exact .next (hf.settle s).startTx
  · exact .next h

theorem roomIn_takeLineEvent {f : State → State} {s : State} (h : s.Room) (hf : (f s).Room) : RoomIn (takeLineEvent f s) := by
  unfold takeLineEvent
  split
  · exact .next hf.startTx
  · exact .next h

theorem roomIn_takePartner (l : PartnerLine) (bs : List Byte) {s : State} (h : s.Room) : RoomIn (takePartner l bs s) :=
  roomIn_takeLineEvent h (h.foldl (fun _ b hu => hu.partnerByte l b) bs)

theorem settled_room {op : State → Answer} {s : State} (h : (op s).Leaves State.Room) : (settled op s).Leaves State.Room := by
  unfold settled
  split
  · trivial
  · rename_i t d ht
    rw [ht] at h
    exact State.Room.settle h s

/-- A request that HELD refuses, and whose operation ends with the pass and the closing test. -/
theorem roomIn_settled {i : Instr} {op : State → Answer} {s : State} (h : s.Room) (ho : (op s).Leaves State.Room) :
    RoomIn (takeRequest i (unlessHeld (settled op)) s) :=
  roomIn_takeRequest h (unlessHeld_leaves (settled_room ho))

theorem roomIn_unlessHeld {i : Instr} {op : State → Answer} {s : State} (h : s.Room) (ho : (op s).Leaves State.Room) :
    RoomIn (takeRequest i (unlessHeld op) s) :=
  roomIn_takeRequest h (unlessHeld_leaves ho)

/-! ### The requests -/

section
variable {s : State}

theorem askDefineDenominations_room (es : List DenomEntry) (h : s.Room) : (askDefineDenominations es s).Leaves State.Room := by
  unfold askDefineDenominations
  repeat' split
  any_goals exact True.intro
  exact h.of_eq rfl rfl rfl

theorem transferLines_room (h : s.Room) (down : Bool) (ls : List StockLine) : (s.transferLines down ls).Room :=
  h.changeSlots ls StockLine.slot fun l => StockSlot.transfer down l.pieces

theorem askTransferStock_room (a b d : Nat) (ls : List StockLine) (h : s.Room) : (askTransferStock a b d ls s).Leaves State.Room := by
  have ht : ∀ ps, ((s.transferLines (decide (d = 0)) ls).retryPasses ps).Room := fun ps => (transferLines_room h _ ls).retryPasses ps
  unfold askTransferStock
  dsimp only
  split
  · trivial
  split
  · trivial
  split
  · trivial
  split
  · trivial
  split
  · trivial
  · exact ht _

theorem askOpenDay_room (h : s.Room) : (askOpenDay s).Leaves State.Room := by
  unfold askOpenDay
  repeat' split
  any_goals exact True.intro
  refine State.Room.decideShutter ?_
  exact h.of_eq rfl rfl rfl

theorem askCloseDay_room (h : s.Room) : (askCloseDay s).Leaves State.Room := by
  have hc : ({ s with oc := { s.oc with state := .closing } } : State).Room := h.of_eq rfl rfl rfl
  unfold askCloseDay
  split
  · split
    · trivial
    · split
      · exact h.closeDay
      · exact hc.endPass s
  · exact h
  · trivial

theorem askCancelClose_room (h : s.Room) : (askCancelClose s).Leaves State.Room := by
  unfold askCancelClose
  split
  · exact h.of_eq rfl rfl rfl
  · trivial

theorem askResume_room (h : s.Room) : (askResume s).Leaves State.Room := by
  have h1 : ({ s with oc := { s.oc with state := s.oc.remembered.getD .unconfigured, remembered := none } } : State).Room :=
    h.of_eq rfl rfl rfl
  unfold askResume
  split
  · exact h1.releaseDeferred.decideShutter.tellMinute
  · trivial

theorem askSetClock_room (c : OfficeTime) (h : s.Room) : (askSetClock c s).Leaves State.Room := by
  have h1 : ({ s with oc := { s.oc with clock := c } } : State).Room := h.of_eq rfl rfl rfl
  unfold askSetClock
  repeat' split
  any_goals exact True.intro
  exact h1.missReached

theorem askEnrolOperator_room (a r : Nat) (h : s.Room) : (askEnrolOperator a r s).Leaves State.Room := by
  unfold askEnrolOperator
  repeat' split
  any_goals exact True.intro
  exact h.of_eq rfl rfl rfl

theorem askWithdrawOperator_room (a : Nat) (h : s.Room) : (askWithdrawOperator a s).Leaves State.Room := by
  unfold askWithdrawOperator
  split
  · trivial
  · exact h.of_eq rfl rfl rfl

theorem setProfile_room (h : s.Room) (n : ProfileName) (p : Profile) : (s.setProfile n p).Room := by
  cases n with
  | a => exact h.of_eq rfl rfl rfl
  | b => exact h.of_eq rfl rfl rfl

theorem askWriteProfile_room (n : Nat) (is : List ProfileItem) (h : s.Room) : (askWriteProfile n is s).Leaves State.Room := by
  unfold askWriteProfile
  repeat' split
  any_goals exact True.intro
  exact setProfile_room h _ _

theorem askSelectProfile_room (n a : Nat) (h : s.Room) : (askSelectProfile n a s).Leaves State.Room := by
  unfold askSelectProfile
  repeat' split
  any_goals exact True.intro
  exact h.of_eq rfl rfl rfl

theorem askSetTill_room (n c e : Nat) (h : s.Room) : (askSetTill n c e s).Leaves State.Room := by
  unfold askSetTill
  repeat' split
  any_goals exact True.intro
  exact h.of_eq rfl rfl rfl

theorem composeFloat_room (n a : Nat) (r : Bool) (h : s.Room) : (s.composeFloat n a r).Leaves State.Room := by
  unfold State.composeFloat
  dsimp only
  split
  · exact h.of_eq rfl rfl rfl
  · exact h.of_eq rfl rfl rfl
  · trivial
  · trivial
  · trivial

theorem askOpenTill_room (n a r : Nat) (h : s.Room) : (askOpenTill n a r s).Leaves State.Room := by
  unfold askOpenTill
  repeat' split
  any_goals exact True.intro
  exact composeFloat_room n a _ h

theorem askConfirmFloat_room (n : Nat) (h : s.Room) : (askConfirmFloat n s).Leaves State.Room := by
  have hf : (s.floatDebit n).Room := by
    unfold State.floatDebit
    exact (h.takeLines _).of_eq rfl rfl rfl
  unfold askConfirmFloat
  split
  · trivial
  · split
    · trivial
    · refine State.Room.retryPasses ?_ _
      exact hf.of_eq rfl rfl rfl

theorem askCancelFloat_room (n : Nat) (h : s.Room) : (askCancelFloat n s).Leaves State.Room := by
  unfold askCancelFloat
  repeat' split
  any_goals exact True.intro
  exact h.of_eq rfl rfl rfl

theorem askTopUp_room (n : Nat) (ls : List StockLine) (h : s.Room) : (askTopUp n ls s).Leaves State.Room := by
  have hf := h.takeLines (workingLines ls)
  unfold askTopUp
  repeat' split
  any_goals exact True.intro
  refine State.Room.retryPasses (State.Room.evaluate ?_ _ _) _
  exact hf.of_eq rfl rfl rfl

theorem askReportTakings_room (n k : Nat) (h : s.Room) : (askReportTakings n k s).Leaves State.Room := by
  unfold askReportTakings
  repeat' split
  any_goals exact True.intro
  refine State.Room.evaluate ?_ _ _
  exact h.of_eq rfl rfl rfl

theorem askDeclarePickup_room (n q a : Nat) (h : s.Room) : (askDeclarePickup n q a s).Leaves State.Room := by
  unfold askDeclarePickup
  repeat' split
  any_goals exact True.intro
  refine State.Room.evaluate ?_ _ _
  exact h.of_eq rfl rfl rfl

theorem drainTill_room (h : s.Room) (n b a k : Nat) : (s.drainTill n b a k).Room := by
  unfold State.drainTill
  refine State.Room.drainToPriority ?_ _
  exact h.of_eq rfl rfl rfl

theorem setBag_room (h : s.Room) (b : Nat) (o : Option Bag) : (s.setBag b o).Room := h.of_eq rfl rfl rfl

theorem askCloseTill_room (n q a k : Nat) (h : s.Room) : (askCloseTill n q a k s).Leaves State.Room := by
  unfold askCloseTill
  repeat' split
  any_goals exact True.intro
  exact drainTill_room (setBag_room h _ _) _ _ _ _

theorem askDeclareOfficeBag_room (q v : Nat) (h : s.Room) : (askDeclareOfficeBag q v s).Leaves State.Room := by
  unfold askDeclareOfficeBag
  repeat' split
  any_goals exact True.intro
  exact setBag_room h _ _

theorem freeOrphanSlot_room (h : s.Room) (b : Nat) : (s.freeOrphanSlot b).Room := by
  unfold State.freeOrphanSlot
  dsimp only
  split
  · exact (setBag_room h b none).decideShutter
  · exact setBag_room h b none

theorem adopt_room (h : s.Room) (b g : Nat) (k : BagKind) (n : Option Nat) (v q : Nat) : (s.adopt b g k n v q).Room := by
  have h2 := fun c => (setBag_room h g (some (declaredBag k n q v s.oc.clock))).enqueueTail g c
  unfold State.adopt
  refine freeOrphanSlot_room ?_ b
  split
  · exact h2 _
  · refine State.Room.evaluate ?_ _ _
    exact (h2 _).of_eq rfl rfl rfl

theorem askAdoptBag_room (b k : Nat) (n : Option Nat) (v q : Nat) (h : s.Room) : (askAdoptBag b k n v q s).Leaves State.Room := by
  unfold askAdoptBag
  repeat' split
  any_goals exact True.intro
  exact adopt_room h _ _ _ _ _ _

theorem writeOffOrphan_room (h : s.Room) (b : Nat) (x : Bag) (g : Option Nat) : (s.writeOffOrphan b x g).Room := by
  unfold State.writeOffOrphan
  refine freeOrphanSlot_room (State.Room.tellOc ?_ _) b
  split
  · exact h
  · exact setBag_room h _ _

theorem askWriteOffBag_room (b a : Nat) (h : s.Room) : (askWriteOffBag b a s).Leaves State.Room := by
  unfold askWriteOffBag
  repeat' split
  any_goals exact True.intro
  · exact h.loseBag b
  · exact h.loseBag b
  · exact writeOffOrphan_room h b _ _

theorem askRecountBag_room (b : Nat) (h : s.Room) : (askRecountBag b s).Leaves State.Room := by
  unfold askRecountBag
  repeat' split
  any_goals exact True.intro
  refine State.Room.enqueueHead ?_ _ _
  exact h.changeBag _ _

theorem makeIdle_room (h : s.Room) (n : Nat) : (s.makeIdle n).Room := by
  unfold State.makeIdle
  refine State.Room.stationNotice ?_ _ _
  exact h.of_eq rfl rfl rfl

theorem clearStation_room (h : s.Room) (n : Nat) {t : State} (ht : s.clearStation n = some t) : t.Room := by
  unfold State.clearStation at ht
  dsimp only at ht
  repeat' split at ht
  all_goals simp only [Option.some.injEq, reduceCtorEq] at ht
  · exact ht ▸ makeIdle_room h n
  · subst ht
    exact h.of_eq rfl rfl rfl
  · exact ht ▸ h.endHolds _
  · exact ht ▸ makeIdle_room h n

theorem askClearStation_room (n : Nat) (h : s.Room) : (askClearStation n s).Leaves State.Room := by
  unfold askClearStation
  split
  · trivial
  · split
    · trivial
    · rename_i t ht
      exact (clearStation_room h n ht).settle s

theorem askEnableStation_room (n : Nat) (h : s.Room) : (askEnableStation n s).Leaves State.Room := by
  unfold askEnableStation
  split
  · trivial
  · dsimp only [Answer.Leaves]
    split
    · exact h
    · exact h.of_eq rfl rfl rfl

theorem disableStation_room (h : s.Room) (n : Nat) : (s.disableStation n).Room := by
  have h1 : (s.changeStation n fun x => { x with enabled := false }).Room := h.of_eq rfl rfl rfl
  unfold State.disableStation
  dsimp only
  split
  · exact h1.of_eq rfl rfl rfl
  · exact h1.abortJob _ _
  · refine State.Room.stationNotice ?_ _ _
    exact h1.of_eq rfl rfl rfl

theorem askDisableStation_room (n : Nat) (h : s.Room) : (askDisableStation n s).Leaves State.Room := by
  unfold askDisableStation
  split
  · trivial
  · exact (disableStation_room h n).settle s

theorem askRequestOpening_room (a b w : Nat) (h : s.Room) : (askRequestOpening a b w s).Leaves State.Room := by
  unfold askRequestOpening
  repeat' split
  any_goals exact True.intro
  exact h.enterLock _ _ _ _

theorem cancelOpening_room (h : s.Room) {t : State} (ht : s.cancelOpening = .ok t) : t.Room := by
  have h1 : ∀ f, (s.changeOpening f).Room := fun f => h.of_eq rfl rfl rfl
  unfold State.cancelOpening at ht
  repeat' split at ht
  all_goals simp only [Except.ok.injEq, reduceCtorEq] at ht
  · exact ht ▸ h1 _
  · exact ht ▸ h.enterLock _ _ _ _
  · exact ht ▸ (h1 _).enterSecuring _
  · exact ht ▸ h1 _

theorem askCancelOpening_room (h : s.Room) : (askCancelOpening s).Leaves State.Room := by
  unfold askCancelOpening
  split
  · trivial
  · rename_i t ht
    exact cancelOpening_room h ht

theorem askClearAlarm_room (a : Nat) (h : s.Room) : (askClearAlarm a s).Leaves State.Room := by
  unfold askClearAlarm
  repeat' split
  any_goals exact True.intro
  refine State.Room.lockNotice ?_ _
  exact h.of_eq rfl rfl rfl

theorem askNewConsignment_room (h : s.Room) : (askNewConsignment s).Leaves State.Room := by
  unfold askNewConsignment
  repeat' split
  any_goals exact True.intro
  exact h.of_eq rfl rfl rfl

theorem askAssembleBag_room (c : Nat) (ls : List AssemblyLine) (h : s.Room) : (askAssembleBag c ls s).Leaves State.Room := by
  unfold askAssembleBag
  dsimp only
  repeat' split
  any_goals exact True.intro
  exact h.of_eq rfl rfl rfl

theorem askSealBag_room (b q : Nat) (h : s.Room) : (askSealBag b q s).Leaves State.Room := by
  have he : ∀ ls, (s.enterDispatch ls).Room := fun ls =>
    h.changeSlots ls ContentLine.slot fun l x => { StockSlot.take l.source l.pieces x with dispatch := x.dispatch + l.pieces }
  unfold askSealBag
  repeat' split
  any_goals exact True.intro
  refine State.Room.retryPasses (State.Room.changeBag ?_ _ _) _
  exact (he _).of_eq rfl rfl rfl

theorem freeOutbound_room (h : s.Room) (b : Nat) (x : Bag) : (s.freeOutbound b x).Room := by
  unfold State.freeOutbound
  refine setBag_room ?_ b none
  split
  · exact h
  · exact h.changeConsignment _ _

theorem askDiscardBag_room (b : Nat) (h : s.Room) : (askDiscardBag b s).Leaves State.Room := by
  unfold askDiscardBag
  repeat' split
  any_goals exact True.intro
  refine freeOutbound_room ?_ b _
  exact h.of_eq rfl rfl rfl

theorem askUnsealBag_room (b a : Nat) (h : s.Room) : (askUnsealBag b a s).Leaves State.Room := by
  have he : ∀ ls, (s.backFromDispatch ls).Room := fun ls =>
    h.changeSlots ls ContentLine.slot fun l x => { StockSlot.give l.source l.pieces x with dispatch := x.dispatch - l.pieces }
  unfold askUnsealBag
  repeat' split
  any_goals exact True.intro
  exact freeOutbound_room (he _) b _

theorem askAttachBag_room (b c : Nat) (h : s.Room) : (askAttachBag b c s).Leaves State.Room := by
  unfold askAttachBag
  dsimp only
  repeat' split
  any_goals exact True.intro
  exact (h.changeBag _ _).changeConsignment _ _

theorem askExpectDelivery_room (c q v : Nat) (h : s.Room) : (askExpectDelivery c q v s).Leaves State.Room := by
  unfold askExpectDelivery
  dsimp only
  repeat' split
  any_goals exact True.intro
  exact (setBag_room h _ _).changeConsignment _ _

theorem askScheduleCollection_room (c u r : Nat) (e l : OfficeTime) (h : s.Room) :
    (askScheduleCollection c u r e l s).Leaves State.Room := by
  unfold askScheduleCollection
  dsimp only
  repeat' split
  any_goals exact True.intro
  exact h.changeConsignment _ _

theorem cancelConsignment_room (h : s.Room) (c : Nat) : (s.cancelConsignment c).Room := by
  unfold State.cancelConsignment
  exact ((h.foldl (fun _ b hu => hu.changeBag b _) _).foldl (fun _ b hu => hu.loseBag b) _).changeConsignment _ _

theorem askCancelConsignment_room (c : Nat) (h : s.Room) : (askCancelConsignment c s).Leaves State.Room := by
  unfold askCancelConsignment
  dsimp only
  repeat' split
  any_goals exact True.intro
  exact cancelConsignment_room h c

theorem setHliMask_room (h : s.Room) (m : BitVec 24) : ({ s with hli := { s.hli with mask := m } } : State).Room where
  deferred := h.deferred
  drops := h.drops
  buffer := h.buffer
  notices := h.notices
  lineReplies := h.lineReplies

theorem askSetNotices_room (m : Nat) (h : s.Room) : (askSetNotices m s).Leaves State.Room := by
  unfold askSetNotices
  split
  · trivial
  · exact setHliMask_room h _

theorem linkSilence_room (h : s.Room) (n : Nat) : (s.linkSilence n).Room := by
  unfold State.linkSilence
  split
  · exact h.abortJob _ _
  · exact h.of_eq rfl rfl rfl
  · exact h

end

/-- A request that answers without a change. -/
theorem roomIn_read {i : Instr} {op : State → Answer} {s : State} (h : s.Room) (ho : (op s).Leaves fun t => t = s) :
    RoomIn (takeRequest i op s) :=
  roomIn_takeRequest h (ho.mono fun _ ht => ht ▸ h)

end Sys2Proof.Machine
end

section

/-! PROOFS. Every command and every step keep the capacities, the ranges of the profiles and the operator table. -/

namespace Sys2Proof.Machine

/-! ### Every command -/

theorem roomIn_eraseRecords (a b : Nat) {s : State} (h : s.Room) : RoomIn (execEraseRecords a b s) := by
  unfold execEraseRecords
  split
  · split
    · exact .next (h.formReply _ _ _).startTx
    · exact .next (h.formReply _ _ _).flush.performColdStart
  · exact .next h

theorem roomIn_controlledStop {s : State} (h : s.Room) : RoomIn (execControlledStop s) := by
  have h1 : (s.setPowerFail true).Room := h.of_eq rfl rfl rfl
  unfold execControlledStop
  dsimp only
  split
  · exact .next h1.controlledStop
  · exact .next h1

/-- An outcome that is one of two next states. -/
theorem RoomIn.ite {p : Prop} [Decidable p] {t u : State} (ht : t.Room) (hu : u.Room) : RoomIn (if p then .next t else .next u) := by
  split
  · exact .next ht
  · exact .next hu

/-- What an event does under a condition, and otherwise nothing. -/
theorem room_ite {p : Prop} [Decidable p] {t u : State} (ht : t.Room) (hu : u.Room) : (if p then t else u).Room := by
  split
  · exact ht
  · exact hu

theorem roomIn_exec (i : Instr) {s : State} (h : s.Room) : RoomIn (exec i s) := by
  cases i with
  | defineDenominations es => exact roomIn_unlessHeld h (askDefineDenominations_room es h)
  | transferStock a b d ls => exact roomIn_settled h (askTransferStock_room a b d ls h)
  | openDay => exact roomIn_settled h (askOpenDay_room h)
  | closeDay => exact roomIn_unlessHeld h (askCloseDay_room h)
  | cancelClose => exact roomIn_settled h (askCancelClose_room h)
  | resume => exact roomIn_takeRequest h (settled_room (askResume_room h))
  | setClock c => exact roomIn_unlessHeld h (askSetClock_room c h)
  | enrolOperator a r => exact roomIn_unlessHeld h (askEnrolOperator_room a r h)
  | withdrawOperator a => exact roomIn_unlessHeld h (askWithdrawOperator_room a h)
  | writeProfile n is => exact roomIn_unlessHeld h (askWriteProfile_room n is h)
  | selectProfile n a => exact roomIn_settled h (askSelectProfile_room n a h)
  | eraseRecords a b => exact roomIn_eraseRecords a b h
  | setTill n c e => exact roomIn_unlessHeld h (askSetTill_room n c e h)
  | openTill n a r => exact roomIn_unlessHeld h (askOpenTill_room n a r h)
  | confirmFloat n => exact roomIn_settled h (askConfirmFloat_room n h)
  | cancelFloat n => exact roomIn_settled h (askCancelFloat_room n h)
  | topUp n ls => exact roomIn_settled h (askTopUp_room n ls h)
  | reportTakings n k => exact roomIn_unlessHeld h (askReportTakings_room n k h)
  | declarePickup n q a => exact roomIn_settled h (askDeclarePickup_room n q a h)
  | closeTill n q a k => exact roomIn_settled h (askCloseTill_room n q a k h)
  | declareOfficeBag q v => exact roomIn_settled h (askDeclareOfficeBag_room q v h)
  | adoptBag b k n v q => exact roomIn_settled h (askAdoptBag_room b k n v q h)
  | writeOffBag b a => exact roomIn_settled h (askWriteOffBag_room b a h)
  | recountBag b => exact roomIn_settled h (askRecountBag_room b h)
  | clearStation n => exact roomIn_unlessHeld h (askClearStation_room n h)
  | enableStation n => exact roomIn_unlessHeld h (askEnableStation_room n h)
  | disableStation n => exact roomIn_unlessHeld h (askDisableStation_room n h)
  | requestOpening a b w => exact roomIn_settled h (askRequestOpening_room a b w h)
  | cancelOpening => exact roomIn_settled h (askCancelOpening_room h)
  | clearAlarm a => exact roomIn_settled h (askClearAlarm_room a h)
  | newConsignment => exact roomIn_settled h (askNewConsignment_room h)
  | assembleBag c ls => exact roomIn_settled h (askAssembleBag_room c ls h)
  | sealBag b q => exact roomIn_settled h (askSealBag_room b q h)
  | discardBag b => exact roomIn_settled h (askDiscardBag_room b h)
  | unsealBag b a => exact roomIn_settled h (askUnsealBag_room b a h)
  | attachBag b c => exact roomIn_settled h (askAttachBag_room b c h)
  | expectDelivery c q v => exact roomIn_settled h (askExpectDelivery_room c q v h)
  | scheduleCollection c u r e l => exact roomIn_settled h (askScheduleCollection_room c u r e l h)
  | cancelConsignment c => exact roomIn_settled h (askCancelConsignment_room c h)
  | setNotices m => exact roomIn_takeRequest h (askSetNotices_room m h)
  | readStock =>
    unfold exec execReadStock
    exact roomIn_read h rfl
  | readReservations k =>
    unfold exec execReadReservations
    refine roomIn_read h ?_
    split
    · trivial
    · rfl
  | readOffice =>
    unfold exec execReadOffice
    refine roomIn_takeRequest h ?_
    exact { deferred := h.deferred, drops := h.drops, buffer := h.buffer, notices := h.notices, lineReplies := h.lineReplies }
  | readDaySummary =>
    unfold exec execReadDaySummary
    exact roomIn_read h rfl
  | readOperators =>
    unfold exec execReadOperators
    exact roomIn_read h rfl
  | readProfile n =>
    unfold exec execReadProfile
    refine roomIn_read h ?_
    split
    · trivial
    · rfl
  | readTill n =>
    unfold exec execReadTill
    refine roomIn_read h ?_
    split
    · rfl
    · trivial
  | readTills n =>
    unfold exec execReadTills
    refine roomIn_read h ?_
    split
    · rfl
    · trivial
  | readPickupList k =>
    unfold exec execReadPickupList
    refine roomIn_read h ?_
    split
    · trivial
    · rfl
  | readCountQueue k =>
    unfold exec execReadCountQueue
    refine roomIn_read h ?_
    split
    · trivial
    · rfl
  | readBag b =>
    unfold exec execReadBag
    refine roomIn_read h ?_
    split
    · trivial
    · rfl
  | readSeal q =>
    unfold exec execReadSeal
    refine roomIn_read h ?_
    split
    · trivial
    · rfl
  | readOrphans =>
    unfold exec execReadOrphans
    exact roomIn_read h rfl
  | readStations =>
    unfold exec execReadStations
    exact roomIn_read h rfl
  | readLock =>
    unfold exec execReadLock
    exact roomIn_read h rfl
  | readConsignment c =>
    unfold exec execReadConsignment
    refine roomIn_read h ?_
    split
    · trivial
    · split
      · rfl
      · rfl
  | readHandover =>
    unfold exec execReadHandover
    exact roomIn_read h rfl
  | readUnattached =>
    unfold exec execReadUnattached
    exact roomIn_read h rfl
  | hostFrame bs =>
    unfold exec execHostFrame
    exact roomIn_takeLineEvent h (h.foldl (fun _ b hu => hu.takeByte b) bs)
  | hostByteGapTimeout =>
    unfold exec execHostByteGapTimeout
    exact roomIn_takeLineEvent h (room_ite h h.rejectFrame)
  | lineBreak =>
    unfold exec execLineBreak
    exact roomIn_takeLineEvent h (h.broken s.hli.lastReply)
  | replySent =>
    unfold exec execReplySent
    exact roomIn_takeLineEvent h h.replySent
  | noticeSent =>
    unfold exec execNoticeSent
    exact roomIn_takeLineEvent h h.noticeSent
  | minuteEvent =>
    unfold exec execMinuteEvent
    exact roomIn_takeEvent h h.tellMinute
  | floatExpiry n =>
    unfold exec execFloatExpiry
    exact roomIn_takeEvent h (room_ite (h.floatExpired n) h)
  | latestReached c =>
    unfold exec execLatestReached
    exact roomIn_takeEvent h (h.missConsignment c)
  | stationReady l w =>
    unfold exec execStationReady
    exact roomIn_takePartner _ _ h
  | stationSealRead l q w =>
    unfold exec execStationSealRead
    exact roomIn_takePartner _ _ h
  | strap l d n c w =>
    unfold exec execStrap
    exact roomIn_takePartner _ _ h
  | suspect l d w =>
    unfold exec execSuspect
    exact roomIn_takePartner _ _ h
  | doubt l d w =>
    unfold exec execDoubt
    exact roomIn_takePartner _ _ h
  | doubtCleared l v w =>
    unfold exec execDoubtCleared
    exact roomIn_takePartner _ _ h
  | jam l w =>
    unfold exec execJam
    exact roomIn_takePartner _ _ h
  | endTotals l t w =>
    unfold exec execEndTotals
    exact roomIn_takePartner _ _ h
  | linkSilenceExpiry l =>
    unfold exec execLinkSilenceExpiry
    exact roomIn_takeEvent h (linkSilence_room h _)
  | partnerByteGapTimeout l =>
    unfold exec execPartnerByteGapTimeout
    exact roomIn_takeLineEvent h (h.partnerGap l)
  | slotSealRead q w =>
    unfold exec execSlotSealRead
    exact roomIn_takePartner _ _ h
  | readWaitExpiry =>
    unfold exec execReadWaitExpiry
    exact roomIn_takeEvent h (h.resolveOldest none)
  | doorSenseChange x =>
    have hp : ({ s with pins := { s.pins with door := x } } : State).Room := h.of_eq rfl rfl rfl
    unfold exec execDoorSenseChange
    exact roomIn_takeEvent hp (room_ite hp (hp.doorEvent x))
  | boltSenseChange x =>
    have hp : ({ s with pins := { s.pins with bolt := x } } : State).Room := h.of_eq rfl rfl rfl
    unfold exec execBoltSenseChange
    exact roomIn_takeEvent hp (room_ite hp (hp.boltEvent x))
  | slotSenseChange x =>
    have hp : ({ s with pins := { s.pins with slot := x } } : State).Room := h.of_eq rfl rfl rfl
    unfold exec execSlotSenseChange
    exact roomIn_takeEvent hp (room_ite hp (hp.slotEvent x))
  | delayExpiry =>
    unfold exec execDelayExpiry
    exact roomIn_takeEvent h (room_ite (h.enterWindow _ _) h)
  | windowExpiry =>
    unfold exec execWindowExpiry
    exact roomIn_takeEvent h (room_ite (h.enterSecuring _) h)
  | boltConfirmationExpiry =>
    unfold exec execBoltConfirmationExpiry
    exact roomIn_takeEvent h (room_ite h.raiseBoltFault h)
  | present u r w =>
    unfold exec execPresent
    exact roomIn_takePartner _ _ h
  | scan q w =>
    unfold exec execScan
    exact roomIn_takePartner _ _ h
  | confirm w =>
    unfold exec execConfirm
    exact roomIn_takePartner _ _ h
  | abandon w =>
    unfold exec execAbandon
    exact roomIn_takePartner _ _ h
  | stepTimerExpiry =>
    unfold exec execStepTimerExpiry
    exact roomIn_takeEvent h (room_ite (h.abandonHandover _) h)
  | overallTimerExpiry =>
    unfold exec execOverallTimerExpiry
    exact roomIn_takeEvent h (h.abandonHandover _)
  | controlledStop => exact roomIn_controlledStop h
  | powerFailDeassert =>
    unfold exec execPowerFailDeassert
    exact .ite (h.of_eq rfl rfl rfl) (h.of_eq rfl rfl rfl)
  | resetAssert =>
    unfold exec execResetAssert
    exact .ite (h.of_eq rfl rfl rfl) (h.of_eq rfl rfl rfl)
  | resetRelease =>
    unfold exec execResetRelease
    exact .ite (h.of_eq rfl rfl rfl) (h.of_eq rfl rfl rfl)
  | powerUp =>
    unfold exec execPowerUp
    exact .ite (h.of_eq rfl rfl rfl) h
  | coldStart =>
    unfold exec execColdStart
    exact .ite h.performColdStart h
  | warmRestart =>
    unfold exec execWarmRestart
    exact .ite h.warmRestart h
  | lineReturnsToMark =>
    unfold exec execLineReturnsToMark
    refine roomIn_takeLineEvent h (room_ite ?_ h)
    exact { deferred := h.deferred, drops := h.drops, buffer := h.buffer, notices := h.notices, lineReplies := h.lineReplies }
  | powerLoss =>
    unfold exec execPowerLoss
    exact .next (h.of_eq rfl rfl rfl)
  | dockFrameCheckFailed t b w =>
    unfold exec execDockFrameCheckFailed
    exact roomIn_takePartner _ _ h

/-! ### Every step -/

theorem State.nextOwn_room {s u : State} {c : Instr} (h : s.Room) (hn : s.nextOwn = some (c, u)) : u.Room := by
  unfold State.nextOwn at hn
  split at hn
  · simp at hn
  · unfold State.chosen at hn
    split at hn
    · simp only [Option.some.injEq, Prod.mk.injEq] at hn
      exact hn.2 ▸ h
    · simp only [Option.some.injEq, Prod.mk.injEq] at hn
      obtain ⟨-, rfl⟩ := hn
      exact h.of_eq rfl rfl rfl

theorem step_room {s t : State} (hs : s.Room) (h : step s = .next t) : t.Room := by
  unfold step at h
  split at h
  · rename_i c rest hp
    have hq : ({ s with pending := rest } : State).Room := hs.of_eq rfl rfl rfl
    exact roomIn_exec c hq t h
  · unfold idle at h
    split at h
    · rename_i c u hu
      exact roomIn_exec c (State.nextOwn_room hs hu) t h
    · obtain rfl : s.tick = t := by injection h
      exact hs.tick

/-- The capacities are those of the lists that notices, drops and frames fill, of the reservations and of the operators. -/
theorem State.bounded_iff {s : State} :
    s.Bounded ↔ s.Room ∧ s.view.reservations.length ≤ 16 ∧ s.view.operators.length ≤ 32 :=
  ⟨fun h => ⟨⟨h.deferred, h.drops, h.buffer, h.notices, h.lineReplies⟩, h.reservations, h.operators⟩,
    fun ⟨h, hr, ho⟩ => ⟨hr, ho, h.deferred, h.drops, h.buffer, h.notices, h.lineReplies⟩⟩

theorem Profile.atColdStart_inRange : Profile.atColdStart.InRange where
  threshold c hc := by interval_cases c <;> decide
  hysteresis c hc := by interval_cases c <;> decide
  floatMin c hc := by interval_cases c <;> decide
  template c d hc h1 h2 := by interval_cases c <;> interval_cases d <;> decide
  rates := by decide
  smoothing := by decide
  floor d h1 h2 := by interval_cases d <;> decide
  tolerance := by decide
  pool := by decide
  hold := by decide
  lockDelay := by decide
  lockWindow := by decide
  collection := by decide

/-- Settles O17: the capacities by the operations that fill the lists, the profiles and the operators by the acts of the view. -/
theorem stepKeepsCapacitiesAndRanges : Obligations.StepKeepsCapacitiesAndRanges := by
  refine ⟨fun s t hs h => ?_, fun s t hs h => ?_, fun s t hs h => ?_⟩
  · obtain ⟨hroom, hres, hops⟩ := State.bounded_iff.1 hs
    exact State.bounded_iff.2 ⟨step_room hroom h, kept_reservations.step (Nat.zero_le _) h hres,
      kept_operators_length.step (Nat.zero_le _) h hops⟩
  · exact kept_profiles.step ⟨Profile.atColdStart_inRange, Profile.atColdStart_inRange⟩ h hs
  · have hops := kept_operators.step ⟨List.nodup_nil, fun _ ho => absurd ho List.not_mem_nil⟩ h ⟨hs.once, hs.range⟩
    exact ⟨hops.once, hops.range⟩

end Sys2Proof.Machine
end

section

/-! PROOFS. How an answer of an owner becomes what a request does; the floats withdrawn and confirmed. -/

namespace Sys2Proof.Machine

/-! ### Requests -/

section
variable {i : Instr} {op : State → Answer} {s t : State} {c : Code} {d : List Datum}

/-- A request that HELD refuses and whose operation ends with the pass and the closing test, accepted. -/
theorem Accepts.of_settled (he : exec i s = takeRequest i (unlessHeld (settled op)) s) (h : s.Open) (ho : op s = .accept t d) :
    Accepts i s (s.settle t) d :=
  he.trans (takeRequest_accept h.1 ((unlessHeld_open h.2).trans (settled_accept ho)))

theorem Refuses.of_settled (he : exec i s = takeRequest i (unlessHeld (settled op)) s) (h : s.Open) (ho : op s = .refuse c d) :
    Refuses i s c d :=
  he.trans (takeRequest_refuse h.1 ((unlessHeld_open h.2).trans (settled_refuse ho)))

theorem Accepts.of_open (he : exec i s = takeRequest i (unlessHeld op) s) (h : s.Open) (ho : op s = .accept t d) : Accepts i s t d :=
  he.trans (takeRequest_accept h.1 ((unlessHeld_open h.2).trans ho))

theorem Refuses.of_open (he : exec i s = takeRequest i (unlessHeld op) s) (h : s.Open) (ho : op s = .refuse c d) : Refuses i s c d :=
  he.trans (takeRequest_refuse h.1 ((unlessHeld_open h.2).trans ho))

theorem Leaves.of_event {f : State → State} (he : exec i s = takeEvent f s) (h : s.phase = .running) (hf : f s = t) : Leaves i s t :=
  he.trans ((takeEvent_running h).trans (by rw [hf]))

end

theorem tillOk_eq_true {n : Nat} (h1 : 1 ≤ n) (h2 : n ≤ 96) : tillOk n = true := tillOk_iff.2 ⟨h1, h2⟩

theorem tillOk_eq_false {n : Nat} (h : n = 0 ∨ 96 < n) : tillOk n = false := by
  rw [Bool.eq_false_iff]
  intro hn
  obtain ⟨h1, h2⟩ := tillOk_iff.1 hn
  omega

/-! ### CANCEL FLOAT and the expiry of a float -/

/-- A COMPOSED till goes back to where its composition began (R47). -/
theorem State.uncompose_composed {s : State} {n : Nat} {c : Composition} (hs : (s.till n).state = .composed)
    (hc : (s.till n).pending = some c) : s.uncompose n = s.setTill n { s.till n with state := c.prior, pending := none } := by
  unfold State.uncompose State.changeTill
  dsimp only
  rw [if_pos hs, hc]
  rfl

/-- Settles O35: by the branches of CANCEL FLOAT and of the expiry. -/
theorem floatIsWithdrawn : Obligations.FloatIsWithdrawn := by
  refine ⟨fun n c s h h1 h2 hs hc => ?_, fun n s h hn => ?_, fun n s h h1 h2 hs => ?_, fun n c r s h hs hc hr => ?_, fun n s h hr => ?_⟩
  · have hu : (s.freeReservation (.till n)).uncompose n =
        (s.freeReservation (.till n)).setTill n { s.till n with state := c.prior, pending := none } := State.uncompose_composed hs hc
    refine .of_settled rfl h ?_
    unfold askCancelFloat
    rw [if_neg (by simp [tillOk_eq_true h1 h2]), if_neg (by simp [hs])]
    dsimp only
    rw [hu, State.till_setTill_same _ _ _ h1 h2]
  · refine .of_settled rfl h ?_
    unfold askCancelFloat
    rw [if_pos (tillOk_eq_false hn)]
  · refine .of_settled rfl h ?_
    unfold askCancelFloat
    rw [if_neg (by simp [tillOk_eq_true h1 h2]), if_pos hs]
  · refine .of_event rfl h ?_
    rw [if_pos (by simp [hr])]
    unfold State.floatExpired
    rw [hc, State.uncompose_composed (s := s.freeReservation (.till n)) hs hc]
    rfl
  · refine .of_event rfl h ?_
    rw [if_neg (by simp [hr])]

/-! ### CONFIRM FLOAT -/

/-- The one float reservation of a COMPOSED till is worth the amount composed (R76). -/
theorem State.FloatLaw.linesValue {s : State} (h : s.FloatLaw) {n : Nat} {c : Composition} {ls : List ContentLine}
    (hc : (s.till n).pending = some c) (hr : (s.reservationOf (.till n)).map Reservation.lines = some ls) :
    s.linesValue ls = c.composed := by
  obtain ⟨r, hone, -, hworth⟩ := h.reserved n c hc
  have hfind : s.reservationOf (.till n) = some r := by
    unfold State.reservationOf
    rw [← List.head?_filter, hone]
    rfl
  rw [hfind, Option.map_some, Option.some.injEq] at hr
  rw [← hr]
  exact hworth

/-- What the session that CONFIRM FLOAT starts holds (R46). -/
theorem Till.confirmed_eq {t : Till} {c : Composition} (hc : t.pending = some c) (p : Profile) (minute : Nat) :
    t.confirmed p minute =
      { t with
        floatTotal := c.composed, takings := 0, kPrev := 0, pickups := 0, collected := 0, rate := p.rateInit * 16
        tLast := minute, exposure := min c.composed amountLimit, reduced := c.reduced, bags := [], variance := none
        onList := false, pending := none, state := .opened } := by
  unfold Till.confirmed
  rw [hc]
  rfl

/-- The float debit takes the lines of the reservation, frees it and tells OC what they are worth (R8). -/
theorem State.floatDebit_eq {s : State} {n : Nat} {ls : List ContentLine}
    (hr : (s.reservationOf (.till n)).map Reservation.lines = some ls) :
    s.floatDebit n =
      ((s.takeLines ls).freeReservation (.till n)).tellOc fun q => { q with floatsIssued := q.floatsIssued + s.linesValue ls } := by
  unfold State.floatDebit
  rw [hr]
  rfl

theorem State.floatDebit_tps (s : State) (n : Nat) : (s.floatDebit n).tps = s.tps := by
  show (s.takeLines _).tps = s.tps
  simp

/-- Lines of one source area hold nothing of the other. -/
theorem heldBy_of_source {ls : List ContentLine} {a b : Source} (h : ∀ l ∈ ls, l.source = a) (hab : a ≠ b) (d : Nat) :
    heldBy ls b d = 0 := by
  unfold heldBy
  rw [List.filter_eq_nil_iff.2 (fun l hl => by simp [h l hl, hab])]
  rfl

/-- Settles O34: by the branches of CONFIRM FLOAT, the debit line by line. -/
theorem confirmFloatStartsASession : Obligations.ConfirmFloatStartsASession := by
  refine ⟨fun n c ls s h h1 h2 hs hc hr => ⟨?_, ?_, ?_, ?_, ?_, ?_⟩, fun n s h hn => ?_, fun n s h h1 h2 hs => ?_⟩
  · have htill : (s.floatDebit n).till n = s.till n := congrArg (fun t : Tps => nth Till.atColdStart t.tills n) (s.floatDebit_tps n)
    refine .of_settled rfl h ?_
    unfold askConfirmFloat
    rw [if_neg (by simp [tillOk_eq_true h1 h2]), if_neg (by simp [hs])]
    dsimp only
    rw [hr, Option.getD_some, State.changeTill, htill, Till.confirmed_eq hc, State.till_setTill_same _ _ _ h1 h2]
  · rw [State.floatDebit_eq hr, State.takeLines, State.moveLines_eq]
    rfl
  · rw [State.floatDebit_eq hr, State.takeLines, State.moveLines_eq]
    rfl
  · rw [State.floatDebit_eq hr]
    rfl
  · exact fun hlaw => hlaw.linesValue hc hr
  · intro hw d hd1 hd2
    have hslot : (s.floatDebit n).slot d = (s.takeLines ls).slot d := by
      rw [State.floatDebit_eq hr]
      rfl
    have hunfit : heldBy ls .unfit d = 0 := heldBy_of_source hw (by simp) d
    obtain ⟨h3, h4, h5, h6, -⟩ := s.takeLines_slot ls d hd1 hd2
    rw [hslot, h3, h4, h5, h6, hunfit]
    exact ⟨rfl, rfl, rfl, rfl⟩
  · refine .of_settled rfl h ?_
    unfold askConfirmFloat
    rw [if_pos (tillOk_eq_false hn)]
  · refine .of_settled rfl h ?_
    unfold askConfirmFloat
    rw [if_neg (by simp [tillOk_eq_true h1 h2]), if_pos hs]

end Sys2Proof.Machine
end

section

/-! PROOFS. The watermarks of a slot whose lines move, and TOP UP. -/

namespace Sys2Proof.Machine

/-! ### Watermarks (R17) -/

theorem StockSlot.eq_of_fields {x y : StockSlot} (hw : x.working = y.working) (hr : x.reserve = y.reserve) (hu : x.unfit = y.unfit)
    (hd : x.dispatch = y.dispatch) (hs : x.suspect = y.suspect) (hl : x.low = y.low) (hh : x.high = y.high) : x = y := by
  cases x
  cases y
  simp_all

theorem StockSlot.withWorking_eq (x : StockSlot) (w : Nat) :
    x.withWorking w =
      { x with
        working := w, low := if w = x.working then x.low else min x.low w, high := if w = x.working then x.high else max x.high w } := by
  unfold StockSlot.withWorking
  split
  · rename_i h
    rw [h]
  · rfl

theorem StockSlot.withWorking_self (x : StockSlot) : x.withWorking x.working = x := by
  simp [StockSlot.withWorking]

/-- A change of a slot whose watermarks follow its WORKING count. -/
structure StockSlot.Follows (x y : StockSlot) : Prop where
  low  : y.low = (x.withWorking y.working).low
  high : y.high = (x.withWorking y.working).high

theorem StockSlot.Follows.of_withWorking {x y : StockSlot} {w : Nat} (hw : y.working = w) (hl : y.low = (x.withWorking w).low)
    (hh : y.high = (x.withWorking w).high) : x.Follows y :=
  ⟨hw ▸ hl, hw ▸ hh⟩

/-- A slot whose WORKING count stands keeps its watermarks. -/
theorem StockSlot.Follows.of_same {x y : StockSlot} (h : x.Follows y) (hw : y.working = x.working) : y.low = x.low ∧ y.high = x.high := by
  obtain ⟨hl, hh⟩ := h
  rw [hw, StockSlot.withWorking_self] at hl hh
  exact ⟨hl, hh⟩

/-- The watermarks of a slot rest on its WORKING count and its watermarks alone. -/
theorem StockSlot.Follows.congr {x x' y : StockSlot} (h : x'.Follows y) (hw : x'.working = x.working) (hl : x'.low = x.low)
    (hh : x'.high = x.high) : x.Follows y := by
  obtain ⟨h1, h2⟩ := h
  rw [StockSlot.withWorking_eq] at h1 h2
  dsimp only at h1 h2
  rw [hw, hl] at h1
  rw [hw, hh] at h2
  exact ⟨h1.trans (by rw [StockSlot.withWorking_eq]), h2.trans (by rw [StockSlot.withWorking_eq])⟩

theorem StockSlot.Follows.eq {x y : StockSlot} (h : x.Follows y) {w : Nat} (hw : y.working = w) :
    y.low = (if w = x.working then x.low else min x.low w) ∧ y.high = if w = x.working then x.high else max x.high w := by
  obtain ⟨hl, hh⟩ := h
  rw [hw, StockSlot.withWorking_eq] at hl hh
  exact ⟨hl, hh⟩

/-- Lines that name each slot and source once change WORKING of a slot at most once, and the watermarks follow (R17). -/
theorem StockSlot.follows_moveLines {f : ContentLine → StockSlot → StockSlot} (hf : ∀ l x, StockSlot.Follows x (f l x))
    (hu : ∀ l x, l.source = .unfit → (f l x).working = x.working) {ls : List ContentLine}
    (hn : (ls.map fun l => (l.slot, l.source)).Nodup) (d : Nat) (x : StockSlot) :
    x.Follows (StockSlot.moveLines ContentLine.slot f ls d x) := by
  have hstands : ∀ (ms : List ContentLine) (y : StockSlot), (∀ m ∈ ms, m.slot = d → m.source = .unfit) →
      (StockSlot.moveLines ContentLine.slot f ms d y).working = y.working := by
    intro ms
    induction ms with
    | nil => exact fun y _ => rfl
    | cons m ms ih =>
      intro y hm
      rw [StockSlot.moveLines_cons, ih _ fun k hk => hm k (List.mem_cons_of_mem _ hk)]
      split
      · rename_i hd
        exact hu m y (hm m List.mem_cons_self hd)
      · rfl
  induction ls generalizing x with
  | nil => exact ⟨by rw [show StockSlot.moveLines ContentLine.slot f [] d x = x from rfl, StockSlot.withWorking_self],
      by rw [show StockSlot.moveLines ContentLine.slot f [] d x = x from rfl, StockSlot.withWorking_self]⟩
  | cons l ls ih =>
    simp only [List.map_cons, List.nodup_cons] at hn
    obtain ⟨hl, hn⟩ := hn
    have ih := ih hn
    rw [StockSlot.moveLines_cons]
    split
    · rename_i hd
      cases hs : l.source with
      | working =>
        have hrest : ∀ m ∈ ls, m.slot = d → m.source = .unfit := by
          intro m hm hmd
          cases hms : m.source with
          | unfit => rfl
          | working => exact absurd (List.mem_map.2 ⟨m, hm, by rw [hmd, hms, hd, hs]⟩) hl
        have hw := hstands ls (f l x) hrest
        obtain ⟨hlow, hhigh⟩ := (ih (f l x)).of_same hw
        exact ⟨by rw [hlow, hw, (hf l x).low], by rw [hhigh, hw, (hf l x).high]⟩
      | unfit =>
        have hw := hu l x hs
        obtain ⟨hlow, hhigh⟩ := (hf l x).of_same hw
        exact (ih (f l x)).congr hw hlow hhigh
    · exact ih x

theorem StockSlot.follows_take (l : ContentLine) (x : StockSlot) : x.Follows (x.take l.source l.pieces) := by
  cases h : l.source with
  | working => exact .of_withWorking (w := x.working - l.pieces) (by simp [StockSlot.take, StockSlot.withWorking_eq]) rfl rfl
  | unfit => exact ⟨by simp [StockSlot.take, StockSlot.withWorking_eq], by simp [StockSlot.take, StockSlot.withWorking_eq]⟩

theorem StockSlot.follows_give (l : ContentLine) (x : StockSlot) : x.Follows (x.give l.source l.pieces) := by
  cases h : l.source with
  | working => exact .of_withWorking (w := x.working + l.pieces) (by simp [StockSlot.give, StockSlot.withWorking_eq]) rfl rfl
  | unfit => exact ⟨by simp [StockSlot.give, StockSlot.withWorking_eq], by simp [StockSlot.give, StockSlot.withWorking_eq]⟩

/-- Lines taken from their source areas, slot by slot (R16, R17). -/
theorem State.slot_takeLines {ls : List ContentLine} (hn : (ls.map fun l => (l.slot, l.source)).Nodup) (s : State) {d w : Nat}
    (h1 : 1 ≤ d) (h2 : d ≤ 12) (hw : w = (s.slot d).working - heldBy ls .working d) :
    (s.takeLines ls).slot d = { s.slot d with
      working := w, unfit := (s.slot d).unfit - heldBy ls .unfit d
      low := if w = (s.slot d).working then (s.slot d).low else min (s.slot d).low w
      high := if w = (s.slot d).working then (s.slot d).high else max (s.slot d).high w } := by
  obtain ⟨hwork, hunfit, hdisp, hres, hsus⟩ := s.takeLines_slot ls d h1 h2
  have hfol : (s.slot d).Follows ((s.takeLines ls).slot d) := by
    rw [State.takeLines, State.slot_moveLines _ _ _ _ _ h1 h2]
    refine StockSlot.follows_moveLines StockSlot.follows_take (fun l x hl => ?_) hn d _
    simp [StockSlot.take, hl]
  obtain ⟨hlow, hhigh⟩ := hfol.eq (hwork.trans hw.symm)
  exact StockSlot.eq_of_fields (hwork.trans hw.symm) hres hunfit hdisp hsus hlow hhigh

theorem State.takeLines_eq (s : State) (ls : List ContentLine) :
    s.takeLines ls = { s with st := { s.st with slots := (s.takeLines ls).st.slots } } :=
  State.moveLines_eq ContentLine.slot (fun l => StockSlot.take l.source l.pieces) ls s

/-! ### TOP UP -/

/-- The least slot of a list that fails a test, found. -/
theorem leastFailing_eq_some {f : Nat → Bool} {ds : List Nat} {d : Nat} (hd : d ∈ ds) (hf : f d = true)
    (hleast : ∀ c ∈ ds, c < d → f c = false) : leastFailing f ds = some d := by
  unfold leastFailing
  rw [List.min?_eq_some_iff]
  refine ⟨List.mem_filter.2 ⟨hd, hf⟩, fun c hc => ?_⟩
  obtain ⟨hc, hfc⟩ := List.mem_filter.1 hc
  by_contra hlt
  rw [hleast c hc (not_le.1 hlt)] at hfc
  exact Bool.noConfusion hfc

/-- No line is short where each is available. -/
theorem State.topUpShort_eq_none {s : State} {ls : List StockLine} (h : ∀ d ∈ s.namedSlots ls, lineFor ls d ≤ s.availability d) :
    s.topUpShort ls = none :=
  leastFailing_eq_none.2 fun d hd => decide_eq_false (not_lt.2 (h d hd))

/-- An evaluation changes no figure of a till but its mark on the list (R54). -/
theorem State.floatTotal_evaluate (s : State) (n m : Nat) (h1 : 1 ≤ n) (h2 : n ≤ 96) :
    ((s.evaluate n m).till n).floatTotal = (s.till n).floatTotal := by
  have hplace : ∀ (u : State) (k : NoticeKind) (ds : List Datum), (u.place k ds).till n = u.till n := fun u k ds =>
    congrArg (fun t : Tps => nth Till.atColdStart t.tills n) (by simp)
  have hset : ∀ (t : Till) (due : List DueEntry),
      ({ s.setTill n t with tps := { (s.setTill n t).tps with due := due } } : State).till n = t := fun t due =>
    s.till_setTill_same n t h1 h2
  unfold State.evaluate
  dsimp only
  split
  · rfl
  · split
    · rw [hplace, hset]
    · split
      · rw [hplace, hset]
      · rfl

/-- Settles O36: by the branches of TOP UP, the lines slot by slot. -/
theorem topUp : Obligations.TopUp := by
  refine ⟨fun n ls s h h1 h2 hok => ⟨fun ht ho => ⟨fun hav => ?_, fun d hd hlt hleast => ?_⟩, fun hbad => ?_⟩, fun n ls s h hbad => ?_,
    fun ls a d => ?_, fun s d reserved hres => ⟨?_, ?_, ?_⟩, fun ls => rfl, fun ls s u hn hu => ⟨?_, fun d w h1 h2 hw => ?_⟩⟩
  · have hlines : (s.takeLines (workingLines ls)).tps = s.tps := by simp
    have htill : ∀ f : Totals → Totals, ((s.takeLines (workingLines ls)).tellOc f).till n = s.till n := fun f =>
      congrArg (fun t : Tps => nth Till.atColdStart t.tills n) hlines
    have hminute : ∀ f t, (((s.takeLines (workingLines ls)).tellOc f).setTill n t).minute = s.minute := by
      intro f t
      rw [State.takeLines_eq]
      rfl
    refine ⟨_, _, rfl, rfl, .of_settled rfl h ?_⟩
    unfold askTopUp
    rw [if_neg (by simp [tillOk_eq_true h1 h2, hok]), if_neg (by simp [ht, ho]), State.topUpShort_eq_none hav]
    dsimp only
    rw [State.changeTill, htill, hminute, State.floatTotal_evaluate _ _ _ h1 h2, State.till_setTill_same _ _ _ h1 h2]
    rfl
  · refine .of_settled rfl h ?_
    unfold askTopUp
    rw [if_neg (by simp [tillOk_eq_true h1 h2, hok]), if_neg (by simp [ht, ho]), State.topUpShort,
      leastFailing_eq_some hd (decide_eq_true hlt) fun c hc hcd => decide_eq_false (not_lt.2 (hleast c hc hcd))]
  · refine .of_settled rfl h ?_
    unfold askTopUp
    rw [if_neg (by simp [tillOk_eq_true h1 h2, hok]), if_pos hbad]
  · refine .of_settled rfl h ?_
    unfold askTopUp
    refine if_pos ?_
    rcases hbad with hn | hn | hn
    · exact .inl (tillOk_eq_false (.inl hn))
    · exact .inl (tillOk_eq_false (.inr hn))
    · exact .inr hn
  · simp [heldBy]
  · rw [hres, State.availability, Nat.sub_sub]
    rfl
  · rw [hres]
    rfl
  · rw [hres]
    rfl
  · rw [hu]
    exact s.takeLines_eq ls
  · rw [hu]
    exact State.slot_takeLines hn s h1 h2 hw

end Sys2Proof.Machine
end

section

/-! PROOFS. DEFINE DENOMINATIONS and TRANSFER STOCK. -/

namespace Sys2Proof.Machine

/-! ### DEFINE DENOMINATIONS -/

/-- The first of the numbers from 1 that passes a test. -/
theorem find?_upTo_eq_some {p : Nat → Bool} {n d : Nat} (h1 : 1 ≤ d) (h2 : d ≤ n) (hd : p d = true)
    (hfirst : ∀ c, 1 ≤ c → c < d → p c = false) : (upTo n).find? p = some d := by
  have hrange : (List.range n).find? (p ∘ (· + 1)) = some (d - 1) := by
    rw [List.find?_range_eq_some]
    refine ⟨?_, List.mem_range.2 (by omega), fun j hj => ?_⟩
    · simpa [Nat.sub_add_cancel h1] using hd
    · simp [hfirst (j + 1) (by omega) (by omega)]
  rw [upTo, List.find?_map, hrange, Option.map_some, Nat.sub_add_cancel h1]

theorem denomKindOf_isNone (k : Nat) : (denomKindOf k).isNone = decide (1 < k) := by
  match k with
  | 0 => rfl
  | 1 => rfl
  | k + 2 => simp [denomKindOf]

theorem faultyDenom_iff {es : List DenomEntry} {d : Nat} : faultyDenom es d = true ↔ SlotAtFault es d := by
  simp only [faultyDenom, SlotAtFault, denomKindOf_isNone, List.getD_eq_getElem?_getD, Bool.or_eq_true, decide_eq_true_eq]
  omega

theorem firstFaultyDenom_eq_none {es : List DenomEntry} (h : ∀ d, 1 ≤ d → d ≤ es.length → ¬ SlotAtFault es d) :
    firstFaultyDenom es = none := by
  refine List.find?_eq_none.2 fun d hd hf => ?_
  obtain ⟨h1, h2⟩ := (mem_upTo _ _).1 hd
  exact h d h1 h2 (faultyDenom_iff.1 hf)

theorem firstFaultyDenom_eq_some {es : List DenomEntry} {d : Nat} (h1 : 1 ≤ d) (h2 : d ≤ es.length) (hd : SlotAtFault es d)
    (hfirst : ∀ c, 1 ≤ c → c < d → ¬ SlotAtFault es c) : firstFaultyDenom es = some d :=
  find?_upTo_eq_some h1 h2 (faultyDenom_iff.2 hd) fun c hc hcd => Bool.eq_false_iff.2 (mt faultyDenom_iff.1 (hfirst c hc hcd))

/-- The kinds of a definition without a slot at fault are NOTE and ROLL (R1). -/
theorem kind_le_of_no_fault {es : List DenomEntry} (h : ∀ d, 1 ≤ d → d ≤ es.length → ¬ SlotAtFault es d) {e : DenomEntry}
    (he : e ∈ es) : e.kind ≤ 1 := by
  obtain ⟨i, hi, rfl⟩ := List.getElem_of_mem he
  have hfault := h (i + 1) (by omega) (by omega)
  simp only [SlotAtFault, not_or, Nat.add_sub_cancel, List.getD_eq_getElem?_getD, List.getElem?_eq_getElem hi, Option.getD_some] at hfault
  omega

theorem denomKindOf_of_le {k : Nat} (h : k ≤ 1) :
    (denomKindOf k).getD .note = (if k = 0 then .note else .roll) ∧ ((denomKindOf k).getD .note).code = .enum k := by
  interval_cases k
  · exact ⟨rfl, rfl⟩
  · exact ⟨rfl, rfl⟩

/-- ST holds no stock where every count is 0. -/
theorem State.holdsStock_eq_false {s : State}
    (h : ∀ d, (s.slot d).working = 0 ∧ (s.slot d).reserve = 0 ∧ (s.slot d).unfit = 0 ∧ (s.slot d).dispatch = 0) :
    s.holdsStock = false := by
  refine List.any_eq_false.2 fun x hx => ?_
  obtain ⟨i, hi, rfl⟩ := List.getElem_of_mem hx
  have hlt : i < 12 := by simpa using hi
  have hslot : s.slot (i + 1) = s.st.slots.toList[i] := by simp [State.slot, nth, hlt]
  obtain ⟨hw, hr, hu, hd⟩ := h (i + 1)
  rw [hslot] at hw hr hu hd
  rw [decide_eq_true_eq, hw, hr, hu, hd]
  simp

theorem State.holdsBag_eq_false {s : State} (h : ∀ b, s.bag b = none) : s.holdsBag = false := by
  refine List.any_eq_false.2 fun o ho => ?_
  obtain ⟨i, hi, rfl⟩ := List.getElem_of_mem ho
  have hbag : s.bag i = s.br.bags.toList[i] := by simp [State.bag, show i < 256 by simpa using hi]
  rw [← hbag, h i]
  simp

/-- ST holds stock, or BR a bag, where one count is not 0 or one record not FREE. -/
theorem State.holds_of {s : State} {d b : Nat}
    (h : (s.slot d).working ≠ 0 ∨ (s.slot d).reserve ≠ 0 ∨ (s.slot d).unfit ≠ 0 ∨ (s.slot d).dispatch ≠ 0 ∨ s.bag b ≠ none) :
    (s.holdsStock || s.holdsBag) = true := by
  by_contra hno
  simp only [Bool.or_eq_true, not_or, Bool.not_eq_true] at hno
  have hpieces := State.pieces_eq_zero hno.1 d
  have hbag := State.bag_eq_none hno.2 b
  simp only [StockSlot.pieces] at hpieces
  rcases h with h | h | h | h | h
  · omega
  · omega
  · omega
  · omega
  · exact h hbag

theorem State.Shut.open {s : State} (h : s.Shut) : s.Open := by
  refine ⟨h.1, ?_⟩
  rcases h.2 with h | h <;> simp [h]

theorem State.Shut.not_trading {s : State} (h : s.Shut) : ¬ (s.oc.state = .trading ∨ s.oc.state = .closing) := by
  rcases h.2 with h | h <;> simp [h]

/-- Settles O18: by the tests of DEFINE DENOMINATIONS in their order. -/
theorem defineDenominations : Obligations.DefineDenominations := by
  refine ⟨fun es s h hstock hbags => ⟨fun hne hok => ?_, fun hnil => ?_, fun d h1 h2 hd hfirst => ?_⟩,
    fun es s h => ⟨fun hheld => ?_, fun hday => ?_⟩, fun es s d b h hholds => ?_⟩
  · refine .of_open rfl h.open ?_
    unfold askDefineDenominations
    rw [if_neg h.not_trading, if_neg (by simp [State.holdsStock_eq_false hstock, State.holdsBag_eq_false hbags]), if_neg hne,
      firstFaultyDenom_eq_none hok]
    have hden : denomsOf es = es.map fun e => { value := e.value, kind := if e.kind = 0 then .note else .roll } :=
      List.map_congr_left fun e he => by rw [(denomKindOf_of_le (kind_le_of_no_fault hok he)).1]
    have hcode : (denomsOf es).map (fun e => [Datum.pieceValue e.value, e.kind.code]) =
        es.map fun e => [Datum.pieceValue e.value, .enum e.kind] := by
      rw [denomsOf, List.map_map]
      exact List.map_congr_left fun e he => by
        rw [Function.comp_apply, (denomKindOf_of_le (kind_le_of_no_fault hok he)).2]
    dsimp only
    rw [hcode, hden]
    rfl
  · refine .of_open rfl h.open ?_
    unfold askDefineDenominations
    rw [if_neg h.not_trading, if_neg (by simp [State.holdsStock_eq_false hstock, State.holdsBag_eq_false hbags]), if_pos hnil]
  · refine .of_open rfl h.open ?_
    unfold askDefineDenominations
    have hne : es ≠ [] := List.ne_nil_of_length_pos (by omega)
    rw [if_neg h.not_trading, if_neg (by simp [State.holdsStock_eq_false hstock, State.holdsBag_eq_false hbags]), if_neg hne,
      firstFaultyDenom_eq_some h1 h2 hd hfirst]
  · exact takeRequest_refuse h (unlessHeld_held hheld)
  · have hopen : s.Open := ⟨h, by rcases hday with h | h <;> simp [h]⟩
    refine .of_open rfl hopen ?_
    unfold askDefineDenominations
    rw [if_pos hday]
  · refine .of_open rfl h.open ?_
    unfold askDefineDenominations
    rw [if_neg h.not_trading, if_pos (State.holds_of hholds)]

/-! ### TRANSFER STOCK -/

/-- The role of an enrolled operator: no identifier is enrolled twice (R32). -/
theorem State.OperatorLaw.roleOfOperator {s : State} (h : s.OperatorLaw) {id : Nat} {r : Role} :
    s.roleOfOperator id = some r ↔ ∃ o ∈ s.oc.operators, o.ident = id ∧ o.role = r := by
  unfold State.roleOfOperator
  rw [Option.map_eq_some_iff]
  constructor
  · rintro ⟨o, hfind, hr⟩
    exact ⟨o, List.mem_of_find?_eq_some hfind, by simpa using List.find?_some hfind, hr⟩
  · rintro ⟨o, ho, hid, hr⟩
    obtain ⟨p, hp⟩ := Option.isSome_iff_exists.1 (List.find?_isSome (p := fun q : Operator => decide (q.ident = id)).2 ⟨o, ho, by simp [hid]⟩)
    have hpid : p.ident = id := by simpa using List.find?_some hp
    have hop : p = o := List.inj_on_of_nodup_map h.once (List.mem_of_find?_eq_some hp) ho (hpid.trans hid.symm)
    exact ⟨p, hp, hop ▸ hr⟩

/-- Dual control (R33). -/
theorem State.OperatorLaw.dualControl_iff {s : State} (h : s.OperatorLaw) {a b : Nat} :
    s.dualControl a b = true ↔
      a ≠ b ∧ ∃ o ∈ s.oc.operators, ∃ p ∈ s.oc.operators,
        o.ident = a ∧ p.ident = b ∧ (o.role = .supervisor ∨ p.role = .supervisor) := by
  have hpos : ∀ o ∈ s.oc.operators, o.ident ≠ 0 := fun o ho => Nat.one_le_iff_ne_zero.1 (h.range o ho).1
  have hrole : ∀ o ∈ s.oc.operators, s.roleOfOperator o.ident = some o.role := fun o ho => h.roleOfOperator.2 ⟨o, ho, rfl, rfl⟩
  simp only [State.dualControl, State.isEnrolled, State.isSupervisor, Bool.and_eq_true, Bool.or_eq_true, decide_eq_true_eq,
    Option.isSome_iff_exists]
  constructor
  · rintro ⟨⟨⟨hab, -, r, hr⟩, -, q, hq⟩, hsup⟩
    obtain ⟨o, ho, rfl, rfl⟩ := h.roleOfOperator.1 hr
    obtain ⟨p, hp, rfl, rfl⟩ := h.roleOfOperator.1 hq
    rw [hr, hq] at hsup
    simp only [Option.some.injEq] at hsup
    exact ⟨hab, o, ho, p, hp, rfl, rfl, hsup.imp And.right And.right⟩
  · rintro ⟨hab, o, ho, p, hp, rfl, rfl, hsup⟩
    rw [hrole o ho, hrole p hp]
    refine ⟨⟨⟨hab, hpos o ho, o.role, rfl⟩, hpos p hp, p.role, rfl⟩, ?_⟩
    exact hsup.imp (fun h => ⟨hpos o ho, by rw [h]⟩) fun h => ⟨hpos p hp, by rw [h]⟩

/-- The identifier 0 passes no check of dual control (R33). -/
theorem State.dualControl_zero (s : State) (a : Nat) : s.dualControl 0 a = false ∧ s.dualControl a 0 = false := by
  constructor
  · simp [State.dualControl, State.isEnrolled]
  · simp [State.dualControl, State.isEnrolled]

theorem State.transferLines_eq (s : State) (down : Bool) (ls : List StockLine) :
    s.transferLines down ls = { s with st := { s.st with slots := (s.transferLines down ls).st.slots } } :=
  State.moveLines_eq StockLine.slot (fun l => StockSlot.transfer down l.pieces) ls s

/-- A slot that lines in order name has a figure of pieces, any other none. -/
theorem State.lineFor_eq_zero_iff {s : State} {ls : List StockLine} (hok : s.stockLinesOk ls = true) (d : Nat) :
    lineFor ls d = 0 ↔ d ∉ ls.map StockLine.slot := by
  obtain ⟨-, hlines, hn⟩ := State.stockLinesOk_iff.1 hok
  refine ⟨fun h hd => ?_, lineFor_eq_zero⟩
  obtain ⟨l, hl, rfl⟩ := List.mem_map.1 hd
  rw [lineFor_of_mem hn hl] at h
  have := (hlines l hl).2.1
  omega

/-- What a transfer leaves of a slot (R10, R17). -/
theorem State.slot_transferLines {s : State} (hden : s.st.denoms.length ≤ 12) {ls : List StockLine} (hok : s.stockLinesOk ls = true)
    (down : Bool) (d : Nat) :
    (s.transferLines down ls).slot d =
      if lineFor ls d = 0 then s.slot d else StockSlot.transfer down (lineFor ls d) (s.slot d) := by
  obtain ⟨-, hlines, hn⟩ := State.stockLinesOk_iff.1 hok
  by_cases hd : 1 ≤ d ∧ d ≤ 12
  · rw [s.transferLines_slot down hn d hd.1 hd.2]
    by_cases hm : d ∈ ls.map StockLine.slot
    · rw [if_pos hm, if_neg (mt (State.lineFor_eq_zero_iff hok d).1 (not_not.2 hm))]
    · rw [if_neg hm, if_pos ((State.lineFor_eq_zero_iff hok d).2 hm)]
  · have hm : d ∉ ls.map StockLine.slot := by
      intro hm
      obtain ⟨l, hl, rfl⟩ := List.mem_map.1 hm
      have := (hlines l hl).1
      omega
    rw [State.slot_outside _ _ hd, State.slot_outside _ _ hd, if_pos (lineFor_eq_zero hm)]

/-- A transfer out of WORKING that takes pieces moves the watermarks (R17). -/
theorem StockSlot.transfer_down {x : StockSlot} {n : Nat} (h0 : n ≠ 0) (hn : n ≤ x.working) :
    x.transfer true n = { x with
      working := x.working - n, reserve := x.reserve + n, low := min x.low (x.working - n), high := max x.high (x.working - n) } := by
  have hne : x.working - n ≠ x.working := by omega
  simp [StockSlot.transfer, StockSlot.withWorking, hne]

theorem StockSlot.transfer_up {x : StockSlot} {n : Nat} (h0 : n ≠ 0) :
    x.transfer false n = { x with
      working := x.working + n, reserve := x.reserve - n, low := min x.low (x.working + n), high := max x.high (x.working + n) } := by
  simp [StockSlot.transfer, StockSlot.withWorking, h0]

theorem State.transferShort_eq_none {s : State} {down : Bool} {ls : List StockLine}
    (h : ∀ d ∈ s.namedSlots ls, lineFor ls d ≤ if down then s.assemblyLimit .working d else (s.slot d).reserve) :
    s.transferShort down ls = none :=
  leastFailing_eq_none.2 fun d hd => decide_eq_false (not_lt.2 (h d hd))

theorem State.transferFull_eq_none {s : State} {down : Bool} {ls : List StockLine}
    (h : ∀ d ∈ s.namedSlots ls, (if down then (s.slot d).reserve else (s.slot d).working) + lineFor ls d ≤ pieceLimit) :
    s.transferFull down ls = none :=
  leastFailing_eq_none.2 fun d hd => decide_eq_false (not_lt.2 (h d hd))

/-- A transfer that fits keeps the pieces of each slot, and so the stock value (R4). -/
theorem State.stockValue_transferLines {s : State} {down : Bool} {ls : List StockLine} (hden : s.st.denoms.length ≤ 12)
    (hok : s.stockLinesOk ls = true)
    (h : ∀ d ∈ s.namedSlots ls, lineFor ls d ≤ if down then s.assemblyLimit .working d else (s.slot d).reserve) :
    (s.transferLines down ls).stockValue = s.stockValue := by
  have hdenoms : (s.transferLines down ls).view.denoms = s.view.denoms := by
    show (s.transferLines down ls).st.denoms = s.st.denoms
    rw [State.transferLines_eq]
  rw [State.stockValue_eq, State.stockValue_eq, hdenoms]
  refine valueIn_congr fun d h1 h2 => ?_
  show ((s.transferLines down ls).slot d).pieces = (s.slot d).pieces
  rw [State.slot_transferLines hden hok]
  split
  · rfl
  · rename_i hne
    have hm : d ∈ ls.map StockLine.slot := not_not.1 (mt (State.lineFor_eq_zero_iff hok d).2 hne)
    have hle := h d (State.mem_namedSlots.2 ⟨⟨h1, h2⟩, hm⟩)
    obtain ⟨hw, hr, hu, hdisp, -⟩ := StockSlot.transfer_areas down (lineFor ls d) (s.slot d)
    simp only [StockSlot.pieces, hw, hr, hu, hdisp]
    cases down
    · simp only [Bool.false_eq_true, if_false] at hle ⊢
      omega
    · simp only [if_true, State.assemblyLimit] at hle ⊢
      omega

/-- Direction 0 takes from WORKING; the only other is 1 (R10). -/
theorem askTransferStock_accept {s : State} {op1 op2 dir : Nat} {ls : List StockLine} (hstate : s.oc.state ≠ .unconfigured)
    (hdir : dir ≤ 1) (hok : s.stockLinesOk ls = true) (hdual : s.dualControl op1 op2 = true)
    (hshort : s.transferShort (decide (dir = 0)) ls = none) (hfull : s.transferFull (decide (dir = 0)) ls = none) :
    askTransferStock op1 op2 dir ls s =
      .accept (if dir = 0 then (s.transferLines true ls).retryPasses ((s.namedSlots ls).map fun d => (d, .working))
          else s.transferLines false ls)
        (counted ((s.namedSlots ls).map fun d =>
          [.byte d, .pieces ((s.transferLines (decide (dir = 0)) ls).slot d).working,
            .pieces ((s.transferLines (decide (dir = 0)) ls).slot d).reserve])) := by
  unfold askTransferStock
  dsimp only
  rw [if_neg hstate, if_neg (by simp [hok]; omega), if_neg (by simp [hdual]), hshort, hfull]
  by_cases h0 : dir = 0
  · simp [h0]
  · simp [h0, State.retryPasses]

theorem askTransferStock_short {s : State} {op1 op2 dir d : Nat} {ls : List StockLine} (hstate : s.oc.state ≠ .unconfigured)
    (hdir : dir ≤ 1) (hok : s.stockLinesOk ls = true) (hdual : s.dualControl op1 op2 = true)
    (hshort : s.transferShort (decide (dir = 0)) ls = some d) : askTransferStock op1 op2 dir ls s = .refuse .short [.byte d] := by
  unfold askTransferStock
  dsimp only
  rw [if_neg hstate, if_neg (by simp [hok]; omega), if_neg (by simp [hdual]), hshort]

theorem askTransferStock_full {s : State} {op1 op2 dir d : Nat} {ls : List StockLine} (hstate : s.oc.state ≠ .unconfigured)
    (hdir : dir ≤ 1) (hok : s.stockLinesOk ls = true) (hdual : s.dualControl op1 op2 = true)
    (hshort : s.transferShort (decide (dir = 0)) ls = none) (hfull : s.transferFull (decide (dir = 0)) ls = some d) :
    askTransferStock op1 op2 dir ls s = .refuse .full [.byte d] := by
  unfold askTransferStock
  dsimp only
  rw [if_neg hstate, if_neg (by simp [hok]; omega), if_neg (by simp [hdual]), hshort, hfull]

/-- Settles O19: by the direction, slot by slot. -/
theorem transferMovesEveryLine : Obligations.TransferMovesEveryLine := by
  refine ⟨fun op1 op2 dir ls s h hstate hden hdir hok hdual hdown hup => ?_, fun ls s => ?_, fun a b s hlaw => hlaw.dualControl_iff,
    fun a s => s.dualControl_zero a, fun op1 op2 dir ls s h => ⟨fun hstate => ?_, fun hstate hbad => ?_, fun hstate hdir hok hdual => ?_⟩,
    fun op1 op2 dir d ls limit room s h hstate hdir hok hdual hlimit hroom hd => ⟨fun hlt hleast => ?_, fun hfits hlt hleast => ?_⟩⟩
  · have hfits : ∀ d ∈ s.namedSlots ls,
        lineFor ls d ≤ (if decide (dir = 0) then s.assemblyLimit .working d else (s.slot d).reserve) ∧
          (if decide (dir = 0) then (s.slot d).reserve else (s.slot d).working) + lineFor ls d ≤ pieceLimit := by
      intro d hd
      by_cases h0 : dir = 0
      · simpa [h0] using hdown h0 d hd
      · simpa [h0] using hup (by omega) d hd
    have hshort := State.transferShort_eq_none fun d hd => (hfits d hd).1
    have hfull := State.transferFull_eq_none fun d hd => (hfits d hd).2
    refine ⟨s.transferLines (decide (dir = 0)) ls, ?_, s.transferLines_eq _ ls, fun d => ?_,
      State.stockValue_transferLines hden hok fun d hd => (hfits d hd).1⟩
    · have := Accepts.of_settled (i := .transferStock op1 op2 dir ls) rfl h (askTransferStock_accept hstate hdir hok hdual hshort hfull)
      by_cases h0 : dir = 0
      · simpa [h0] using this
      · simpa [h0] using this
    · rw [State.slot_transferLines hden hok]
      by_cases hzero : lineFor ls d = 0
      · rw [if_pos hzero, if_pos hzero]
      · rw [if_neg hzero, if_neg hzero]
        by_cases h0 : dir = 0
        · have hm : d ∈ ls.map StockLine.slot := not_not.1 (mt (State.lineFor_eq_zero_iff hok d).2 hzero)
          obtain ⟨l, hl, rfl⟩ := List.mem_map.1 hm
          have hnamed := State.mem_namedSlots.2 ⟨((State.stockLinesOk_iff.1 hok).2.1 l hl).1, hm⟩
          have hle := (hdown h0 _ hnamed).1
          rw [if_pos h0, decide_eq_true h0]
          exact StockSlot.transfer_down hzero (hle.trans (Nat.sub_le _ _))
        · rw [if_neg h0, decide_eq_false h0]
          exact StockSlot.transfer_up hzero
  · rw [State.stockLinesOk_iff]
    constructor
    · rintro ⟨⟨h1, h2⟩, hlines, hn⟩
      exact ⟨h1, h2, hn, fun l hl => ⟨(hlines l hl).1.1, (hlines l hl).1.2, (hlines l hl).2⟩⟩
    · rintro ⟨h1, h2, hn, hlines⟩
      refine ⟨⟨h1, h2⟩, fun l hl => ?_, hn⟩
      obtain ⟨h1, h2, h3⟩ := hlines l hl
      exact ⟨⟨h1, h2⟩, h3⟩
  · refine .of_settled rfl h ?_
    unfold askTransferStock
    exact if_pos hstate
  · refine .of_settled rfl h ?_
    unfold askTransferStock
    dsimp only
    rw [if_neg hstate, if_pos hbad]
  · refine .of_settled rfl h ?_
    unfold askTransferStock
    dsimp only
    rw [if_neg hstate, if_neg (by simp [hok]; omega), if_pos hdual]
  · refine .of_settled rfl h (askTransferStock_short hstate hdir hok hdual ?_)
    refine leastFailing_eq_some hd ?_ fun c hc hcd => ?_
    · rw [hlimit] at hlt
      simpa using hlt
    · have := hleast c hc hcd
      rw [hlimit] at this
      simpa using this
  · refine .of_settled rfl h (askTransferStock_full hstate hdir hok hdual (State.transferShort_eq_none fun c hc => ?_) ?_)
    · have := hfits c hc
      rw [hlimit] at this
      simpa using this
    · refine leastFailing_eq_some hd ?_ fun c hc hcd => ?_
      · rw [hroom] at hlt
        simpa using hlt
      · have := hleast c hc hcd
        rw [hroom] at this
        simpa using this

end Sys2Proof.Machine
end

section

/-! PROOFS. The outbound bags: ASSEMBLE, SEAL, DISCARD and UNSEAL. -/

namespace Sys2Proof.Machine

/-! ### Content lines in slot order (R150) -/

theorem insertLine_sorted (l : ContentLine) {ls : List ContentLine} (h : ls.Pairwise fun a b => a.slot ≤ b.slot) :
    (insertLine l ls).Pairwise fun a b => a.slot ≤ b.slot := by
  induction ls with
  | nil => exact List.pairwise_singleton _ _
  | cons m ms ih =>
    obtain ⟨hm, hms⟩ := List.pairwise_cons.1 h
    unfold insertLine
    split
    · rename_i hle
      refine List.pairwise_cons.2 ⟨fun k hk => ?_, h⟩
      rcases List.mem_cons.1 hk with rfl | hk
      · exact hle
      · exact hle.trans (hm k hk)
    · rename_i hlt
      refine List.pairwise_cons.2 ⟨fun k hk => ?_, ih hms⟩
      rcases List.mem_cons.1 ((insertLine_perm l ms).mem_iff.1 hk) with rfl | hk
      · omega
      · exact hm k hk

theorem sortLines_sorted (ls : List ContentLine) : (sortLines ls).Pairwise fun a b => a.slot ≤ b.slot := by
  induction ls with
  | nil => exact List.Pairwise.nil
  | cons l ls ih => exact insertLine_sorted l ih

/-- The content lines stand in the order of their slots, each slot once. -/
theorem contentLines_sorted {ls : List AssemblyLine} (h : (ls.map AssemblyLine.slot).Nodup) :
    ((contentLines ls).map ContentLine.slot).Pairwise (· < ·) := by
  have hle : ((contentLines ls).map ContentLine.slot).Pairwise (· ≤ ·) := List.pairwise_map.2 (sortLines_sorted _)
  exact hle.imp₂ (fun a b h1 h2 => lt_of_le_of_ne h1 h2) (nodup_contentLines h)

theorem sourceOf_of_le {k : Nat} (h : k ≤ 1) : (sourceOf k).getD .working = if k = 0 then .working else .unfit := by
  interval_cases k
  · rfl
  · rfl

theorem sourceOf_isSome (k : Nat) : (sourceOf k).isSome = true ↔ k ≤ 1 := by
  match k with
  | 0 => simp [sourceOf]
  | 1 => simp [sourceOf]
  | k + 2 => simp [sourceOf]

theorem State.assemblyLinesOk_iff {s : State} {ls : List AssemblyLine} :
    s.assemblyLinesOk ls = true ↔
      1 ≤ ls.length ∧ ls.length ≤ 12 ∧ (ls.map AssemblyLine.slot).Nodup ∧
      ∀ l ∈ ls, 1 ≤ l.slot ∧ l.slot ≤ s.st.denoms.length ∧ 1 ≤ l.pieces ∧ l.pieces ≤ pieceLimit ∧ l.source ≤ 1 := by
  simp only [State.assemblyLinesOk, State.slotOk, piecesOk, Bool.and_eq_true, decide_eq_true_eq, List.all_eq_true, sourceOf_isSome]
  constructor
  · rintro ⟨⟨⟨h1, h2⟩, hl⟩, hn⟩
    refine ⟨h1, h2, hn, fun l hm => ?_⟩
    obtain ⟨⟨⟨h1, h2⟩, h3, h4⟩, h5⟩ := hl l hm
    exact ⟨h1, h2, h3, h4, h5⟩
  · rintro ⟨h1, h2, hn, hl⟩
    refine ⟨⟨⟨h1, h2⟩, fun l hm => ?_⟩, hn⟩
    obtain ⟨h1, h2, h3, h4, h5⟩ := hl l hm
    exact ⟨⟨⟨h1, h2⟩, h3, h4⟩, h5⟩

/-- The first line in slot order that passes a test. -/
theorem find?_of_sorted {ls : List ContentLine} (hs : (ls.map ContentLine.slot).Pairwise (· < ·)) {p : ContentLine → Bool} {l : ContentLine}
    (hl : l ∈ ls) (hp : p l = true) (hleast : ∀ m ∈ ls, m.slot < l.slot → p m = false) : ls.find? p = some l := by
  induction ls with
  | nil => simp at hl
  | cons m ms ih =>
    obtain ⟨hm, hms⟩ := List.pairwise_cons.1 hs
    rcases List.mem_cons.1 hl with rfl | hmem
    · exact List.find?_cons_of_pos hp
    · rw [List.find?_cons_of_neg (by simp [hleast m List.mem_cons_self (hm _ (List.mem_map_of_mem hmem))])]
      exact ih hms hmem fun k hk => hleast k (List.mem_cons_of_mem _ hk)

/-- The first of several lines that passes a test, where it stands. -/
theorem find?_ahead {ls ahead behind : List ContentLine} {p : ContentLine → Bool} {l : ContentLine} (h : ls = ahead ++ l :: behind)
    (ha : ∀ m ∈ ahead, p m = false) (hp : p l = true) : ls.find? p = some l := by
  rw [h, List.find?_append, List.find?_eq_none.2 fun m hm => by simp [ha m hm], List.find?_cons_of_pos hp]
  rfl

/-! ### DISPATCH line by line (R11, R12, R17) -/

theorem StockSlot.follows_enter (l : ContentLine) (x : StockSlot) :
    x.Follows { StockSlot.take l.source l.pieces x with dispatch := x.dispatch + l.pieces } :=
  ⟨(StockSlot.follows_take l x).low, (StockSlot.follows_take l x).high⟩

theorem StockSlot.follows_back (l : ContentLine) (x : StockSlot) :
    x.Follows { StockSlot.give l.source l.pieces x with dispatch := x.dispatch - l.pieces } :=
  ⟨(StockSlot.follows_give l x).low, (StockSlot.follows_give l x).high⟩

theorem State.enterDispatch_areas (s : State) (ls : List ContentLine) {d : Nat} (h1 : 1 ≤ d) (h2 : d ≤ 12) :
    ((s.enterDispatch ls).slot d).working = (s.slot d).working - heldBy ls .working d ∧
    ((s.enterDispatch ls).slot d).unfit = (s.slot d).unfit - heldBy ls .unfit d ∧
    ((s.enterDispatch ls).slot d).dispatch = (s.slot d).dispatch + piecesOf ls d ∧
    ((s.enterDispatch ls).slot d).reserve = (s.slot d).reserve ∧ ((s.enterDispatch ls).slot d).suspect = (s.slot d).suspect := by
  rw [State.enterDispatch, State.slot_moveLines _ _ _ _ _ h1 h2]
  exact StockSlot.moveLines_enter ls d (s.slot d)

theorem State.backFromDispatch_areas (s : State) (ls : List ContentLine) {d : Nat} (h1 : 1 ≤ d) (h2 : d ≤ 12) :
    ((s.backFromDispatch ls).slot d).working = (s.slot d).working + heldBy ls .working d ∧
    ((s.backFromDispatch ls).slot d).unfit = (s.slot d).unfit + heldBy ls .unfit d ∧
    ((s.backFromDispatch ls).slot d).dispatch = (s.slot d).dispatch - piecesOf ls d ∧
    ((s.backFromDispatch ls).slot d).reserve = (s.slot d).reserve ∧ ((s.backFromDispatch ls).slot d).suspect = (s.slot d).suspect := by
  rw [State.backFromDispatch, State.slot_moveLines _ _ _ _ _ h1 h2]
  exact StockSlot.moveLines_back ls d (s.slot d)

theorem State.slot_enterDispatch {ls : List ContentLine} (hn : (ls.map fun l => (l.slot, l.source)).Nodup) (s : State) {d w : Nat}
    (h1 : 1 ≤ d) (h2 : d ≤ 12) (hw : w = (s.slot d).working - heldBy ls .working d) :
    (s.enterDispatch ls).slot d = { s.slot d with
      working := w, unfit := (s.slot d).unfit - heldBy ls .unfit d
      dispatch := (s.slot d).dispatch + heldBy ls .working d + heldBy ls .unfit d
      low := if w = (s.slot d).working then (s.slot d).low else min (s.slot d).low w
      high := if w = (s.slot d).working then (s.slot d).high else max (s.slot d).high w } := by
  obtain ⟨hwork, hunfit, hdisp, hres, hsus⟩ := s.enterDispatch_areas ls h1 h2
  have hfol : (s.slot d).Follows ((s.enterDispatch ls).slot d) := by
    rw [State.enterDispatch, State.slot_moveLines _ _ _ _ _ h1 h2]
    refine StockSlot.follows_moveLines (f := fun l x => { StockSlot.take l.source l.pieces x with dispatch := x.dispatch + l.pieces })
      StockSlot.follows_enter (fun l x hl => ?_) hn d _
    simp [StockSlot.take, hl]
  obtain ⟨hlow, hhigh⟩ := hfol.eq (hwork.trans hw.symm)
  exact StockSlot.eq_of_fields (hwork.trans hw.symm) hres hunfit (by rw [hdisp, piecesOf, Nat.add_assoc]) hsus hlow hhigh

theorem State.slot_backFromDispatch {ls : List ContentLine} (hn : (ls.map fun l => (l.slot, l.source)).Nodup) (s : State) {d w : Nat}
    (h1 : 1 ≤ d) (h2 : d ≤ 12) (hw : w = (s.slot d).working + heldBy ls .working d) :
    (s.backFromDispatch ls).slot d = { s.slot d with
      working := w, unfit := (s.slot d).unfit + heldBy ls .unfit d
      dispatch := (s.slot d).dispatch - heldBy ls .working d - heldBy ls .unfit d
      low := if w = (s.slot d).working then (s.slot d).low else min (s.slot d).low w
      high := if w = (s.slot d).working then (s.slot d).high else max (s.slot d).high w } := by
  obtain ⟨hwork, hunfit, hdisp, hres, hsus⟩ := s.backFromDispatch_areas ls h1 h2
  have hfol : (s.slot d).Follows ((s.backFromDispatch ls).slot d) := by
    rw [State.backFromDispatch, State.slot_moveLines _ _ _ _ _ h1 h2]
    refine StockSlot.follows_moveLines (f := fun l x => { StockSlot.give l.source l.pieces x with dispatch := x.dispatch - l.pieces })
      StockSlot.follows_back (fun l x hl => ?_) hn d _
    simp [StockSlot.give, hl]
  obtain ⟨hlow, hhigh⟩ := hfol.eq (hwork.trans hw.symm)
  exact StockSlot.eq_of_fields (hwork.trans hw.symm) hres hunfit (by rw [hdisp, piecesOf, Nat.sub_sub]) hsus hlow hhigh

theorem State.enterDispatch_eq (s : State) (ls : List ContentLine) :
    s.enterDispatch ls = { s with st := { s.st with slots := (s.enterDispatch ls).st.slots } } :=
  State.moveLines_eq ContentLine.slot (fun l x => { StockSlot.take l.source l.pieces x with dispatch := x.dispatch + l.pieces }) ls s

theorem State.backFromDispatch_eq (s : State) (ls : List ContentLine) :
    s.backFromDispatch ls = { s with st := { s.st with slots := (s.backFromDispatch ls).st.slots } } :=
  State.moveLines_eq ContentLine.slot (fun l x => { StockSlot.give l.source l.pieces x with dispatch := x.dispatch - l.pieces }) ls s

theorem StockSlot.area_eq (x : StockSlot) (a : Source) : x.area a = if a = .working then x.working else x.unfit := by
  cases a
  · rfl
  · rfl

end Sys2Proof.Machine
end

section

/-! PROOFS. The requests for outbound bags, each by its tests in their order. -/

namespace Sys2Proof.Machine

/-! ### ASSEMBLE BAG -/

theorem consignmentOk_eq_false {c : Nat} (h : c = 0 ∨ 8 < c) : consignmentOk c = false := by
  simp
  omega

theorem bagSlotOk_eq_false {b : Nat} (h : 255 < b) : bagSlotOk b = false := by
  simp
  omega

section
variable {c : Nat} {ls : List AssemblyLine} {s : State}

theorem askAssembleBag_range (h : c = 0 ∨ 8 < c ∨ s.assemblyLinesOk ls = false) : askAssembleBag c ls s = .refuse .range [] := by
  unfold askAssembleBag
  refine if_pos ?_
  rcases h with h | h | h
  · exact .inl (consignmentOk_eq_false (.inl h))
  · exact .inl (consignmentOk_eq_false (.inr h))
  · exact .inr h

/-- Past the tests of the fields, ASSEMBLE BAG tests the consignment. -/
theorem askAssembleBag_fields (h1 : 1 ≤ c) (h2 : c ≤ 8) (hok : s.assemblyLinesOk ls = true) :
    askAssembleBag c ls s =
      if (s.consignment c).state = .free then .refuse .absent []
      else if (s.consignment c).state = .inHandover then .refuse .busy []
      else if (s.consignment c).state ≠ .opened ∧ (s.consignment c).state ≠ .scheduled then .refuse .state []
      else if 24 ≤ (s.consignment c).outbound.length then .refuse .full []
      else if 16 ≤ s.st.reservations.length then .refuse .full []
      else
        match s.freeGeneral with
        | none => .refuse .full []
        | some b =>
          match s.assemblyShort (contentLines ls) with
          | some l => .refuse .short [.byte l.slot, .pieces (s.assemblyLimit l.source l.slot)]
          | none => .accept (s.assemble c b (contentLines ls)) [.byte b, .amount (s.linesValue (contentLines ls))] := by
  unfold askAssembleBag
  exact if_neg (by simp [consignmentOk_iff.2 ⟨h1, h2⟩, hok])

theorem askAssembleBag_state (h1 : 1 ≤ c) (h2 : c ≤ 8) (hok : s.assemblyLinesOk ls = true) :
    ((s.consignment c).state = .free → askAssembleBag c ls s = .refuse .absent []) ∧
    ((s.consignment c).state = .inHandover → askAssembleBag c ls s = .refuse .busy []) ∧
    ((s.consignment c).state = .done ∨ (s.consignment c).state = .missed ∨ (s.consignment c).state = .cancelled →
      askAssembleBag c ls s = .refuse .state []) := by
  rw [askAssembleBag_fields h1 h2 hok]
  refine ⟨fun h => if_pos h, fun h => ?_, fun h => ?_⟩
  · rw [if_neg (by simp [h]), if_pos h]
  · rcases h with h | h | h
    · rw [if_neg (by simp [h]), if_neg (by simp [h]), if_pos (by simp [h])]
    · rw [if_neg (by simp [h]), if_neg (by simp [h]), if_pos (by simp [h])]
    · rw [if_neg (by simp [h]), if_neg (by simp [h]), if_pos (by simp [h])]

/-- Past the test of the consignment's state, ASSEMBLE BAG tests the room. -/
theorem askAssembleBag_opened (h1 : 1 ≤ c) (h2 : c ≤ 8) (hok : s.assemblyLinesOk ls = true)
    (hs : (s.consignment c).state = .opened ∨ (s.consignment c).state = .scheduled) :
    askAssembleBag c ls s =
      if 24 ≤ (s.consignment c).outbound.length then .refuse .full []
      else if 16 ≤ s.st.reservations.length then .refuse .full []
      else
        match s.freeGeneral with
        | none => .refuse .full []
        | some b =>
          match s.assemblyShort (contentLines ls) with
          | some l => .refuse .short [.byte l.slot, .pieces (s.assemblyLimit l.source l.slot)]
          | none => .accept (s.assemble c b (contentLines ls)) [.byte b, .amount (s.linesValue (contentLines ls))] := by
  rw [askAssembleBag_fields h1 h2 hok]
  rcases hs with h | h
  · rw [if_neg (by simp [h]), if_neg (by simp [h]), if_neg (by simp [h])]
  · rw [if_neg (by simp [h]), if_neg (by simp [h]), if_neg (by simp [h])]

theorem askAssembleBag_full (h1 : 1 ≤ c) (h2 : c ≤ 8) (hok : s.assemblyLinesOk ls = true)
    (hs : (s.consignment c).state = .opened ∨ (s.consignment c).state = .scheduled)
    (hf : 24 ≤ (s.consignment c).outbound.length ∨ 16 ≤ s.st.reservations.length ∨ s.freeGeneral = none) :
    askAssembleBag c ls s = .refuse .full [] := by
  rw [askAssembleBag_opened h1 h2 hok hs]
  split
  · rfl
  · split
    · rfl
    · rcases hf with h | h | h
      · contradiction
      · contradiction
      · rw [h]

/-- With room, ASSEMBLE BAG tests the pieces of its lines. -/
theorem askAssembleBag_lines {b : Nat} (h1 : 1 ≤ c) (h2 : c ≤ 8) (hok : s.assemblyLinesOk ls = true)
    (hs : (s.consignment c).state = .opened ∨ (s.consignment c).state = .scheduled) (ho : (s.consignment c).outbound.length < 24)
    (hr : s.st.reservations.length < 16) (hb : s.freeGeneral = some b) :
    askAssembleBag c ls s =
      match s.assemblyShort (contentLines ls) with
      | some l => .refuse .short [.byte l.slot, .pieces (s.assemblyLimit l.source l.slot)]
      | none => .accept (s.assemble c b (contentLines ls)) [.byte b, .amount (s.linesValue (contentLines ls))] := by
  rw [askAssembleBag_opened h1 h2 hok hs, if_neg (not_le.2 ho), if_neg (not_le.2 hr), hb]

end

theorem State.assemblyShort_eq_none {s : State} {ls : List ContentLine} (h : ∀ l ∈ ls, l.pieces ≤ s.assemblyLimit l.source l.slot) :
    s.assemblyShort ls = none :=
  List.find?_eq_none.2 fun l hl => by simpa using h l hl

theorem State.linesValue_eq {s : State} {ls : List ContentLine} (h : ∀ l ∈ ls, 1 ≤ l.slot) :
    s.linesValue ls = (ls.map fun l => l.pieces * (s.st.denoms[l.slot - 1]?.map Denom.value).getD 0).sum := by
  refine congrArg List.sum (List.map_congr_left fun l hl => ?_)
  rw [State.pieceValue, if_neg (Nat.one_le_iff_ne_zero.1 (h l hl))]

/-! ### SEAL BAG -/

section
variable {b q : Nat} {s : State}

theorem askSealBag_range (h : 255 < b ∨ q = 0 ∨ sealLimit < q) : askSealBag b q s = .refuse .range [] := by
  unfold askSealBag
  refine if_pos ?_
  rcases h with h | h | h
  · exact .inl (bagSlotOk_eq_false h)
  · exact .inr (by simp [sealOk, h])
  · exact .inr (by simp [sealOk]; omega)

/-- Past the tests of the fields, SEAL BAG tests the bag. -/
theorem askSealBag_fields (hb : b ≤ 255) (h1 : 1 ≤ q) (h2 : q ≤ sealLimit) :
    askSealBag b q s =
      match s.bag b with
      | none => .refuse .absent []
      | some x =>
        if x.kind ≠ .outbound ∨ x.state ≠ .assembling then .refuse .state []
        else if s.sealLive q then .refuse .duplicate []
        else
          match s.sealFull x.lines with
          | some l => .refuse .full [.byte l.slot]
          | none =>
            .accept ((s.sealBag b q x.lines).retryPasses (loweredBy x.lines))
              ([.byte b, .sealNo q] ++
                counted (x.lines.map fun l => [.byte l.slot, .pieces ((s.sealBag b q x.lines).slot l.slot).dispatch])) := by
  unfold askSealBag
  refine (if_neg ?_).trans rfl
  simp only [bagSlotOk_iff.2 hb, sealOk, Bool.true_eq_false, false_or, decide_eq_false_iff_not, not_not]
  exact ⟨h1, h2⟩

theorem askSealBag_assembling {x : Bag} (hb : b ≤ 255) (h1 : 1 ≤ q) (h2 : q ≤ sealLimit) (hx : s.bag b = some x) (hk : x.kind = .outbound)
    (hs : x.state = .assembling) :
    askSealBag b q s =
      if s.sealLive q then .refuse .duplicate []
      else
        match s.sealFull x.lines with
        | some l => .refuse .full [.byte l.slot]
        | none =>
          .accept ((s.sealBag b q x.lines).retryPasses (loweredBy x.lines))
            ([.byte b, .sealNo q] ++
              counted (x.lines.map fun l => [.byte l.slot, .pieces ((s.sealBag b q x.lines).slot l.slot).dispatch])) := by
  rw [askSealBag_fields hb h1 h2, hx]
  exact if_neg (by simp [hk, hs])

/-- A sealed bag: its pieces stand in DISPATCH, its reservation is freed (R11). -/
theorem State.sealBag_eq {x : Bag} (hx : s.bag b = some x) :
    s.sealBag b q x.lines = ((s.enterDispatch x.lines).freeReservation (.bag b)).setBag b
      (some { x with sealNo := some q, state := .sealed, changed := s.oc.clock }) := by
  have hbag : ((s.enterDispatch x.lines).freeReservation (.bag b)).bag b = some x := by
    rw [State.enterDispatch_eq]
    exact hx
  unfold State.sealBag State.changeBag
  rw [hbag]

theorem State.sealFull_eq_none {ls : List ContentLine} (h : ∀ l ∈ ls, (s.slot l.slot).dispatch + l.pieces ≤ pieceLimit) :
    s.sealFull ls = none :=
  List.find?_eq_none.2 fun l hl => by simpa using h l hl

end

/-! ### DISCARD BAG and UNSEAL BAG -/

section
variable {b op : Nat} {s : State}

/-- Past the test of the slot, DISCARD BAG tests the bag. -/
theorem askDiscardBag_slot (hb : b ≤ 255) :
    askDiscardBag b s =
      match s.bag b with
      | none => .refuse .absent []
      | some x =>
        if x.kind ≠ .outbound ∨ x.state ≠ .assembling then .refuse .state []
        else .accept ((s.freeReservation (.bag b)).freeOutbound b x) [.byte b] := by
  unfold askDiscardBag
  refine (if_neg ?_).trans rfl
  simp [bagSlotOk_iff.2 hb]

/-- Past the tests of the slot and of the operator, UNSEAL BAG tests the bag. -/
theorem askUnsealBag_role (hb : b ≤ 255) (hop : s.isSupervisor op = true) :
    askUnsealBag b op s =
      match s.bag b with
      | none => .refuse .absent []
      | some x =>
        if x.kind ≠ .outbound ∨ x.state ≠ .sealed then .refuse .state []
        else if s.bagInHandover x then .refuse .busy []
        else
          match s.unsealFull x.lines with
          | some l => .refuse .full [.byte l.slot]
          | none =>
            .accept ((s.backFromDispatch x.lines).freeOutbound b x)
              (counted (x.lines.map fun l =>
                [.byte l.slot, l.source.code, .pieces ((((s.backFromDispatch x.lines).freeOutbound b x).slot l.slot).area l.source)])) := by
  unfold askUnsealBag
  refine (if_neg ?_).trans ((if_neg ?_).trans rfl)
  · simp [bagSlotOk_iff.2 hb]
  · simp [hop]

theorem askUnsealBag_sealed {x : Bag} (hb : b ≤ 255) (hop : s.isSupervisor op = true) (hx : s.bag b = some x) (hk : x.kind = .outbound)
    (hs : x.state = .sealed) :
    askUnsealBag b op s =
      if s.bagInHandover x then .refuse .busy []
      else
        match s.unsealFull x.lines with
        | some l => .refuse .full [.byte l.slot]
        | none =>
          .accept ((s.backFromDispatch x.lines).freeOutbound b x)
            (counted (x.lines.map fun l =>
              [.byte l.slot, l.source.code, .pieces ((((s.backFromDispatch x.lines).freeOutbound b x).slot l.slot).area l.source)])) := by
  rw [askUnsealBag_role hb hop, hx]
  exact if_neg (by simp [hk, hs])

theorem State.bagInHandover_iff {x : Bag} :
    s.bagInHandover x = true ↔ ∃ c, x.consignment = some c ∧ (s.consignment c).state = .inHandover := by
  simp [State.bagInHandover, Option.any_eq_true]

theorem State.bagInHandover_eq_false {x : Bag} (h : ∀ c, x.consignment = some c → (s.consignment c).state ≠ .inHandover) :
    s.bagInHandover x = false := by
  rw [Bool.eq_false_iff]
  intro hin
  obtain ⟨c, hc, hs⟩ := State.bagInHandover_iff.1 hin
  exact h c hc hs

theorem State.unsealFull_eq_none {ls : List ContentLine}
    (h : ∀ l ∈ ls, (if l.source = .working then (s.slot l.slot).working else (s.slot l.slot).unfit) + l.pieces ≤ pieceLimit) :
    s.unsealFull ls = none :=
  List.find?_eq_none.2 fun l hl => by simpa [StockSlot.area_eq] using h l hl

theorem State.freeOutbound_cases (b : Nat) (x : Bag) (s : State) :
    (x.consignment = none → s.freeOutbound b x = s.setBag b none) ∧
    (∀ c, x.consignment = some c →
      s.freeOutbound b x = (s.setConsignment c { s.consignment c with
        outbound := (s.consignment c).outbound.filter fun q => decide (q ≠ b) }).setBag b none) := by
  constructor
  · intro h
    rw [State.freeOutbound, h]
  · intro c h
    rw [State.freeOutbound, h]
    rfl

end

end Sys2Proof.Machine
end

section

/-! PROOFS. What the requests for outbound bags do: the obligation, assembled request by request. -/

namespace Sys2Proof.Machine

theorem refuses_assembleBag (c : Nat) (ls : List AssemblyLine) (s : State) (h : s.Open) :
    (s.assemblyLinesOk ls = true ↔
      1 ≤ ls.length ∧ ls.length ≤ 12 ∧ (ls.map AssemblyLine.slot).Nodup ∧
      ∀ l ∈ ls, 1 ≤ l.slot ∧ l.slot ≤ s.st.denoms.length ∧ 1 ≤ l.pieces ∧ l.pieces ≤ pieceLimit ∧ l.source ≤ 1) ∧
    (c = 0 ∨ 8 < c ∨ s.assemblyLinesOk ls = false → Refuses (.assembleBag c ls) s .range []) ∧
    (1 ≤ c → c ≤ 8 → s.assemblyLinesOk ls = true →
      ((s.consignment c).state = .free → Refuses (.assembleBag c ls) s .absent []) ∧
      ((s.consignment c).state = .inHandover → Refuses (.assembleBag c ls) s .busy []) ∧
      ((s.consignment c).state = .done ∨ (s.consignment c).state = .missed ∨ (s.consignment c).state = .cancelled →
        Refuses (.assembleBag c ls) s .state []) ∧
      ((s.consignment c).state = .opened ∨ (s.consignment c).state = .scheduled →
        24 ≤ (s.consignment c).outbound.length ∨ 16 ≤ s.st.reservations.length ∨ s.freeGeneral = none →
        Refuses (.assembleBag c ls) s .full [])) := by
  refine ⟨State.assemblyLinesOk_iff, fun hr => .of_settled rfl h (askAssembleBag_range hr), fun h1 h2 hok => ?_⟩
  obtain ⟨hfree, hbusy, hstate⟩ := askAssembleBag_state h1 h2 hok
  exact ⟨fun hs => .of_settled rfl h (hfree hs), fun hs => .of_settled rfl h (hbusy hs), fun hs => .of_settled rfl h (hstate hs),
    fun hs hf => .of_settled rfl h (askAssembleBag_full h1 h2 hok hs hf)⟩

theorem assembleBag_lines (c b : Nat) (ls : List AssemblyLine) (s : State) (h : s.Open) (h1 : 1 ≤ c) (h2 : c ≤ 8)
    (hok : s.assemblyLinesOk ls = true) (hs : (s.consignment c).state = .opened ∨ (s.consignment c).state = .scheduled)
    (ho : (s.consignment c).outbound.length < 24) (hr : s.st.reservations.length < 16) (hb : s.freeGeneral = some b) :
    ((∀ l ∈ contentLines ls, l.pieces ≤ s.assemblyLimit l.source l.slot) →
      Accepts (.assembleBag c ls) s
        (s.settle
          ((({ s with st := { s.st with reservations := s.st.reservations ++
              [{ owner := .bag b, lines := contentLines ls, created := s.oc.clock, expiry := none }] } } : State).setBag b
            (some { newBag .outbound .assembling s.oc.clock with
              consignment := some c, declared := some (s.linesValue (contentLines ls)), lines := contentLines ls })).setConsignment
            c { s.consignment c with outbound := (s.consignment c).outbound ++ [b] }))
        [.byte b, .amount (s.linesValue (contentLines ls))]) ∧
    (∀ l ∈ contentLines ls, s.assemblyLimit l.source l.slot < l.pieces →
      (∀ m ∈ contentLines ls, m.slot < l.slot → m.pieces ≤ s.assemblyLimit m.source m.slot) →
      Refuses (.assembleBag c ls) s .short [.byte l.slot, .pieces (s.assemblyLimit l.source l.slot)]) := by
  obtain ⟨-, -, hn, -⟩ := State.assemblyLinesOk_iff.1 hok
  have hask := askAssembleBag_lines h1 h2 hok hs ho hr hb
  constructor
  · intro hfits
    rw [State.assemblyShort_eq_none hfits] at hask
    exact .of_settled rfl h hask
  · intro l hl hlt hleast
    have hshort : s.assemblyShort (contentLines ls) = some l :=
      find?_of_sorted (contentLines_sorted hn) hl (decide_eq_true hlt) fun m hm hml => decide_eq_false (not_lt.2 (hleast m hm hml))
    rw [hshort] at hask
    exact .of_settled rfl h hask

theorem refuses_sealBag (b q : Nat) (s : State) (h : s.Open) :
    (255 < b ∨ q = 0 ∨ sealLimit < q → Refuses (.sealBag b q) s .range []) ∧
    (b ≤ 255 → 1 ≤ q → q ≤ sealLimit →
      (s.bag b = none → Refuses (.sealBag b q) s .absent []) ∧
      (∀ x, s.bag b = some x → x.kind ≠ .outbound ∨ x.state ≠ .assembling → Refuses (.sealBag b q) s .state [])) := by
  refine ⟨fun hr => .of_settled rfl h (askSealBag_range hr), fun hb h1 h2 => ⟨fun hx => ?_, fun x hx hs => ?_⟩⟩
  · refine .of_settled rfl h ?_
    rw [askSealBag_fields hb h1 h2, hx]
  · refine .of_settled rfl h ?_
    rw [askSealBag_fields hb h1 h2, hx]
    exact if_pos hs

theorem refuses_discardBag_unsealBag (b op : Nat) (s : State) (h : s.Open) :
    (255 < b → Refuses (.discardBag b) s .range [] ∧ Refuses (.unsealBag b op) s .range []) ∧
    (b ≤ 255 → s.bag b = none → Refuses (.discardBag b) s .absent []) ∧
    (b ≤ 255 → s.isSupervisor op = false → Refuses (.unsealBag b op) s .role []) ∧
    (b ≤ 255 → s.isSupervisor op = true →
      (s.bag b = none → Refuses (.unsealBag b op) s .absent []) ∧
      (∀ x, s.bag b = some x → x.kind ≠ .outbound ∨ x.state ≠ .sealed → Refuses (.unsealBag b op) s .state [])) := by
  refine ⟨fun hb => ⟨.of_settled rfl h ?_, .of_settled rfl h ?_⟩, fun hb hx => .of_settled rfl h ?_, fun hb hop => .of_settled rfl h ?_,
    fun hb hop => ⟨fun hx => .of_settled rfl h ?_, fun x hx hs => .of_settled rfl h ?_⟩⟩
  · exact if_pos (bagSlotOk_eq_false hb)
  · exact if_pos (bagSlotOk_eq_false hb)
  · rw [askDiscardBag_slot hb, hx]
  · unfold askUnsealBag
    rw [if_neg (by simp [bagSlotOk_iff.2 hb]), if_pos hop]
  · rw [askUnsealBag_role hb hop, hx]
  · rw [askUnsealBag_role hb hop, hx]
    exact if_pos hs

theorem sealBag_assembling (b q : Nat) (x : Bag) (u : State) (s : State) (h : s.Open) (hb : b ≤ 255) (h1 : 1 ≤ q) (h2 : q ≤ sealLimit)
    (hx : s.bag b = some x) (hk : x.kind = .outbound) (hs : x.state = .assembling)
    (hu : u = ((s.enterDispatch x.lines).freeReservation (.bag b)).setBag b
      (some { x with sealNo := some q, state := .sealed, changed := s.oc.clock })) :
    (s.sealLive q = true → Refuses (.sealBag b q) s .duplicate []) ∧
    (s.sealLive q = false → (∀ l ∈ x.lines, (s.slot l.slot).dispatch + l.pieces ≤ pieceLimit) →
      Accepts (.sealBag b q) s (s.settle (u.retryPasses (loweredBy x.lines)))
        ([.byte b, .sealNo q] ++ counted (x.lines.map fun l => [.byte l.slot, .pieces (u.slot l.slot).dispatch]))) ∧
    (s.sealLive q = false → ∀ ahead l behind, x.lines = ahead ++ l :: behind →
      (∀ m ∈ ahead, (s.slot m.slot).dispatch + m.pieces ≤ pieceLimit) → pieceLimit < (s.slot l.slot).dispatch + l.pieces →
      Refuses (.sealBag b q) s .full [.byte l.slot]) := by
  have hask := askSealBag_assembling hb h1 h2 hx hk hs
  refine ⟨fun hlive => .of_settled rfl h (hask.trans (if_pos hlive)), fun hlive hfits => ?_, fun hlive ahead l behind he ha hl => ?_⟩
  · rw [if_neg (by simp [hlive]), State.sealFull_eq_none hfits, State.sealBag_eq hx, ← hu] at hask
    exact .of_settled rfl h hask
  · have hfull : s.sealFull x.lines = some l :=
      find?_ahead he (fun m hm => decide_eq_false (not_lt.2 (ha m hm))) (decide_eq_true hl)
    rw [if_neg (by simp [hlive]), hfull] at hask
    exact .of_settled rfl h hask

theorem discardBag_some (b : Nat) (x : Bag) (s : State) (h : s.Open) (hb : b ≤ 255) (hx : s.bag b = some x) :
    (x.kind = .outbound → x.state = .assembling →
      Accepts (.discardBag b) s (s.settle ((s.freeReservation (.bag b)).freeOutbound b x)) [.byte b]) ∧
    (x.kind ≠ .outbound ∨ x.state ≠ .assembling → Refuses (.discardBag b) s .state []) := by
  refine ⟨fun hk hs => .of_settled rfl h ?_, fun hs => .of_settled rfl h ?_⟩
  · rw [askDiscardBag_slot hb, hx]
    exact if_neg (by simp [hk, hs])
  · rw [askDiscardBag_slot hb, hx]
    exact if_pos hs

theorem unsealBag_sealed (b op : Nat) (x : Bag) (u : State) (s : State) (h : s.Open) (hb : b ≤ 255) (hx : s.bag b = some x)
    (hk : x.kind = .outbound) (hs : x.state = .sealed) (hu : u = (s.backFromDispatch x.lines).freeOutbound b x) :
    (∀ c, s.isSupervisor op = true → x.consignment = some c → (s.consignment c).state = .inHandover →
      Refuses (.unsealBag b op) s .busy []) ∧
    (s.isSupervisor op = true → (∀ c, x.consignment = some c → (s.consignment c).state ≠ .inHandover) →
      (∀ l ∈ x.lines, (if l.source = .working then (s.slot l.slot).working else (s.slot l.slot).unfit) + l.pieces ≤ pieceLimit) →
      Accepts (.unsealBag b op) s (s.settle u)
        (counted (x.lines.map fun l => [.byte l.slot, l.source.code,
          .pieces (if l.source = .working then (u.slot l.slot).working else (u.slot l.slot).unfit)]))) ∧
    (s.isSupervisor op = true → (∀ c, x.consignment = some c → (s.consignment c).state ≠ .inHandover) →
      ∀ ahead l behind, x.lines = ahead ++ l :: behind →
      (∀ m ∈ ahead, (if m.source = .working then (s.slot m.slot).working else (s.slot m.slot).unfit) + m.pieces ≤ pieceLimit) →
      pieceLimit < (if l.source = .working then (s.slot l.slot).working else (s.slot l.slot).unfit) + l.pieces →
      Refuses (.unsealBag b op) s .full [.byte l.slot]) := by
  refine ⟨fun c hop hc hin => ?_, fun hop hno hfits => ?_, fun hop hno ahead l behind he ha hl => ?_⟩
  · refine .of_settled rfl h ?_
    rw [askUnsealBag_sealed hb hop hx hk hs]
    exact if_pos (State.bagInHandover_iff.2 ⟨c, hc, hin⟩)
  · have hask := askUnsealBag_sealed hb hop hx hk hs
    rw [if_neg (by simp [State.bagInHandover_eq_false hno]), State.unsealFull_eq_none hfits, ← hu] at hask
    simp only [← StockSlot.area_eq]
    exact .of_settled rfl h hask
  · have hfull : s.unsealFull x.lines = some l := by
      simp only [← StockSlot.area_eq] at ha hl
      exact find?_ahead he (fun m hm => decide_eq_false (not_lt.2 (ha m hm))) (decide_eq_true hl)
    refine .of_settled rfl h ?_
    rw [askUnsealBag_sealed hb hop hx hk hs, if_neg (by simp [State.bagInHandover_eq_false hno]), hfull]

/-- Settles O53: request by request, and the pieces slot by slot. -/
theorem outboundBags : Obligations.OutboundBags := by
  refine ⟨refuses_assembleBag, fun ls hn hsrc => ⟨contentLines_sorted hn, ?_⟩, fun ls s hl => State.linesValue_eq hl, assembleBag_lines,
    refuses_sealBag, refuses_discardBag_unsealBag, sealBag_assembling, discardBag_some, unsealBag_sealed,
    fun b x s => State.freeOutbound_cases b x s, fun ls d s h1 h2 => ?_, fun ls s u v hn hu hv => ?_⟩
  · refine (sortLines_perm _).trans (List.Perm.of_eq (List.map_congr_left fun l hl => ?_))
    rw [sourceOf_of_le (hsrc l hl)]
  · obtain ⟨h3, h4, h5, h6, -⟩ := s.enterDispatch_areas ls h1 h2
    obtain ⟨h7, h8, h9, h10, -⟩ := s.backFromDispatch_areas ls h1 h2
    exact ⟨h3, h4, by rw [h5, piecesOf, Nat.add_assoc], h6, h7, h8, by rw [h9, piecesOf, Nat.sub_sub], h10⟩
  · subst hu hv
    exact ⟨s.enterDispatch_eq ls, s.backFromDispatch_eq ls, fun d w h1 h2 hw => State.slot_enterDispatch hn s h1 h2 hw,
      fun d w h1 h2 hw => State.slot_backFromDispatch hn s h1 h2 hw⟩

end Sys2Proof.Machine
end

section

/-! PROOFS. A credit taken whole or held whole. -/

namespace Sys2Proof.Machine

/-! ### Reconciliation -/

theorem State.place_totals (s : State) (k : NoticeKind) (ds : List Datum) : (s.place k ds).oc.totals = s.oc.totals := by
  rw [s.place_oc]

theorem State.place_till (s : State) (k : NoticeKind) (ds : List Datum) (n : Nat) : (s.place k ds).till n = s.till n :=
  congrArg (fun t : Tps => nth Till.atColdStart t.tills n) (by simp)

theorem State.bagsOutstanding_eq_zero {s : State} {t : Till} :
    s.bagsOutstanding t = 0 ↔ ∀ c ∈ t.bags, ∀ y, s.bag c = some y → y.state = .counted ∨ y.state = .lost := by
  unfold State.bagsOutstanding
  rw [List.length_eq_zero_iff, List.filter_eq_nil_iff]
  refine forall₂_congr fun c _ => ?_
  cases s.bag c with
  | none => simp
  | some y =>
    simp only [decide_eq_true_eq, Option.some.injEq, forall_eq']
    tauto

theorem State.reconcile_stands {s : State} {n : Nat} (h : (s.till n).state ≠ .draining ∨ s.bagsOutstanding (s.till n) ≠ 0) :
    s.reconcile n = s := by
  unfold State.reconcile
  exact if_neg (by tauto)

theorem State.till_reconcile {s : State} {n : Nat} (h1 : 1 ≤ n) (h2 : n ≤ 96) (hs : (s.till n).state = .draining)
    (ho : s.bagsOutstanding (s.till n) = 0) :
    (s.reconcile n).till n = { s.till n with state := .reconciled, variance := some (s.till n).varianceOf } := by
  unfold State.reconcile
  dsimp only
  rw [if_pos ⟨hs, ho⟩, State.place_till]
  exact s.till_setTill_same n _ h1 h2

/-- The test of a till changes no figure that it has collected (R62). -/
theorem State.collected_reconcile (s : State) {n : Nat} (h1 : 1 ≤ n) (h2 : n ≤ 96) :
    ((s.reconcile n).till n).collected = (s.till n).collected := by
  by_cases h : (s.till n).state = .draining ∧ s.bagsOutstanding (s.till n) = 0
  · rw [State.till_reconcile h1 h2 h.1 h.2]
  · rw [State.reconcile_stands (by tauto)]

/-- Of the day's totals the test of a till changes the variances alone (R62). -/
theorem State.reconcile_totals (s : State) (n : Nat) :
    (s.reconcile n).oc.totals = { s.oc.totals with
      varianceSum := (s.reconcile n).oc.totals.varianceSum, varianceCount := (s.reconcile n).oc.totals.varianceCount } := by
  unfold State.reconcile
  dsimp only
  split
  · rw [State.place_totals]
    rfl
  · rfl

/-! ### What TPS is told of a bag COUNTED -/

theorem State.tellCounted_none {s : State} {b : Nat} (h : (s.bag b).bind Bag.till = none) : s.tellCounted b = s := by
  unfold State.tellCounted
  split
  · rfl
  · rename_i x hx
    rw [hx, Option.bind_some] at h
    rw [h]

theorem State.tellCounted_some {s : State} {b n : Nat} {x : Bag} (hx : s.bag b = some x) (hn : x.till = some n) :
    s.tellCounted b =
      (s.setTill n { s.till n with collected := (s.till n).collected + (x.result.map CountResult.value).getD 0 }).reconcile n := by
  unfold State.tellCounted
  rw [hx]
  dsimp only
  rw [hn]
  rfl

theorem State.tellCounted_totals (s : State) (b : Nat) :
    (s.tellCounted b).oc.totals = { s.oc.totals with
      varianceSum := (s.tellCounted b).oc.totals.varianceSum, varianceCount := (s.tellCounted b).oc.totals.varianceCount } := by
  unfold State.tellCounted
  split
  · rfl
  · split
    · rfl
    · exact State.reconcile_totals _ _

theorem State.collected_tellCounted {s : State} {b n : Nat} {x : Bag} (hx : s.bag b = some x) (hn : x.till = some n) (h1 : 1 ≤ n)
    (h2 : n ≤ 96) : ((s.tellCounted b).till n).collected = (s.till n).collected + (x.result.map CountResult.value).getD 0 := by
  rw [State.tellCounted_some hx hn, State.collected_reconcile _ h1 h2, State.till_setTill_same _ _ _ h1 h2]

/-! ### The tests of a credit -/

theorem State.mem_creditFailures {s : State} {t : Vector Counts 12} {p : Nat × Source} :
    p ∈ s.creditFailures t ↔ p.1 ∈ s.slots ∧
      ((p.2 = .working ∧ pieceLimit < (s.slot p.1).working + (nth default t p.1).good) ∨
        (p.2 = .unfit ∧ pieceLimit < (s.slot p.1).unfit + (nth default t p.1).unfit)) := by
  obtain ⟨d, a⟩ := p
  simp only [State.creditFailures, List.mem_flatMap, List.mem_append]
  constructor
  · rintro ⟨c, hc, h | h⟩
    · split at h
      · simp at h
      · obtain ⟨rfl, rfl⟩ := Prod.mk.inj (List.mem_singleton.1 h)
        exact ⟨hc, .inl ⟨rfl, by omega⟩⟩
    · split at h
      · simp at h
      · obtain ⟨rfl, rfl⟩ := Prod.mk.inj (List.mem_singleton.1 h)
        exact ⟨hc, .inr ⟨rfl, by omega⟩⟩
  · rintro ⟨hd, ⟨rfl, h⟩ | ⟨rfl, h⟩⟩
    · exact ⟨d, hd, .inl (by rw [if_neg (not_le.2 h)]; exact List.mem_singleton_self _)⟩
    · exact ⟨d, hd, .inr (by rw [if_neg (not_le.2 h)]; exact List.mem_singleton_self _)⟩

/-- One failure of a credit stands before another: by slot, and in a slot WORKING before UNFIT. -/
def FailsBefore (f g : Nat × Source) : Prop := f.1 < g.1 ∨ (f.1 = g.1 ∧ f.2 = .working ∧ g.2 = .unfit)

/-- The failures of a credit stand in the order of their slots, WORKING before UNFIT (R5). -/
theorem State.creditFailures_sorted (s : State) (t : Vector Counts 12) : (s.creditFailures t).Pairwise FailsBefore := by
  have hslots : s.slots.Pairwise (· < ·) := by
    unfold State.slots upTo
    exact List.pairwise_map.2 (List.pairwise_lt_range.imp fun h => by omega)
  unfold State.creditFailures
  refine List.pairwise_flatMap.2 ⟨fun d _ => ?_, hslots.imp fun {c d} hcd f hf g hg => ?_⟩
  · split
    · split
      · exact List.Pairwise.nil
      · exact List.pairwise_singleton _ _
    · split
      · exact List.pairwise_singleton _ _
      · exact List.pairwise_pair.2 (.inr ⟨rfl, rfl, rfl⟩)
  · have hslot : ∀ {e : Nat} {p : Nat × Source},
        p ∈ (if (s.slot e).working + (nth default t e).good ≤ pieceLimit then [] else [(e, Source.working)]) ++
          (if (s.slot e).unfit + (nth default t e).unfit ≤ pieceLimit then [] else [(e, Source.unfit)]) → p.1 = e := by
      intro e p hp
      rcases List.mem_append.1 hp with h | h
      · split at h
        · simp at h
        · rw [List.mem_singleton.1 h]
      · split at h
        · simp at h
        · rw [List.mem_singleton.1 h]
    exact .inl (by rw [hslot hf, hslot hg]; exact hcd)

/-! ### Stock of a credit, slot by slot -/

theorem State.slot_stockIn {s : State} (hden : s.st.denoms.length ≤ 12) (t : Vector Counts 12) {d : Nat} (hd : d ∈ s.slots) :
    (s.stockIn t).slot d = (s.slot d).add (nth default t d) := by
  obtain ⟨h1, h2⟩ := mem_slots.1 hd
  rw [show (s.stockIn t).slot d = (s.stockIn t).view.slot d from rfl, State.stockIn_view]
  exact if_pos ⟨hd, h1, h2.trans hden⟩

theorem State.slot_addSuspects {s : State} (hden : s.st.denoms.length ≤ 12) (t : Vector Counts 12) {d : Nat} (hd : d ∈ s.slots) :
    (s.addSuspects t).slot d = { s.slot d with suspect := min ((s.slot d).suspect + (nth default t d).suspect) pieceLimit } := by
  obtain ⟨h1, h2⟩ := mem_slots.1 hd
  rw [show (s.addSuspects t).slot d = (s.addSuspects t).view.slot d from rfl, State.addSuspects_view]
  exact if_pos ⟨hd, h1, h2.trans hden⟩

/-- What a slot that takes a credit keeps for its watermarks (R17). -/
theorem StockSlot.add_marks (c : Counts) (x : StockSlot) :
    (x.add c).low = (if c.good = 0 then x.low else min x.low (x.working + c.good)) ∧
      (x.add c).high = if c.good = 0 then x.high else max x.high (x.working + c.good) := by
  have hgood : x.working + c.good = x.working ↔ c.good = 0 := by omega
  simp only [StockSlot.add, StockSlot.withWorking_eq, hgood, and_self]

theorem State.foldl_changeSlot_st (ds : List Nat) (g : Nat → StockSlot → StockSlot) (s : State) :
    (ds.foldl (fun u d => u.changeSlot d (g d)) s).st =
      { s.st with slots := (ds.foldl (fun u d => u.changeSlot d (g d)) s).st.slots } :=
  congrArg State.st (State.moveLines_eq id g ds s)

/-- Suspect pieces change the slots and the day's totals alone. -/
theorem State.addSuspects_eq (s : State) (t : Vector Counts 12) :
    s.addSuspects t = { s with
      st := { s.st with slots := (s.addSuspects t).st.slots }
      oc := { s.oc with totals := { s.oc.totals with
        suspectPieces := s.oc.totals.suspectPieces + (s.slots.map fun d => (nth default t d).suspect).sum
        suspectValue := s.oc.totals.suspectValue + s.tallyValue Counts.suspect t } } } := by
  have h := State.moveLines_eq id (fun d x => { x with suspect := min (x.suspect + (nth default t d).suspect) pieceLimit }) s.slots s
  unfold State.addSuspects
  dsimp only [id] at h ⊢
  rw [h]
  rfl

/-- A credit that fits changes the slots and the day's totals alone. -/
theorem State.stockIn_eq (s : State) (t : Vector Counts 12) :
    s.stockIn t = { s with
      st := { s.st with slots := (s.stockIn t).st.slots }
      oc := { s.oc with totals := { s.oc.totals with
        counted := s.oc.totals.counted + s.tallyValue (fun c => c.good + c.unfit) t
        unfit := s.oc.totals.unfit + s.tallyValue Counts.unfit t } } } := by
  have h := State.moveLines_eq id (fun d => StockSlot.add (nth default t d)) s.slots s
  unfold State.stockIn
  dsimp only [id] at h ⊢
  rw [h]
  rfl

end Sys2Proof.Machine
end

section

/-! PROOFS. A credit applied, presented and retried: the obligation, part by part. -/

namespace Sys2Proof.Machine

/-! ### A credit applied (R5) -/

section
variable {s : State} {b : Nat} {t : Vector Counts 12}

theorem State.slot_applyCredit (hden : s.st.denoms.length ≤ 12) {d : Nat} (hd : d ∈ s.slots) :
    (s.applyCredit b t).slot d = (s.slot d).add (nth default t d) := by
  rw [← State.slot_stockIn hden t hd, State.applyCredit_eq]
  exact State.slot_congr (by simp) d

theorem State.applyCredit_totals :
    (s.applyCredit b t).oc.totals = { s.oc.totals with
      counted := s.oc.totals.counted + s.tallyValue (fun c => c.good + c.unfit) t
      unfit := s.oc.totals.unfit + s.tallyValue Counts.unfit t
      varianceSum := (s.applyCredit b t).oc.totals.varianceSum, varianceCount := (s.applyCredit b t).oc.totals.varianceCount } := by
  have hoc : ((s.stockIn t).moveBag b .counted).oc = (s.stockIn t).oc := by simp
  rw [State.applyCredit_eq, State.tellCounted_totals, hoc, State.stockIn_eq]

theorem State.bag_stockIn (c : Nat) : (s.stockIn t).bag c = s.bag c := by
  rw [State.stockIn_eq]
  rfl

theorem State.clock_stockIn : (s.stockIn t).oc.clock = s.oc.clock := by
  rw [State.stockIn_eq]

/-- What stands before TPS is told: the stock of the credit, and the bag COUNTED. -/
theorem State.bag_stockIn_moveBag (c : Nat) (st : BagState) :
    ((s.stockIn t).moveBag b st).bag c =
      if c = b then (s.bag b).map fun x => { x with state := st, changed := s.oc.clock } else s.bag c := by
  rw [State.bag_moveBag, State.bag_stockIn, State.bag_stockIn, State.clock_stockIn]

theorem State.bag_applyCredit : ((s.applyCredit b t).bag b).map Bag.state = (s.bag b).map fun _ => .counted := by
  rw [State.applyCredit_eq, State.bag_congr (s := (s.stockIn t).moveBag b .counted) (by simp), State.bag_stockIn_moveBag, if_pos rfl,
    Option.map_map]
  rfl

theorem State.collected_applyCredit {x : Bag} {n : Nat} (hx : s.bag b = some x) (hn : x.till = some n) (h1 : 1 ≤ n) (h2 : n ≤ 96) :
    ((s.applyCredit b t).till n).collected = (s.till n).collected + (x.result.map CountResult.value).getD 0 := by
  have hbag : ((s.stockIn t).moveBag b .counted).bag b = some { x with state := .counted, changed := s.oc.clock } := by
    rw [State.bag_stockIn_moveBag, if_pos rfl, hx]
    rfl
  have htill : ((s.stockIn t).moveBag b .counted).till n = s.till n := by
    simp only [State.till, State.moveBag_frame]
    rw [State.stockIn_eq]
  rw [State.applyCredit_eq, State.collected_tellCounted hbag hn h1 h2, htill]

end

/-! ### A credit presented (R5) -/

section
variable {s : State} {b : Nat} {t : Vector Counts 12}

theorem State.slots_addSuspects : (s.addSuspects t).slots = s.slots := by
  rw [State.addSuspects_eq]
  rfl

theorem State.tallyValue_addSuspects (f : Counts → Nat) (c : Vector Counts 12) : (s.addSuspects t).tallyValue f c = s.tallyValue f c := by
  rw [State.addSuspects_eq]
  rfl

theorem State.denoms_addSuspects : (s.addSuspects t).st.denoms = s.st.denoms := by
  rw [State.addSuspects_eq]

/-- Suspect pieces make no credit fit, and none fail. -/
theorem State.creditFailures_addSuspects (c : Vector Counts 12) :
    (s.addSuspects t).creditFailures c = s.creditFailures c := by
  have hslot : ∀ d, ((s.addSuspects t).slot d).working = (s.slot d).working ∧ ((s.addSuspects t).slot d).unfit = (s.slot d).unfit := by
    intro d
    rw [show (s.addSuspects t).slot d = (s.addSuspects t).view.slot d from rfl, State.addSuspects_view]
    dsimp only [slotsChanged]
    split
    · exact ⟨rfl, rfl⟩
    · exact ⟨rfl, rfl⟩
  unfold State.creditFailures
  rw [State.slots_addSuspects]
  refine List.flatMap_congr fun d _ => ?_
  rw [(hslot d).1, (hslot d).2]

theorem State.credit_taken (h : s.creditFailures t = []) :
    s.credit b t = (s.addSuspects t).applyCredit b t := by
  unfold State.credit
  dsimp only
  rw [State.creditFailures_addSuspects, h]

/-- A credit that does not fit is held, with its blocking set (R5). -/
theorem State.credit_held {f : Nat × Source} {fs : List (Nat × Source)}
    (h : s.creditFailures t = f :: fs) :
    s.credit b t =
      ((({ s.addSuspects t with st := { (s.addSuspects t).st with
          held := (s.addSuspects t).st.held ++ [{ bag := b, counts := t.map fun c => { c with suspect := 0 }, blocking := f :: fs }] } } :
        State).moveBag b .creditHeld).place .creditHeld [.byte b, .byte f.1, f.2.areaCode]) := by
  unfold State.credit
  dsimp only
  rw [State.creditFailures_addSuspects, h]

/-- The clause of a credit taken. -/
theorem State.credit_taken_whole (hden : s.st.denoms.length ≤ 12) (h : s.creditFailures t = []) :
    (∀ d ∈ s.slots,
      ((s.credit b t).slot d).working = (s.slot d).working + (nth default t d).good ∧
      ((s.credit b t).slot d).unfit = (s.slot d).unfit + (nth default t d).unfit ∧
      ((s.credit b t).slot d).suspect = min ((s.slot d).suspect + (nth default t d).suspect) pieceLimit ∧
      ((s.credit b t).slot d).reserve = (s.slot d).reserve ∧ ((s.credit b t).slot d).dispatch = (s.slot d).dispatch ∧
      ((s.credit b t).slot d).low = (if (nth default t d).good = 0 then (s.slot d).low
        else min (s.slot d).low ((s.slot d).working + (nth default t d).good)) ∧
      ((s.credit b t).slot d).high = (if (nth default t d).good = 0 then (s.slot d).high
        else max (s.slot d).high ((s.slot d).working + (nth default t d).good))) ∧
    (s.credit b t).oc.totals.counted = s.oc.totals.counted + s.tallyValue (fun c => c.good + c.unfit) t ∧
    (s.credit b t).oc.totals.unfit = s.oc.totals.unfit + s.tallyValue Counts.unfit t ∧
    (s.credit b t).oc.totals.suspectPieces = s.oc.totals.suspectPieces + (s.slots.map fun d => (nth default t d).suspect).sum ∧
    (s.credit b t).oc.totals.suspectValue = s.oc.totals.suspectValue + s.tallyValue Counts.suspect t ∧
    ((s.credit b t).bag b).map Bag.state = (s.bag b).map (fun _ => .counted) ∧
    (s.credit b t).st.held = s.st.held ∧
    (∃ w : State,
      s.credit b t = w.tellCounted b ∧ w.tps = s.tps ∧ w.hli = s.hli ∧
      w.bag b = (s.bag b).map (fun x => { x with state := .counted, changed := s.oc.clock }) ∧
      (∀ c, c ≠ b → w.bag c = s.bag c)) ∧
    (∀ x n, s.bag b = some x → x.till = some n → 1 ≤ n → n ≤ 96 →
      ((s.credit b t).till n).collected = (s.till n).collected + (x.result.map CountResult.value).getD 0) := by
  have hu := s.addSuspects_eq t
  have hbags : ∀ c, (s.addSuspects t).bag c = s.bag c := fun c => by
    rw [hu]
    rfl
  have hclock : (s.addSuspects t).oc.clock = s.oc.clock := by rw [hu]
  have htotals : (s.addSuspects t).oc.totals = { s.oc.totals with
      suspectPieces := s.oc.totals.suspectPieces + (s.slots.map fun d => (nth default t d).suspect).sum
      suspectValue := s.oc.totals.suspectValue + s.tallyValue Counts.suspect t } := by rw [hu]
  have hden' : (s.addSuspects t).st.denoms.length ≤ 12 := by rwa [State.denoms_addSuspects]
  have htot := State.applyCredit_totals (s := s.addSuspects t) (b := b) (t := t)
  rw [State.tallyValue_addSuspects, State.tallyValue_addSuspects, htotals] at htot
  rw [State.credit_taken h]
  refine ⟨fun d hd => ?_, by rw [htot], by rw [htot], by rw [htot], by rw [htot], ?_, ?_,
    ⟨((s.addSuspects t).stockIn t).moveBag b .counted, State.applyCredit_eq _ _ _, ?_, ?_, ?_, fun c hc => ?_⟩, fun x n hx hn h1 h2 => ?_⟩
  · rw [State.slot_applyCredit hden' (by rwa [State.slots_addSuspects]), State.slot_addSuspects hden t hd]
    obtain ⟨hw, hun, hr, hdi, hs⟩ := StockSlot.add_counts (nth default t d)
      { s.slot d with suspect := min ((s.slot d).suspect + (nth default t d).suspect) pieceLimit }
    obtain ⟨hl, hh⟩ := StockSlot.add_marks (nth default t d)
      { s.slot d with suspect := min ((s.slot d).suspect + (nth default t d).suspect) pieceLimit }
    exact ⟨hw, hun, hs, hr, hdi, hl, hh⟩
  · rw [State.bag_applyCredit, hbags]
  · rw [State.applyCredit_held, hu]
  · simp only [State.moveBag_frame]
    rw [State.stockIn_eq, hu]
  · simp only [State.moveBag_frame]
    rw [State.stockIn_eq, hu]
  · rw [State.bag_stockIn_moveBag, if_pos rfl, hbags, hclock]
  · rw [State.bag_stockIn_moveBag, if_neg hc, hbags]
  · rw [State.collected_applyCredit ((hbags b).trans hx) hn h1 h2, hu]
    rfl

/-- A notice placed in a state of the same host line, office clock and deferred notices does the same to them. -/
theorem State.place_congr {u v : State} (hp : u.phase = v.phase) (hh : u.hli = v.hli) (hc : u.oc.clock = v.oc.clock)
    (hd : u.oc.deferred = v.oc.deferred) (ho : u.oc.deferredOver = v.oc.deferredOver) (k : NoticeKind) (ds : List Datum) :
    (u.place k ds).hli = (v.place k ds).hli ∧ (u.place k ds).oc.deferred = (v.place k ds).oc.deferred ∧
      (u.place k ds).oc.deferredOver = (v.place k ds).oc.deferredOver := by
  unfold State.place State.queueNotice State.deferNotice State.masked
  rw [hp, hh, hc, hd]
  split
  · split
    · exact ⟨hh, hd, ho⟩
    · split
      · exact ⟨rfl, hd, ho⟩
      · exact ⟨rfl, hd, ho⟩
  · split
    · exact ⟨rfl, rfl, ho⟩
    · exact ⟨rfl, hd, rfl⟩

theorem State.bag_place (s : State) (k : NoticeKind) (ds : List Datum) (c : Nat) : (s.place k ds).bag c = s.bag c :=
  State.bag_congr (by simp) c

/-- The clause of a credit held. -/
theorem State.credit_held_whole (hden : s.st.denoms.length ≤ 12) (f : Nat × Source) (fs : List (Nat × Source))
    (h : s.creditFailures t = f :: fs) :
    (∀ d ∈ s.slots,
      ((s.credit b t).slot d) =
        { s.slot d with suspect := min ((s.slot d).suspect + (nth default t d).suspect) pieceLimit }) ∧
    (s.credit b t).oc.totals = { s.oc.totals with
      suspectPieces := s.oc.totals.suspectPieces + (s.slots.map fun d => (nth default t d).suspect).sum
      suspectValue := s.oc.totals.suspectValue + s.tallyValue Counts.suspect t } ∧
    ((s.credit b t).bag b).map Bag.state = (s.bag b).map (fun _ => .creditHeld) ∧
    (s.credit b t).st.held =
      s.st.held ++ [{ bag := b, counts := t.map fun c => { c with suspect := 0 }, blocking := f :: fs }] ∧
    (∀ g ∈ fs, f.1 < g.1 ∨ (f.1 = g.1 ∧ f.2 = .working ∧ g.2 = .unfit)) ∧
    (s.credit b t).tps = s.tps ∧
    (∀ u : State, u = s.place .creditHeld [.byte b, .byte f.1, .enum (if f.2 = .working then 0 else 2)] →
      (s.credit b t).hli = u.hli ∧ (s.credit b t).oc.deferred = u.oc.deferred ∧
      (s.credit b t).oc.deferredOver = u.oc.deferredOver) := by
  have hu := s.addSuspects_eq t
  have hsorted : ∀ g ∈ fs, FailsBefore f g := (List.pairwise_cons.1 (h ▸ s.creditFailures_sorted t)).1
  have hcode : f.2.areaCode = .enum (if f.2 = .working then 0 else 2) := by
    cases f.2
    · rfl
    · rfl
  have hbag : (s.addSuspects t).bag b = s.bag b := by
    rw [hu]
    rfl
  rw [State.credit_held h, hcode]
  refine ⟨fun d hd => ?_, ?_, ?_, ?_, hsorted, ?_, fun u hplace => ?_⟩
  · rw [← State.slot_addSuspects hden t hd]
    simp only [State.slot, State.place_frame, State.moveBag_frame]
  · rw [State.place_totals]
    simp only [State.moveBag_frame]
    rw [hu]
  · rw [State.bag_place, State.bag_moveBag, if_pos rfl, Option.map_map, ← hbag]
    rfl
  · simp only [State.place_frame, State.moveBag_frame]
    rw [hu]
  · simp only [State.place_frame, State.moveBag_frame]
    rw [hu]
  · rw [hplace]
    refine State.place_congr ?_ ?_ ?_ ?_ ?_ _ _
    · simp only [State.moveBag_frame]
      rw [hu]
    · simp only [State.moveBag_frame]
      rw [hu]
    · simp only [State.moveBag_frame]
      rw [hu]
    · simp only [State.moveBag_frame]
      rw [hu]
    · simp only [State.moveBag_frame]
      rw [hu]

end

/-! ### A held credit retested (R6) -/

section
variable {p : Nat × Source} {s : State} {e : HeldCredit}

theorem State.retryOne_of_not_mem (h : p ∉ e.blocking) : State.retryOne p s e = s := if_neg h

theorem State.retryOne_fails (hp : p ∈ e.blocking) {f : Nat × Source} {fs : List (Nat × Source)} (h : s.creditFailures e.counts = f :: fs) :
    State.retryOne p s e = { s with st := { s.st with
      held := s.st.held.map fun h => if h.bag = e.bag then { h with blocking := f :: fs } else h } } := by
  unfold State.retryOne
  rw [if_pos hp, h]

theorem State.retryOne_passes (hp : p ∈ e.blocking) (h : s.creditFailures e.counts = []) :
    State.retryOne p s e =
      ({ s with st := { s.st with held := s.st.held.filter fun h => decide (h.bag ≠ e.bag) } } : State).applyCredit e.bag e.counts := by
  unfold State.retryOne
  rw [if_pos hp, h]

/-- An entry that still fails keeps its place and its bag. -/
theorem map_bag_blocking (hs : List HeldCredit) (b : Nat) (bs : List (Nat × Source)) :
    (hs.map fun h => if h.bag = b then { h with blocking := bs } else h).map HeldCredit.bag = hs.map HeldCredit.bag := by
  rw [List.map_map]
  refine List.map_congr_left fun h _ => ?_
  rw [Function.comp_apply]
  split
  · rfl
  · rfl

/-- The clause of a held credit that now passes. -/
theorem State.retryOne_taken {u : State} (hp : p ∈ e.blocking) (h : s.creditFailures e.counts = []) (hden : s.st.denoms.length ≤ 12)
    (hu : u = State.retryOne p s e) :
    u.st.held = s.st.held.filter (fun h => decide (h.bag ≠ e.bag)) ∧
    (∀ d ∈ s.slots,
      (u.slot d).working = (s.slot d).working + (nth default e.counts d).good ∧
      (u.slot d).unfit = (s.slot d).unfit + (nth default e.counts d).unfit ∧
      (u.slot d).suspect = (s.slot d).suspect ∧ (u.slot d).reserve = (s.slot d).reserve ∧
      (u.slot d).dispatch = (s.slot d).dispatch ∧
      (u.slot d).low = (if (nth default e.counts d).good = 0 then (s.slot d).low
        else min (s.slot d).low ((s.slot d).working + (nth default e.counts d).good)) ∧
      (u.slot d).high = (if (nth default e.counts d).good = 0 then (s.slot d).high
        else max (s.slot d).high ((s.slot d).working + (nth default e.counts d).good))) ∧
    u.oc.totals.counted = s.oc.totals.counted + s.tallyValue (fun c => c.good + c.unfit) e.counts ∧
    u.oc.totals.suspectPieces = s.oc.totals.suspectPieces ∧
    (u.bag e.bag).map Bag.state = (s.bag e.bag).map (fun _ => .counted) ∧
    (∀ x n, s.bag e.bag = some x → x.till = some n → 1 ≤ n → n ≤ 96 →
      (u.till n).collected = (s.till n).collected + (x.result.map CountResult.value).getD 0) := by
  rw [hu, State.retryOne_passes hp h]
  refine ⟨State.applyCredit_held _ _ _, fun d hd => ?_, ?_, ?_, State.bag_applyCredit, fun x n hx hn h1 h2 =>
    State.collected_applyCredit hx hn h1 h2⟩
  · have hslot := State.slot_applyCredit (b := e.bag) (t := e.counts)
      (s := { s with st := { s.st with held := s.st.held.filter fun h => decide (h.bag ≠ e.bag) } }) hden hd
    rw [hslot]
    obtain ⟨hw, hun, hr, hdi, hs⟩ := StockSlot.add_counts (nth default e.counts d) (s.slot d)
    obtain ⟨hl, hh⟩ := StockSlot.add_marks (nth default e.counts d) (s.slot d)
    exact ⟨hw, hun, hs, hr, hdi, hl, hh⟩
  · rw [State.applyCredit_totals]
    rfl
  · rw [State.applyCredit_totals]

end

/-- Settles O20: a credit taken, a credit held, what TPS is told, and the retest of a held credit. -/
theorem creditIsTakenWhole : Obligations.CreditIsTakenWhole := by
  refine ⟨fun s b t hden => ⟨fun h => State.credit_taken_whole hden h, fun f fs h => State.credit_held_whole hden f fs h⟩,
    fun s b => ⟨State.tellCounted_none, fun x n hx hn => State.tellCounted_some hx hn⟩,
    fun n s h1 h2 => ⟨State.bagsOutstanding_eq_zero, State.reconcile_stands, fun hs ho => State.till_reconcile h1 h2 hs ho⟩,
    fun s t d _ => ⟨?_, ?_⟩,
    fun p s u e hu => ⟨fun hp => hu.trans (State.retryOne_of_not_mem hp), fun f fs hp hf => ?_, fun hp hf hden => State.retryOne_taken hp hf hden hu⟩,
    fun s p ps => ⟨rfl, rfl, rfl⟩⟩
  · simp [State.mem_creditFailures]
  · simp [State.mem_creditFailures]
  · rw [hu, State.retryOne_fails hp hf]
    exact ⟨rfl, map_bag_blocking _ _ _⟩

end Sys2Proof.Machine
end

section

/-! PROOFS. What a completed handover exchanges. -/

namespace Sys2Proof.Machine

/-- The bags and the pieces that a handover exchanges: those handed over, those taken in, those left out (R165). -/
def State.exchangedBags (s : State) (outs ins left : List Nat) (value declared : Nat) : State :=
  let s1 := (outs.foldl State.handOverBag s).tellOc fun q => { q with handedOver := q.handedOver + value }
  let s2 := (ins.foldl (fun u b => u.enqueueTail b .ordinary) s1).tellOc fun q => { q with received := q.received + declared }
  left.foldl (fun u b => u.changeBag b fun x => { x with consignment := none }) s2

/-- The exchange, with the consignment DONE and the handover at its end; its notices and the answer to the handset follow. -/
def State.exchanged (s : State) (c : Nat) (outs ins left : List Nat) (value declared : Nat) : State :=
  ((s.exchangedBags outs ins left value declared).changeConsignment c fun y =>
    { y with state := .done, inbound := y.inbound.filter fun b => decide (b ∉ left) }).setHandover none

theorem State.completeHandover_eq (s : State) (h : Handover) {outs ins left : List Nat} {value declared : Nat}
    (ho : outs = s.bagsIn (s.consignment h.consignment).outbound .scanned) (hi : ins = s.bagsIn h.received .received)
    (hl : left = s.bagsIn (s.consignment h.consignment).inbound .expected)
    (hv : value = (outs.map fun b => s.linesValue (((s.bag b).map Bag.lines).getD [])).sum)
    (hd : declared = (ins.map fun b => ((s.bag b).bind Bag.declared).getD 0).sum) {t : State}
    (ht : t = (s.exchanged h.consignment outs ins left value declared).place .handoverDone
      [.byte h.consignment, .ident h.courier, .count outs.length, .wide value, .count ins.length, .wide declared]) :
    s.completeHandover h = (if left = [] then t
      else t.place .shortDelivery (.byte h.consignment ::
        counted (left.map fun b => [.byte b, .sealNo (((s.bag b).bind Bag.sealNo).getD 0)]))).send (.toDock (.done none)) := by
  subst ht hd hv ho hi hl
  rfl

section
variable {s : State} {c : Nat} {outs ins left : List Nat} {value declared : Nat}

/-- An exchange leaves the host line, the till records, the stations, the lock and what was sent. -/
theorem State.exchanged_frame :
    (s.exchanged c outs ins left value declared).hli = s.hli ∧ (s.exchanged c outs ins left value declared).tps = s.tps ∧
    (s.exchanged c outs ins left value declared).csc = s.csc ∧ (s.exchanged c outs ins left value declared).slc = s.slc ∧
    (s.exchanged c outs ins left value declared).sent = s.sent ∧ (s.exchanged c outs ins left value declared).phase = s.phase := by
  simp [State.exchanged, State.exchangedBags]

theorem State.exchanged_oc :
    (s.exchanged c outs ins left value declared).oc = { s.oc with totals := { s.oc.totals with
      handedOver := s.oc.totals.handedOver + value, received := s.oc.totals.received + declared } } := by
  have h1 : (outs.foldl State.handOverBag s).oc = s.oc := by simp
  simp [State.exchanged, State.exchangedBags, State.tellOc, h1]

/-- What an exchange makes of a bag, as the laws read it. -/
def exchangedBag (outs ins left : List Nat) (b : Nat) (o : Option Bag) : Option Bag :=
  let o1 := if b ∈ outs then o.map fun x => { x with state := .handedOver } else o
  let o2 := if b ∈ ins then o1.map fun x => { x with state := .queued } else o1
  if b ∈ left then o2.map fun x => { x with consignment := none } else o2

theorem State.exchangedBags_view :
    (s.exchangedBags outs ins left value declared).view = { s.view with
      slot := fun d => { s.slot d with
        dispatch := (s.slot d).dispatch - (outs.map fun b => piecesOf (((s.bag b).map Bag.lines).getD []) d).sum }
      bag := fun b => exchangedBag outs ins left b (s.view.bag b)
      ordinary := s.br.ordinary ++ ins
      totals := { s.oc.totals with
        handedOver := s.oc.totals.handedOver + value, received := s.oc.totals.received + declared } } := by
  have hoc1 : (outs.foldl State.handOverBag s).oc = s.oc := by simp
  have hoc2 : ∀ u : State, (ins.foldl (fun u b => u.enqueueTail b .ordinary) u).oc = u.oc := fun u => by simp
  have hv1 := State.foldl_handOverBag_view (fun b => ((s.bag b).map Bag.lines).getD []) outs s fun _ => rfl
  unfold State.exchangedBags
  dsimp only
  rw [State.foldl_changeBag_view left _ (fun x => { x with consignment := none }) (fun _ => rfl) (fun _ => rfl), State.tellOc_view,
    State.foldl_enqueueTail_view, State.tellOc_view, hv1, hoc2]
  simp only [State.tellOc, hoc1]
  rfl

theorem State.slot_exchanged (d : Nat) :
    (s.exchanged c outs ins left value declared).slot d = { s.slot d with
      dispatch := (s.slot d).dispatch - (outs.map fun b => piecesOf (((s.bag b).map Bag.lines).getD []) d).sum } :=
  congrFun (congrArg View.slot State.exchangedBags_view) d

theorem State.bag_exchanged (b : Nat) :
    ((s.exchanged c outs ins left value declared).bag b).map Bag.core = exchangedBag outs ins left b ((s.bag b).map Bag.core) :=
  congrFun (congrArg View.bag State.exchangedBags_view) b

theorem State.queue_exchanged :
    (s.exchanged c outs ins left value declared).br.ordinary = s.br.ordinary ++ ins ∧
      (s.exchanged c outs ins left value declared).br.priority = s.br.priority :=
  ⟨congrArg View.ordinary State.exchangedBags_view, congrArg View.priority State.exchangedBags_view⟩

theorem State.chu_exchanged (h1 : 1 ≤ c) (h2 : c ≤ 8) :
    (s.exchanged c outs ins left value declared).chu.handover = none ∧
    (s.exchanged c outs ins left value declared).consignment c = { s.consignment c with
      state := .done, inbound := (s.consignment c).inbound.filter fun b => decide (b ∉ left) } := by
  have hchu : (s.exchangedBags outs ins left value declared).chu = s.chu := by simp [State.exchangedBags]
  have hcon : (s.exchangedBags outs ins left value declared).consignment c = s.consignment c := by
    rw [State.consignment, hchu]
    rfl
  refine ⟨rfl, ?_⟩
  rw [← hcon]
  exact State.consignment_setConsignment_same _ _ _ h1 h2

end

end Sys2Proof.Machine
end

section

/-! PROOFS. SCAN and CONFIRM at the dock. -/

namespace Sys2Proof.Machine

/-! ### CONFIRM -/

/-- Two states whose notices go the same way: the same host line, office clock and deferred notices. -/
structure State.SameLine (u v : State) : Prop where
  phase : u.phase = v.phase
  hli   : u.hli = v.hli
  clock : u.oc.clock = v.oc.clock
  list  : u.oc.deferred = v.oc.deferred
  full  : u.oc.deferredOver = v.oc.deferredOver

theorem State.SameLine.place {u v : State} (h : u.SameLine v) (k : NoticeKind) (ds : List Datum) : (u.place k ds).SameLine (v.place k ds) := by
  obtain ⟨hh, hd, ho⟩ := State.place_congr h.phase h.hli h.clock h.list h.full k ds
  refine ⟨by simpa using h.phase, hh, ?_, hd, ho⟩
  rw [State.place_oc, State.place_oc v]
  exact h.clock

theorem exchangedBag_state {outs ins left : List Nat} {b : Nat} {o : Option Bag} :
    (exchangedBag outs ins left b o).map Bag.state =
      if b ∈ ins then o.map fun _ => .queued else if b ∈ outs then o.map fun _ => .handedOver else o.map Bag.state := by
  cases o with
  | none => simp [exchangedBag]
  | some x =>
    unfold exchangedBag
    by_cases h1 : b ∈ outs <;> by_cases h2 : b ∈ ins <;> by_cases h3 : b ∈ left <;> simp [h1, h2, h3]

theorem exchangedBag_consignment {outs ins left : List Nat} {b : Nat} {o : Option Bag} (h : b ∈ left) :
    (exchangedBag outs ins left b o).bind Bag.consignment = none := by
  unfold exchangedBag
  dsimp only
  rw [if_pos h, Option.bind_map]
  exact Option.bind_fun_none _

/-- A bag stands in one state. -/
theorem State.bagsIn_unique {s : State} {bs cs : List Nat} {st su : BagState} {b : Nat} (h : b ∈ s.bagsIn bs st) (h' : b ∈ s.bagsIn cs su) :
    st = su :=
  Option.some.inj ((State.mem_bagsIn.1 h).2.symm.trans (State.mem_bagsIn.1 h').2)

theorem State.map_const_of_mem_bagsIn {s : State} {bs : List Nat} {st : BagState} {b : Nat} (h : b ∈ s.bagsIn bs st) (su : BagState) :
    ((s.bag b).map fun _ => su) = some su := by
  obtain ⟨x, hx, -⟩ := Option.map_eq_some_iff.1 (State.mem_bagsIn.1 h).2
  rw [hx, Option.map_some]

/-- What the two notices at the end of a handover leave. -/
theorem State.place_ite_place (x : State) (p : Prop) [Decidable p] (k l : NoticeKind) (ds es : List Datum) {z : State}
    (hz : z = if p then x.place k ds else (x.place k ds).place l es) :
    z.chu = x.chu ∧ z.br = x.br ∧ z.st = x.st ∧ z.slc = x.slc ∧ z.csc = x.csc ∧ z.tps = x.tps ∧ z.sent = x.sent ∧
      z.oc.totals = x.oc.totals := by
  rw [hz]
  by_cases h : p
  · rw [if_pos h, State.place_totals]
    simp
  · rw [if_neg h, State.place_totals, State.place_totals]
    simp

/-- What a completed handover leaves (R165). -/
theorem State.completeHandover_leaves (s : State) (h : Handover) {outs ins left : List Nat} (h1 : 1 ≤ h.consignment) (h2 : h.consignment ≤ 8)
    (ho : outs = s.bagsIn (s.consignment h.consignment).outbound .scanned) (hi : ins = s.bagsIn h.received .received)
    (hl : left = s.bagsIn (s.consignment h.consignment).inbound .expected) :
    (s.completeHandover h).chu.handover = none ∧
    (s.completeHandover h).consignment h.consignment =
      { s.consignment h.consignment with
        state := .done, inbound := (s.consignment h.consignment).inbound.filter fun b => decide (b ∉ left) } ∧
    (∀ b ∈ outs, ((s.completeHandover h).bag b).map Bag.state = some .handedOver) ∧
    (∀ b ∈ ins, ((s.completeHandover h).bag b).map Bag.state = some .queued) ∧
    (∀ b ∈ left, ((s.completeHandover h).bag b).map Bag.state = some .expected ∧ ((s.completeHandover h).bag b).bind Bag.consignment = none) ∧
    (s.completeHandover h).br.ordinary = s.br.ordinary ++ ins ∧ (s.completeHandover h).br.priority = s.br.priority ∧
    (∀ d, ((s.completeHandover h).slot d).working = (s.slot d).working ∧ ((s.completeHandover h).slot d).reserve = (s.slot d).reserve ∧
      ((s.completeHandover h).slot d).unfit = (s.slot d).unfit) ∧
    (∀ d, ((s.completeHandover h).slot d).dispatch = (s.slot d).dispatch -
      (outs.map fun b => heldBy (((s.bag b).map Bag.lines).getD []) .working d +
        heldBy (((s.bag b).map Bag.lines).getD []) .unfit d).sum) ∧
    (s.completeHandover h).oc.totals.handedOver = s.oc.totals.handedOver +
      (outs.map fun b => s.linesValue (((s.bag b).map Bag.lines).getD [])).sum ∧
    (s.completeHandover h).oc.totals.received = s.oc.totals.received + (ins.map fun b => ((s.bag b).bind Bag.declared).getD 0).sum ∧
    (∀ v : State,
      v = s.place .handoverDone
        [.byte h.consignment, .ident h.courier, .count outs.length,
          .wide (outs.map fun b => s.linesValue (((s.bag b).map Bag.lines).getD [])).sum, .count ins.length,
          .wide (ins.map fun b => ((s.bag b).bind Bag.declared).getD 0).sum] →
      (s.completeHandover h).hli = if left = [] then v.hli
        else (v.place .shortDelivery (.byte h.consignment ::
          counted (left.map fun b => [.byte b, .sealNo (((s.bag b).bind Bag.sealNo).getD 0)]))).hli) ∧
    (s.completeHandover h).sent = s.sent ++ [.toDock (.done none)] ∧ (s.completeHandover h).slc = s.slc ∧
    (s.completeHandover h).csc = s.csc ∧ (s.completeHandover h).tps = s.tps := by
  obtain ⟨value, hv⟩ : ∃ v, v = (outs.map fun b => s.linesValue (((s.bag b).map Bag.lines).getD [])).sum := ⟨_, rfl⟩
  obtain ⟨declared, hd⟩ : ∃ v, v = (ins.map fun b => ((s.bag b).bind Bag.declared).getD 0).sum := ⟨_, rfl⟩
  rw [s.completeHandover_eq h ho hi hl hv hd rfl, ← hv, ← hd]
  obtain ⟨hcs, hcon⟩ := State.chu_exchanged (s := s) (outs := outs) (ins := ins) (left := left) (value := value)
    (declared := declared) h1 h2
  obtain ⟨hord, hpri⟩ := State.queue_exchanged (s := s) (c := h.consignment) (outs := outs) (ins := ins) (left := left)
    (value := value) (declared := declared)
  have hoc := State.exchanged_oc (s := s) (c := h.consignment) (outs := outs) (ins := ins) (left := left) (value := value)
    (declared := declared)
  obtain ⟨xhli, xtps, xcsc, xslc, xsent, xphase⟩ := State.exchanged_frame (s := s) (c := h.consignment) (outs := outs)
    (ins := ins) (left := left) (value := value) (declared := declared)
  have hslot := State.slot_exchanged (s := s) (c := h.consignment) (outs := outs) (ins := ins) (left := left) (value := value)
    (declared := declared)
  have hbag := State.bag_exchanged (s := s) (c := h.consignment) (outs := outs) (ins := ins) (left := left) (value := value)
    (declared := declared)
  generalize s.exchanged h.consignment outs ins left value declared = x at *
  generalize hz : (if left = [] then _ else _) = z
  obtain ⟨zchu, zbr, zst, zslc, zcsc, ztps, zsent, ztot⟩ := x.place_ite_place _ _ _ _ _ hz.symm
  have zbag : ∀ b, (z.send (.toDock (.done none))).bag b = x.bag b := State.bag_congr zbr
  have zslot : ∀ d, (z.send (.toDock (.done none))).slot d = x.slot d := fun d => by
    rw [State.slot, State.send_st, zst, State.slot]
  have hstate : ∀ b, ((z.send (.toDock (.done none))).bag b).map Bag.state =
      if b ∈ ins then (s.bag b).map fun _ => .queued else if b ∈ outs then (s.bag b).map fun _ => .handedOver
      else (s.bag b).map Bag.state := by
    intro b
    have hcore := exchangedBag_state (outs := outs) (ins := ins) (left := left) (b := b) (o := (s.bag b).map Bag.core)
    rw [← hbag] at hcore
    simp only [Option.map_map] at hcore
    rw [zbag]
    exact hcore
  refine ⟨(congrArg Chu.handover zchu).trans hcs, ?_, ?_, ?_, ?_, (congrArg Br.ordinary zbr).trans hord,
    (congrArg Br.priority zbr).trans hpri, ?_, ?_, ?_, ?_, ?_, ?_, zslc.trans xslc, zcsc.trans xcsc, ztps.trans xtps⟩
  · rw [← hcon, State.consignment, State.send_chu, zchu, State.consignment]
  · intro b hb
    rw [hstate, if_neg fun h => absurd (State.bagsIn_unique (hi ▸ h) (ho ▸ hb)) (by decide), if_pos hb]
    exact State.map_const_of_mem_bagsIn (ho ▸ hb) _
  · intro b hb
    rw [hstate, if_pos hb]
    exact State.map_const_of_mem_bagsIn (hi ▸ hb) _
  · intro b hb
    constructor
    · rw [hstate, if_neg fun h => absurd (State.bagsIn_unique (hi ▸ h) (hl ▸ hb)) (by decide),
        if_neg fun h => absurd (State.bagsIn_unique (ho ▸ h) (hl ▸ hb)) (by decide)]
      exact (State.mem_bagsIn.1 (hl ▸ hb)).2
    · have hcore := exchangedBag_consignment (outs := outs) (ins := ins) (o := (s.bag b).map Bag.core) hb
      rwa [← hbag, Option.bind_map, ← zbag] at hcore
  · intro d
    rw [zslot, hslot]
    exact ⟨rfl, rfl, rfl⟩
  · intro d
    rw [zslot, hslot]
    rfl
  · rw [State.send_oc, ztot, hoc]
  · rw [State.send_oc, ztot, hoc]
  · rintro v rfl
    have hsame : x.SameLine s := by
      refine ⟨xphase, xhli, ?_, ?_, ?_⟩ <;> rw [hoc]
    rw [← hz, State.send_hli, apply_ite State.hli]
    exact if_congr Iff.rfl (hsame.place _ _).hli ((hsame.place _ _).place _ _).hli
  · rw [State.send_sent, zsent, xsent]

/-! ### SCAN -/

/-- An office that is neither held nor unconfigured takes SCAN and CONFIRM by its handover alone. -/
theorem State.dockRecord_of_none {s : State} (hh : s.oc.state ≠ .held) (hu : s.oc.state ≠ .unconfigured) (hn : s.chu.handover = none)
    {r : DockRecord} (hr : (∃ q, r = .scan q) ∨ r = .confirm) : s.dockRecord r = s.send (.toDock (.refuse .state)) := by
  rcases hr with ⟨q, rfl⟩ | rfl <;> simp only [State.dockRecord, if_neg hh, if_neg hu, hn, State.dockRefuse]

theorem State.dockRecord_verified {s : State} {h : Handover} (hh : s.oc.state ≠ .held) (hu : s.oc.state ≠ .unconfigured)
    (hs : s.chu.handover = some h) (hv : h.stage = .verified) {r : DockRecord} (hr : (∃ q, r = .scan q) ∨ r = .confirm) :
    s.dockRecord r = s.send (.toDock .waitSafe) := by
  rcases hr with ⟨q, rfl⟩ | rfl <;> simp only [State.dockRecord, if_neg hh, if_neg hu, hs, hv]

theorem State.dockRecord_scan {s : State} {h : Handover} (hh : s.oc.state ≠ .held) (hu : s.oc.state ≠ .unconfigured)
    (hs : s.chu.handover = some h) (hv : h.stage = .scanning) (q : Nat) :
    s.dockRecord (.scan q) = (s.setHandover (some { h with step := some 120 })).dockScan { h with step := some 120 } q := by
  simp only [State.dockRecord, if_neg hh, if_neg hu, hs, hv]

theorem State.dockRecord_confirm {s : State} {h : Handover} (hh : s.oc.state ≠ .held) (hu : s.oc.state ≠ .unconfigured)
    (hs : s.chu.handover = some h) (hv : h.stage = .scanning) :
    s.dockRecord .confirm = (s.setHandover (some { h with step := some 120 })).dockConfirm { h with step := some 120 } := by
  simp only [State.dockRecord, if_neg hh, if_neg hu, hs, hv]

/-- A foreign scan counts; the third abandons the handover (R164). -/
theorem State.foreignScan_eq (s : State) (h : Handover) {u : State}
    (hu : u = (s.setHandover (some { h with foreign := h.foreign + 1 })).send (.toDock (.refuse .absent))) :
    s.foreignScan h = if 2 ≤ h.foreign then u.abandonHandover .foreign else u := by
  rw [hu]
  exact if_congr (by omega) rfl rfl

theorem State.moveBag_of_some {s : State} {b : Nat} {x : Bag} (h : s.bag b = some x) (st : BagState) :
    s.moveBag b st = s.setBag b (some { x with state := st, changed := s.oc.clock }) := by
  rw [State.moveBag, State.changeBag, h]

section
variable {s : State} {h : Handover} {q : Nat} {b : Nat} {x : Bag}

/-- A scanned bag to check out. -/
theorem State.dockScan_outbound (h0 : q ≠ 0) (hq : s.liveSeal q = some (b, x)) (hk : x.kind = .outbound)
    (hb : b ∈ (s.consignment h.consignment).outbound) {v : State}
    (hv : v = s.setBag b (some { x with state := .scanned, changed := s.oc.clock })) :
    s.dockScan h q = if x.state = .sealed then v.send (.toDock (.acceptScan b false (v.toScan h.consignment)))
      else if x.state = .scanned then s.send (.toDock (.refuse .duplicate)) else s.foreignScan h := by
  rw [State.dockScan]
  dsimp only
  rw [if_neg h0, hq]
  dsimp only
  rw [if_pos ⟨hk, hb⟩, State.moveBag_of_some (State.liveSeal_eq_some hq).1, ← hv]
  rfl

/-- A scanned bag to check in. -/
theorem State.dockScan_inbound (h0 : q ≠ 0) (hq : s.liveSeal q = some (b, x)) (hk : x.kind = .inbound)
    (hb : b ∈ (s.consignment h.consignment).inbound) {v : State}
    (hv : v = (s.setBag b (some { x with state := .received, changed := s.oc.clock })).setHandover
      (some { h with received := h.received ++ [b] })) :
    s.dockScan h q = if x.state = .expected then v.send (.toDock (.acceptScan b true (v.toScan h.consignment)))
      else if x.state = .received then s.send (.toDock (.refuse .duplicate)) else s.foreignScan h := by
  rw [State.dockScan]
  dsimp only
  rw [if_neg h0, hq]
  dsimp only
  rw [if_neg (by rw [hk]; simp), if_pos ⟨hk, hb⟩, State.moveBag_of_some (State.liveSeal_eq_some hq).1, ← hv]
  rfl

/-- Any other live seal is foreign. -/
theorem State.dockScan_foreign (h0 : q ≠ 0) (hq : s.liveSeal q = some (b, x))
    (ho : ¬ (x.kind = .outbound ∧ b ∈ (s.consignment h.consignment).outbound ∧ (x.state = .sealed ∨ x.state = .scanned)))
    (hi : ¬ (x.kind = .inbound ∧ b ∈ (s.consignment h.consignment).inbound ∧ (x.state = .expected ∨ x.state = .received))) :
    s.dockScan h q = s.foreignScan h := by
  by_cases hout : x.kind = .outbound ∧ b ∈ (s.consignment h.consignment).outbound
  · obtain ⟨hk, hb⟩ := hout
    rw [State.dockScan_outbound h0 hq hk hb rfl, if_neg fun he => ho ⟨hk, hb, .inl he⟩, if_neg fun he => ho ⟨hk, hb, .inr he⟩]
  · by_cases hin : x.kind = .inbound ∧ b ∈ (s.consignment h.consignment).inbound
    · obtain ⟨hk, hb⟩ := hin
      rw [State.dockScan_inbound h0 hq hk hb rfl, if_neg fun he => hi ⟨hk, hb, .inl he⟩, if_neg fun he => hi ⟨hk, hb, .inr he⟩]
    · rw [State.dockScan]
      dsimp only
      rw [if_neg h0, hq]
      dsimp only
      rw [if_neg hout, if_neg hin]

theorem State.dockScan_absent (h0 : q ≠ 0) (hq : s.liveSeal q = none) : s.dockScan h q = s.foreignScan h := by
  rw [State.dockScan]
  dsimp only
  rw [if_neg h0, hq]

end

/-- Settles O56: the handset's records by the stage of the handover; SCAN by the bag whose seal it brings, CONFIRM by what a completed
handover leaves. -/
theorem scanAndConfirm : Obligations.ScanAndConfirm := by
  refine ⟨fun q s h hh hu hq => ⟨fun hn => ?_, fun p hp hv => ?_⟩, fun q p u s h hh hu hq hp hv he => ?_⟩
  · have hscan := exec_scan q s h hq
    have hconfirm := exec_confirm s h
    rw [State.dockRecord_of_none hh hu hn (.inl ⟨q, rfl⟩)] at hscan
    rw [State.dockRecord_of_none hh hu hn (.inr rfl)] at hconfirm
    exact ⟨hscan, hconfirm⟩
  · have hscan := exec_scan q s h hq
    have hconfirm := exec_confirm s h
    rw [State.dockRecord_verified hh hu hp hv (.inl ⟨q, rfl⟩)] at hscan
    rw [State.dockRecord_verified hh hu hp hv (.inr rfl)] at hconfirm
    exact ⟨hscan, hconfirm⟩
  have hscan := exec_scan q s h hq
  have hconfirm := exec_confirm s h
  rw [State.dockRecord_scan hh hu hp hv, ← he] at hscan
  rw [State.dockRecord_confirm hh hu hp hv, ← he] at hconfirm
  have hlive : u.liveSeal q = s.liveSeal q := by
    rw [he]
    rfl
  have hforeign : ∀ v, v = (s.setHandover (some { p with step := some 120, foreign := p.foreign + 1 })).send (.toDock (.refuse .absent)) →
      u.foreignScan { p with step := some 120 } = if 2 ≤ p.foreign then v.abandonHandover .foreign else v := by
    intro v hw
    refine State.foreignScan_eq _ _ ?_
    rw [hw, he]
    rfl
  refine ⟨fun h0 => ?range, fun b x v h0 hq hk hb hw => ?outbound, fun b x v h0 hq hk hb hw => ?inbound, fun h0 hq => ?absent,
    fun b x v h0 hq ho hi hw => ?foreign, fun h0 => ?incomplete, fun outs ins left h0 h1 h2 ho hi hl => ?complete⟩
  case range =>
    rwa [h0] at hscan ⊢
  case outbound =>
    have hv' : v = u.setBag b (some { x with state := .scanned, changed := u.oc.clock }) := by
      rw [hw, he]
      rfl
    rw [State.dockScan_outbound h0 (hlive.trans hq) hk (by rwa [he]) hv'] at hscan
    refine ⟨fun hs => ?_, fun hs => ?_⟩
    · rwa [if_pos hs] at hscan
    · rwa [if_neg (by simp [hs]), if_pos hs] at hscan
  case inbound =>
    have hv' : v = (u.setBag b (some { x with state := .received, changed := u.oc.clock })).setHandover
        (some { { p with step := some 120 } with received := p.received ++ [b] }) := by
      rw [hw, he]
      rfl
    rw [State.dockScan_inbound h0 (hlive.trans hq) hk (by rwa [he]) hv'] at hscan
    refine ⟨fun hs => ?_, fun hs => ?_⟩
    · rwa [if_pos hs] at hscan
    · rwa [if_neg (by simp [hs]), if_pos hs] at hscan
  case absent =>
    rw [State.dockScan_absent h0 (hlive.trans hq), hforeign _ rfl] at hscan
    refine ⟨fun hf => ?_, fun hf => ?_⟩
    · rwa [if_neg (by omega)] at hscan
    · rwa [if_pos hf] at hscan
  case foreign =>
    rw [State.dockScan_foreign h0 (hlive.trans hq) (by rwa [he]) (by rwa [he]), hforeign v hw] at hscan
    refine ⟨fun hf => ?_, fun hf => ?_⟩
    · rwa [if_neg (by omega)] at hscan
    · rwa [if_pos hf] at hscan
  case incomplete =>
    have hto : u.toScan p.consignment ≠ 0 := by rwa [he]
    rwa [State.dockConfirm, if_neg hto] at hconfirm
  case complete =>
    have hto : u.toScan p.consignment = 0 := by rwa [he]
    rw [State.dockConfirm, if_pos hto] at hconfirm
    refine ⟨_, hconfirm, ?_⟩
    have hleaves := u.completeHandover_leaves { p with step := some 120 } (outs := outs) (ins := ins) (left := left) h1 h2
      (by rw [ho, he]; rfl) (by rw [hi, he]; rfl) (by rw [hl, he]; rfl)
    generalize u.completeHandover { p with step := some 120 } = w at *
    subst he
    obtain ⟨hchu, hcon, houts, hins, hleft, hord, hpri, hslot, hdispatch, hover, hreceived, hhli, hsent, hslc, hcsc, htps⟩ := hleaves
    refine ⟨hchu, hcon, houts, hins, hleft, hord, hpri, hslot, hdispatch, hover, hreceived, ?_, hsent, hslc, hcsc, htps⟩
    rintro v rfl
    have hsame : (s.setHandover (some { p with step := some 120 })).SameLine s := ⟨rfl, rfl, rfl, rfl, rfl⟩
    rw [hhli _ rfl]
    exact if_congr Iff.rfl (hsame.place _ _).hli ((hsame.place _ _).place _ _).hli

end Sys2Proof.Machine
end

section

/-! PROOFS. A count job: what its completion leaves, and what a record of the station brings about on arrival. -/

namespace Sys2Proof.Machine

/-! ### The counted tally (R130, R131) -/

theorem nth_eq_getElem {α : Type} {n : Nat} (dflt : α) (v : Vector α n) {k : Nat} (h1 : 1 ≤ k) (h2 : k ≤ n) :
    nth dflt v k = v[k - 1] := by
  rw [nth, if_neg (by omega), Vector.getElem?_eq_getElem (by omega), Option.getD_some]

theorem nth_addTallies (a b : Vector Counts 12) {d : Nat} (h1 : 1 ≤ d) (h2 : d ≤ 12) :
    nth default (addTallies a b) d =
      { good := (nth default a d).good + (nth default b d).good, unfit := (nth default a d).unfit + (nth default b d).unfit
        suspect := (nth default a d).suspect + (nth default b d).suspect } := by
  simp only [nth_eq_getElem default _ h1 h2, addTallies, Vector.getElem_zipWith]

theorem nth_foldl_addTallies (ps : List JobPart) (a : Vector Counts 12) {d : Nat} (h1 : 1 ≤ d) (h2 : d ≤ 12) :
    nth default (ps.foldl (fun u p => addTallies u p.tally) a) d =
      { good := (nth default a d).good + (ps.map fun p => (nth default p.tally d).good).sum
        unfit := (nth default a d).unfit + (ps.map fun p => (nth default p.tally d).unfit).sum
        suspect := (nth default a d).suspect + (ps.map fun p => (nth default p.tally d).suspect).sum } := by
  induction ps generalizing a with
  | nil => rfl
  | cons p ps ih =>
    rw [List.foldl_cons, ih, nth_addTallies a _ h1 h2]
    simp only [List.map_cons, List.sum_cons, Nat.add_assoc]

theorem nth_rollsGood (s : State) (t : Vector Counts 12) {d : Nat} (h1 : 1 ≤ d) (h2 : d ≤ 12) :
    nth default (s.rollsGood t) d =
      { good := (nth default t d).good + if s.isRoll d = true then (nth default t d).unfit else 0
        unfit := if s.isRoll d = true then 0 else (nth default t d).unfit
        suspect := (nth default t d).suspect } := by
  simp only [nth_eq_getElem default _ h1 h2, State.rollsGood, Vector.getElem_ofFn, Nat.sub_add_cancel h1]
  cases s.isRoll d <;> rfl

/-- Each figure of a completed count is the sum over the portions, the unfit pieces of ROLL slots counted as good. -/
theorem nth_tally_countResult (s : State) (j : CountJob) (n : Nat) {d : Nat} (h1 : 1 ≤ d) (h2 : d ≤ 12) :
    nth default (s.countResult j n).tally d =
      { good := (j.parts.map fun p => (nth default p.tally d).good).sum +
          if s.isRoll d = true then (j.parts.map fun p => (nth default p.tally d).unfit).sum else 0
        unfit := if s.isRoll d = true then 0 else (j.parts.map fun p => (nth default p.tally d).unfit).sum
        suspect := (j.parts.map fun p => (nth default p.tally d).suspect).sum } := by
  have hempty : nth default emptyTally d = { good := 0, unfit := 0, suspect := 0 } := by
    rw [nth_eq_getElem default _ h1 h2, emptyTally, Vector.getElem_replicate]
  rw [State.countResult, nth_rollsGood s _ h1 h2, nth_foldl_addTallies j.parts _ h1 h2, hempty]
  simp only [Nat.zero_add]

/-! ### The credit of the count, and its bag -/

theorem State.bag_addSuspects (s : State) (t : Vector Counts 12) (b : Nat) : (s.addSuspects t).bag b = s.bag b := by
  rw [State.addSuspects_eq]
  rfl

/-- The bag of a credit becomes COUNTED, or CREDIT_HELD. -/
theorem State.bag_credit (s : State) (b : Nat) (t : Vector Counts 12) :
    (s.credit b t).bag b = (s.bag b).map fun x =>
      { x with state := if s.creditFailures t = [] then .counted else .creditHeld, changed := s.oc.clock } := by
  have hclock : (s.addSuspects t).oc.clock = s.oc.clock := by rw [State.addSuspects_eq]
  unfold State.credit
  dsimp only
  rw [State.creditFailures_addSuspects]
  split
  · rename_i h
    rw [if_pos h, State.applyCredit_eq, State.bag_congr (s := ((s.addSuspects t).stockIn t).moveBag b .counted) (by simp),
      State.bag_stockIn_moveBag, if_pos rfl, State.bag_addSuspects, hclock]
  · rename_i d a rest h
    rw [if_neg (by simp [h]), State.bag_place, State.bag_moveBag, if_pos rfl, ← State.bag_addSuspects s t, ← hclock]
    rfl

/-! ### The end of a job -/

/-- A station changed by a fold over distinct stations. -/
theorem State.station_foldl_changeStation (ns : List Nat) (hn : ns.Nodup) (h4 : ∀ n ∈ ns, 1 ≤ n ∧ n ≤ 4) (f : Nat → Station → Station)
    (s : State) (m : Nat) :
    (ns.foldl (fun u n => u.changeStation n (f n)) s).station m = if m ∈ ns then f m (s.station m) else s.station m := by
  induction ns generalizing s with
  | nil => rfl
  | cons n ns ih =>
    obtain ⟨hm, hn⟩ := List.nodup_cons.1 hn
    obtain ⟨h1, h2⟩ := h4 n (by simp)
    rw [List.foldl_cons, ih hn fun k hk => h4 k (by simp [hk])]
    by_cases hmn : m = n
    · rw [hmn, if_neg hm, if_pos (by simp), State.changeStation, State.station_setStation_same _ _ _ h1 h2]
    · have hstay : (s.changeStation n (f n)).station m = s.station m := State.station_setStation_other _ _ _ _ hmn
      rw [hstay]
      simp [hmn]

theorem State.foldl_changeStation_eq (ns : List Nat) (f : Nat → Station → Station) (s : State) :
    ns.foldl (fun u n => u.changeStation n (f n)) s =
      { s with csc := { s.csc with stations := (ns.foldl (fun u n => u.changeStation n (f n)) s).csc.stations } } := by
  induction ns generalizing s with
  | nil => rfl
  | cons n ns ih =>
    rw [List.foldl_cons, ih]
    rfl

section
variable (s : State) (b : Nat) (st : Nat → StationState → StationState)

/-- The end of a job changes the job list and the stations alone. -/
theorem State.freeJob_eq :
    s.freeJob b st = { s with csc := { jobs := s.csc.jobs.filter fun q => decide (q.bag ≠ b), stations := (s.freeJob b st).csc.stations } } :=
  State.foldl_changeStation_eq _ (fun m x => x.clearJob (st m x.state)) _

theorem State.station_freeJob (m : Nat) :
    (s.freeJob b st).station m =
      if (s.station m).job.map StationJob.bag = some b then (s.station m).clearJob (st m (s.station m).state) else s.station m := by
  obtain ⟨hn, h4⟩ := State.jobStations_table (s := s) (b := b)
  unfold State.freeJob
  rw [State.station_foldl_changeStation _ hn h4 (fun m x => x.clearJob (st m x.state))]
  exact if_congr State.mem_jobStations rfl rfl

end

theorem State.completeJob_eq {s : State} {b : Nat} {j : CountJob} {x : Bag} {r : CountResult} (hj : s.jobOf b = some j)
    (hx : s.bag b = some x) (hr : r = s.countResult j (x.declared.getD 0)) :
    s.completeJob b = (((s.setBag b (some { x with result := some r })).countNotices b x j r).credit b r.tally).freeJob b fun _ _ => .idle := by
  unfold State.completeJob State.freeJob
  rw [hj, hx, hr]
  dsimp only
  rw [State.jobStations_congr (t := ((_ : State).credit _ _)) (s := s) (by simp)]

end Sys2Proof.Machine
end

section

/-! PROOFS. END of a station, and its link silence. -/

namespace Sys2Proof.Machine

theorem stationLine_num (l : StationLine) : 1 ≤ l.num ∧ l.num ≤ 4 := by
  cases l <;> decide

section
variable {s : State} {l : StationLine} {k : StationJob} {j : CountJob}

theorem State.station_heard (s : State) (l : StationLine) :
    (s.heard l).station l.num = { s.station l.num with silence := (s.station l.num).silence.map fun _ => 30 } :=
  State.station_setStation_same _ _ _ (stationLine_num l).1 (stationLine_num l).2

theorem State.drain_one {n : Nat} {r : StationRecord} (hi : (s.station n).intake = [r]) (ha : (s.station n).applies = true) :
    State.drain 1 n s = (s.changeStation n fun x => { x with intake := [] }).applyRecord n r := by
  simp only [State.drain, hi, ha, if_true]

/-- A record that passes through an empty intake queue of a counting station is applied at once (R116). -/
theorem State.CountsRecords.stationArrival (h : s.CountsRecords l k j) (r : StationRecord) :
    s.stationArrival l.num r = (s.heard l).applyRecord l.num r := by
  obtain ⟨h1, h2⟩ := stationLine_num l
  have hstate := h.state
  have hnot : ¬ ((s.station l.num).state = .assigned ∨ k.complete = true) := by simp [hstate, h.going]
  unfold State.stationArrival
  dsimp only
  rw [h.job]
  dsimp only
  rw [if_neg hnot, State.enterIntake, if_pos (by simp [h.intake])]
  dsimp only
  rw [State.changeStation, h.intake, List.nil_append, State.station_setStation_same _ _ _ h1 h2]
  have hone := State.drain_one (s := s.setStation l.num { s.station l.num with
      intake := [r], silence := (s.station l.num).silence.map fun _ => 30 }) (n := l.num) (r := r)
    (by rw [State.station_setStation_same _ _ _ h1 h2]) (by rw [State.station_setStation_same _ _ _ h1 h2, Station.applies, hstate]; rfl)
  refine hone.trans ?_
  have hempty : { s.station l.num with intake := [], silence := (s.station l.num).silence.map fun _ => 30 } =
      { s.station l.num with silence := (s.station l.num).silence.map fun _ => 30 } := by rw [← h.intake]
  rw [State.changeStation, State.station_setStation_same _ _ _ h1 h2, State.setStation_setStation, hempty]
  rfl

/-- A record is applied to the tally of a counting station. -/
theorem State.CountsRecords.applyRecord (h : s.CountsRecords l k j) (r : StationRecord) :
    (s.heard l).applyRecord l.num r = (s.heard l).applyCounting l.num k j r := by
  have hjob : ((s.heard l).station l.num).job = some k := by rw [State.station_heard, h.job]
  have hstate : ((s.heard l).station l.num).state = .counting := by rw [State.station_heard, h.state]
  have hstanding : (s.heard l).stationJob l.num = some j := by
    rw [← h.standing, State.stationJob, State.stationJob, hjob, h.job]
    rfl
  unfold State.applyRecord
  rw [hjob, hstanding, hstate]
  dsimp only
  rw [if_neg (by simp [h.going])]

theorem State.CountsRecords.leaves_totals (h : s.CountsRecords l k j) {t : Vector Counts 12} (ht : t.toList.all Counts.fits = true) :
    Leaves (.endTotals l t .sound) s ((s.heard l).applyCounting l.num k j (.totals t)) := by
  have hw : WellFormed (stationCommand l (.totals t)) = true := by
    simpa [stationCommand, WellFormed] using ht
  have hl := exec_stationCommand l (.totals t) s ⟨h.runs, h.rest⟩ hw
  rwa [h.stationArrival, h.applyRecord] at hl

/-- A portion that is not the last (R129). -/
theorem State.completePortion_waits {n p : Nat} {v : State}
    (hv : v = s.setStation n { s.station n with silence := none, job := some { k with complete := true } }) (hp : k.partner = some p)
    (hc : (v.station p).job.any StationJob.complete = false) : s.completePortion n k = v := by
  unfold State.completePortion State.changeStation
  rw [← hv, hp]
  exact if_neg (by simp [hc])

/-- The last portion ends the job (R129). -/
theorem State.completePortion_ends {n : Nat} {v : State}
    (hv : v = s.setStation n { s.station n with silence := none, job := some { k with complete := true } })
    (hp : ∀ p, k.partner = some p → (v.station p).job.any StationJob.complete = true) : s.completePortion n k = v.completeJob k.bag := by
  unfold State.completePortion State.changeStation
  rw [← hv]
  split
  · rfl
  · rename_i p hk
    exact if_pos (hp p hk)

/-- The station once its portion is complete, whether or not its timer was started again. -/
theorem State.setStation_heard (x : Station) : (s.heard l).setStation l.num x = s.setStation l.num x :=
  State.setStation_setStation _ _ _ _

theorem State.applyCounting_totals {n : Nat} {t : Vector Counts 12} :
    s.applyCounting n k j (.totals t) = if (j.part n).doubt.isSome then s.abortJob n .sequence
      else if t = (j.part n).tally then s.completePortion n k else s.abortJob n .mismatch := rfl

/-- The job of a counting station stands in the job list under the station's bag. -/
theorem State.CountsRecords.jobOf (h : s.CountsRecords l k j) : s.jobOf k.bag = some j := by
  have hj := h.standing
  rwa [State.stationJob, h.job, Option.bind_some] at hj

end

theorem State.creditFailures_congr {s t : State} (h : t.st = s.st) (c : Vector Counts 12) : t.creditFailures c = s.creditFailures c := by
  unfold State.creditFailures State.slots State.slot
  rw [h]

theorem State.countNotices_clock (s : State) (b : Nat) (x : Bag) (j : CountJob) (r : CountResult) :
    (s.countNotices b x j r).oc.clock = s.oc.clock := by
  have hplace : ∀ (u : State) (k : NoticeKind) (ds : List Datum), (u.place k ds).oc.clock = u.oc.clock := fun u k ds => by
    rw [u.place_oc]
  unfold State.countNotices
  dsimp only
  split
  · split
    · rw [hplace, hplace]
    · rw [hplace]
  · split
    · rw [hplace, hplace, hplace]
    · rw [hplace, hplace]

/-- A job that ends, seen from the state before its last portion was complete. -/
theorem State.completed_leaves {s n3 u : State} {k : StationJob} {n : Nat} {x : Bag} {r : CountResult} (h1 : 1 ≤ n) (h2 : n ≤ 4)
    (hk : (s.station n).job = some k) (hb : n3.bag k.bag = some { x with result := some r }) (hclock : n3.oc.clock = s.oc.clock)
    (hfail : n3.creditFailures r.tally = s.creditFailures r.tally)
    (hcsc : n3.csc = (s.setStation n { s.station n with silence := none, job := some { k with complete := true } }).csc)
    (hslc : n3.slc = s.slc) (hchu : n3.chu = s.chu) (hpins : n3.pins = s.pins) (hsent : n3.sent = s.sent)
    (hu : u = (n3.credit k.bag r.tally).freeJob k.bag fun _ _ => .idle) :
    u = { n3.credit k.bag r.tally with csc := u.csc } ∧
    u.csc.jobs = s.csc.jobs.filter (fun q => decide (q.bag ≠ k.bag)) ∧
    (∀ m, 1 ≤ m → m ≤ 4 →
      u.station m =
        if (s.station m).job.map StationJob.bag = some k.bag then
          { s.station m with state := .idle, job := none, flow := .go, intake := [], silence := none }
        else s.station m) ∧
    u.bag k.bag = some { x with
      result := some r, changed := s.oc.clock
      state := if s.creditFailures r.tally = [] then .counted else .creditHeld } ∧
    u.slc = s.slc ∧ u.chu = s.chu ∧ u.pins = s.pins ∧ u.sent = s.sent := by
  have hc : (n3.credit k.bag r.tally).csc = (s.setStation n { s.station n with silence := none, job := some { k with complete := true } }).csc := by
    rw [← hcsc]
    simp
  have hfree := State.freeJob_eq (n3.credit k.bag r.tally) k.bag fun _ _ => .idle
  rw [← hu] at hfree
  refine ⟨?_, ?_, fun m _ _ => ?_, ?_, ?_, ?_, ?_, ?_⟩
  · rw [hfree]
  · rw [hfree]
    dsimp only
    rw [hc]
    rfl
  · rw [hu, State.station_freeJob, State.station_congr hc]
    by_cases hm : m = n
    · rw [hm, State.station_setStation_same _ _ _ h1 h2, hk]
      exact (if_pos rfl).trans (if_pos rfl).symm
    · rw [State.station_setStation_other _ _ _ _ hm]
      rfl
  · have hbag : u.bag k.bag = (n3.credit k.bag r.tally).bag k.bag := by
      rw [hfree]
      rfl
    rw [hbag, State.bag_credit, hb, hfail, hclock]
    rfl
  · rw [hfree, ← hslc]
    simp
  · rw [hfree, ← hchu]
    simp
  · rw [hfree, ← hpins]
    simp
  · rw [hfree, ← hsent]
    simp

/-- Settles O47: END by the totals it brings, the completion as a credit and a job that ends; the link silence. -/
theorem endAndLinkSilence : Obligations.EndAndLinkSilence := by
  refine ⟨fun l k j t s h ht => ?_, fun l n k s hr ht hk => ?_, fun l s hr ht => ?_⟩
  · obtain ⟨h1, h2⟩ := stationLine_num l
    have hl := h.leaves_totals ht
    rw [State.applyCounting_totals] at hl
    refine ⟨fun hd => ?_, fun hd hn => ?_, fun p hd he hp hpn hq => ?_,
      fun x r done n1 n2 n3 suspects hd he hp hx hr hsus hdone hn1 hn2 hn3 => ⟨fun d h1 h2 => ?_, ?_⟩⟩
    · rwa [if_pos (Option.isSome_iff_ne_none.2 hd)] at hl
    · rwa [if_neg (by simp [hd]), if_neg hn] at hl
    · rw [if_neg (by simp [hd]), if_pos he] at hl
      have hdone : ((s.setStation l.num { s.station l.num with silence := none, job := some { k with complete := true } }).station p).job.any
          StationJob.complete = false := by
        rw [State.station_setStation_other _ _ _ _ hpn]
        cases hj : (s.station p).job with
        | none => rfl
        | some q => exact hq q hj
      rwa [State.completePortion_waits ?_ hp hdone] at hl
      rw [State.station_heard, State.setStation_heard]
    · rw [hr]
      exact nth_tally_countResult s j _ h1 h2
    · rw [if_neg (by simp [hd]), if_pos he] at hl
      have hmark : done = (s.heard l).setStation l.num
          { (s.heard l).station l.num with silence := none, job := some { k with complete := true } } := by
        rw [hdone, State.station_heard, State.setStation_heard]
      have hlast : ∀ p, k.partner = some p → (done.station p).job.any StationJob.complete = true := by
        intro p hkp
        rcases hp with hnone | ⟨p', q, hp', hpn, hq, hqc⟩
        · rw [hnone] at hkp
          cases hkp
        · cases hkp.symm.trans hp'
          rw [hdone, State.station_setStation_other _ _ _ _ hpn, hq]
          exact hqc
      have hjob : done.jobOf k.bag = some j := by
        rw [hdone]
        exact h.jobOf
      have hbag : done.bag k.bag = some x := by
        rw [hdone]
        exact hx
      have hres : r = done.countResult j (x.declared.getD 0) := by
        rw [hr, hdone]
        rfl
      rw [State.completePortion_ends hmark hlast, State.completeJob_eq hjob hbag hres] at hl
      have hnotices : (done.setBag k.bag (some { x with result := some r })).countNotices k.bag x j r = n3 := by
        rw [hn3, hn2, hn1, hsus, hdone]
        rfl
      have hframe := (done.setBag k.bag (some { x with result := some r })).countNotices_frame k.bag x j r
      have hclock := (done.setBag k.bag (some { x with result := some r })).countNotices_clock k.bag x j r
      rw [hnotices] at hl hframe hclock
      obtain ⟨-, -, hpins, -, -, hst, -, hbr, hcsc, hslc, hchu, -, hsent, -⟩ := hframe
      subst hdone
      obtain ⟨hu, hjobs, hstations, hbagu, hrest⟩ := State.completed_leaves h1 h2 h.job (n3 := n3) (x := x) (r := r)
        ((State.bag_congr hbr _).trans (State.bag_setBag_same _ _ _ (s.bag_some_lt _ _ hx))) hclock
        (State.creditFailures_congr hst _) hcsc hslc hchu hpins hsent rfl
      exact ⟨_, hl, hu, hjobs, hstations, hbagu, by rw [hr]; rfl, by rw [hr]; rfl, by rw [hr]; rfl, hrest⟩
  · refine Leaves.of_event (f := fun u => u.linkSilence l.num) rfl hr ?_
    simp only [State.linkSilence, ht, hk]
  · refine Leaves.of_event (f := fun u => u.linkSilence l.num) rfl hr ?_
    simp only [State.linkSilence, ht]

end Sys2Proof.Machine
end

section

/-! PROOFS. An idle part: what has fallen due, and a second of the time base. -/

namespace Sys2Proof.Machine

/-! ### The step of an empty queue -/

theorem step_idle {s : State} (h : s.pending = []) : step s = idle s := by
  rw [step, h]

/-- Whichever of several due things is chosen, it is one of them. -/
theorem State.chosen_mem (s : State) (c : Instr) (cs : List Instr) : (s.chosen c cs).1 ∈ c :: cs := by
  cases cs with
  | nil => exact List.mem_singleton_self c
  | cons c' cs =>
    have hlt : Config.dueChoice s.choices % ((c' :: cs).length + 1) < (c :: c' :: cs).length := Nat.mod_lt _ (by simp)
    show ((c :: c' :: cs)[_]?).getD c ∈ _
    rw [List.getElem?_eq_getElem hlt, Option.getD_some]
    exact List.getElem_mem hlt

theorem idle_of_nil {s : State} (h : s.due = []) : idle s = .next s.tick := by
  rw [idle, State.nextOwn, h]

theorem idle_of_cons {s : State} {c : Instr} {cs : List Instr} (h : s.due = c :: cs) : idle s = exec (s.chosen c cs).1 (s.chosen c cs).2 := by
  rw [idle, State.nextOwn, h]

/-! ### What has fallen due -/

section
variable {s : State} {i : Instr}

theorem State.mem_dueFloats :
    i ∈ s.dueFloats ↔ ∃ r ∈ s.st.reservations, ∃ n t, r.owner = .till n ∧ r.expiry = some t ∧
      r.created.secondsTo t ≤ r.created.secondsTo s.oc.clock ∧ i = .floatExpiry n := by
  rw [State.dueFloats, List.mem_filterMap]
  refine exists_congr fun r => and_congr_right fun _ => ?_
  unfold State.expired
  cases r.owner with
  | bag b => simp
  | till n =>
    cases r.expiry with
    | none => simp
    | some t => simp [eq_comm]

theorem State.mem_dueLatests :
    i ∈ s.dueLatests ↔ ∃ c, 1 ≤ c ∧ c ≤ 8 ∧ (s.consignment c).state = .scheduled ∧
      s.oc.clock.before ((s.consignment c).schedule.getD default).latest = false ∧ i = .latestReached c := by
  simp only [State.dueLatests, List.mem_map, List.mem_filter, mem_upTo, Bool.and_eq_true, decide_eq_true_eq, Bool.not_eq_true', and_assoc,
    eq_comm (a := i)]

theorem State.mem_dueMinute :
    i ∈ s.dueMinute ↔ (s.oc.state = .trading ∨ s.oc.state = .closing) ∧ s.oc.minuteTold ≠ s.minute ∧ i = .minuteEvent := by
  unfold State.dueMinute
  split
  · rename_i h
    simp [h]
  · rename_i h
    simp only [List.not_mem_nil, false_iff]
    exact fun ⟨h1, h2, _⟩ => h ⟨h1, h2⟩

theorem State.mem_dueSilences :
    i ∈ s.dueSilences ↔ ∃ l : StationLine, (s.station l.num).silence = some 0 ∧ i = .linkSilenceExpiry l := by
  simp only [State.dueSilences, List.mem_map, List.mem_filter, decide_eq_true_eq]
  refine exists_congr fun l => ?_
  have hl : l ∈ [StationLine.one, .two, .three, .four] := by cases l <;> decide
  simp only [hl, true_and, eq_comm (a := i)]

theorem State.mem_dueDrop : i ∈ s.dueDrop ↔ ∃ d ds, s.br.drops = d :: ds ∧ d.wait = 0 ∧ i = .readWaitExpiry := by
  unfold State.dueDrop
  cases s.br.drops with
  | nil => simp
  | cons d ds =>
    by_cases h : d.wait = 0
    · simp [h]
    · simp [h]

theorem State.mem_dueLock :
    i ∈ s.dueLock ↔ s.slc.timer = some 0 ∧
      (s.slc.state = .delay ∧ i = .delayExpiry ∨ s.slc.state = .window ∧ i = .windowExpiry ∨
        s.slc.state = .securing ∧ i = .boltConfirmationExpiry) := by
  unfold State.dueLock
  by_cases h : s.slc.timer = some 0
  · rw [if_pos h]
    cases s.slc.state with
    | delay => simp [h]
    | window => simp [h]
    | securing => simp [h]
    | _ => simp
  · simp [h]

theorem State.mem_dueHandover :
    i ∈ s.dueHandover ↔ ∃ h, s.chu.handover = some h ∧
      (h.step = some 0 ∧ i = .stepTimerExpiry ∨ h.overall = 0 ∧ i = .overallTimerExpiry) := by
  unfold State.dueHandover
  cases s.chu.handover with
  | none => simp
  | some h =>
    by_cases h1 : h.step = some 0
    · by_cases h2 : h.overall = 0
      · simp [h1, h2]
      · simp [h1, h2]
    · by_cases h2 : h.overall = 0
      · simp [h1, h2]
      · simp [h1, h2]

theorem State.mem_dueRequest : i ∈ s.dueRequest ↔ s.nextRequest.map BufferEntry.request = some i := by
  rw [State.dueRequest, Option.mem_toList]

theorem State.mem_due (h : s.phase = .running) :
    i ∈ s.due ↔ i ∈ s.dueRequest ∨ i ∈ s.dueFloats ∨ i ∈ s.dueLatests ∨ i ∈ s.dueMinute ∨ i ∈ s.dueSilences ∨ i ∈ s.dueDrop ∨
      i ∈ s.dueLock ∨ i ∈ s.dueHandover := by
  simp only [State.due, h, List.mem_append, or_assoc]

end

theorem State.nextRequest_eq_some {s : State} {e : BufferEntry} :
    s.nextRequest = some e ↔
      e.taken = false ∧ ∃ before after, s.hli.buffer = before ++ e :: after ∧ ∀ f ∈ before, f.taken = true := by
  simp only [State.nextRequest, List.find?_eq_some_iff_append, Bool.not_eq_true', Bool.not_not]

/-- Settles O2: the step of an empty queue by the list of what is due, and each part of that list. -/
theorem idleStepTakesWhatIsDue : Obligations.IdleStepTakesWhatIsDue := by
  refine ⟨fun s hp => ⟨fun hd => ?none, fun c hd => ?one, fun c c' cs hd => ?several, ?clock, fun hr => ?stopped, fun hr => ?running⟩,
    fun i s hr => ?due, fun e s => State.nextRequest_eq_some, fun s hs => ?starting, fun s h1 h2 => ?off⟩
  case none => rw [step_idle hp, idle_of_nil hd]
  case one =>
    rw [step_idle hp, idle_of_cons hd]
    rfl
  case several =>
    refine ⟨(s.chosen c (c' :: cs)).1, hd ▸ s.chosen_mem c (c' :: cs), ?_⟩
    rw [step_idle hp, idle_of_cons hd]
    rfl
  case clock =>
    unfold State.tick
    split
    · rfl
    · rfl
  case stopped => exact if_neg hr
  case running => exact if_pos hr
  case due =>
    rw [State.mem_due hr, State.mem_dueRequest, State.mem_dueFloats, State.mem_dueLatests, State.mem_dueMinute, State.mem_dueSilences,
      State.mem_dueDrop, State.mem_dueLock, State.mem_dueHandover]
  case starting =>
    refine ⟨fun hf => ?_, fun hf hv => ?_, fun hf hv => ?_⟩
    · simp [State.due, hs, hf]
    · simp [State.due, hs, hf, hv]
    · simp [State.due, hs, hf, hv]
  case off =>
    unfold State.due
    split
    · exact absurd ‹_› h1
    · exact absurd ‹_› h2
    · rfl

end Sys2Proof.Machine
end

section

/-! PROOFS. The reads: how an answer becomes a reply, and what the lists of a reply give. -/

namespace Sys2Proof.Machine

/-! ### A request that no office state refuses -/

section
variable {i : Instr} {op : State → Answer} {s t : State} {c : Code} {d : List Datum}

theorem Accepts.of_answer (he : exec i s = takeRequest i op s) (h : s.phase = .running) (ho : op s = .accept t d) : Accepts i s t d :=
  he.trans (takeRequest_accept h ho)

theorem Refuses.of_answer (he : exec i s = takeRequest i op s) (h : s.phase = .running) (ho : op s = .refuse c d) : Refuses i s c d :=
  he.trans (takeRequest_refuse h ho)

/-- A reply that is a list sent in part. -/
theorem Accepts.of_listing {other beside : Nat} {es fs : List (List Datum)} {total : List Datum}
    (he : exec i s = takeRequest i op s) (h : s.phase = .running) (ho : op s = .accept t (listing other es total)) (hes : es = fs)
    (hroom : other ≤ 478) (hother : other + 1 = beside + (total.map Datum.size).sum) :
    ∃ d, Accepts i s t d ∧ GivesPart beside fs total d :=
  ⟨_, .of_answer he h ho, hes ▸ listing_givesPart es hroom hother⟩

end

/-! ### The tables in order -/

/-- A part of the bag table in order of slot, read by slot. -/
theorem State.bagList_filter_map {β : Type} (s : State) (p : Nat × Bag → Bool) (q : Nat → Bool) (f : Nat × Bag → β) (g : Nat → β)
    (hq : ∀ b, q b = (s.bag b).any fun x => p (b, x)) (hf : ∀ b x, s.bag b = some x → f (b, x) = g b) :
    (s.bagList.filter p).map f = ((List.range 256).filter q).map g := by
  unfold State.bagList
  generalize List.range 256 = bs
  induction bs with
  | nil => rfl
  | cons b bs ih =>
    cases hb : s.bag b with
    | none =>
      have hqb : q b = false := by rw [hq, hb]; rfl
      simpa [List.filterMap_cons, hb, hqb] using ih
    | some x =>
      have hqb : q b = p (b, x) := by rw [hq, hb]; rfl
      cases hp : p (b, x) with
      | false => simpa [List.filterMap_cons, hb, hqb, hp] using ih
      | true => simpa [List.filterMap_cons, hb, hqb, hp, hf b x hb] using ih

theorem State.bagList_sorted (s : State) : s.bagList.Pairwise fun p q => p.1 < q.1 := by
  unfold State.bagList
  refine List.pairwise_filterMap.2 (List.pairwise_lt_range.imp fun {b c} hbc p hp q hq => ?_)
  obtain ⟨x, -, rfl⟩ := Option.map_eq_some_iff.1 hp
  obtain ⟨y, -, rfl⟩ := Option.map_eq_some_iff.1 hq
  exact hbc

/-- The live seal is that of the lowest slot (R89). -/
theorem State.liveSeal_lowest {s : State} {n b : Nat} {x : Bag} (hb : s.bag b = some x) (hn : x.sealNo = some n) (ho : x.state ≠ .orphan)
    (hlow : ∀ c y, c < b → s.bag c = some y → y.sealNo = some n → y.state = .orphan) : s.liveSeal n = some (b, x) := by
  cases hs : s.liveSeal n with
  | none => exact absurd hn (State.liveSeal_eq_none.1 hs b x hb ho)
  | some p =>
    obtain ⟨c, y⟩ := p
    obtain ⟨hc, hcn, hco⟩ := State.liveSeal_eq_some hs
    obtain ⟨-, before, after, hlist, hbefore⟩ := List.find?_eq_some_iff_append.1 hs
    have hcb : ¬ c < b := fun h => hco (hlow c y h hc hcn)
    have hbc : ¬ b < c := by
      intro h
      have hmem : (b, x) ∈ before ++ (c, y) :: after := hlist ▸ State.mem_bagList.2 hb
      have hsorted := hlist ▸ s.bagList_sorted
      obtain ⟨-, htail, -⟩ := List.pairwise_append.1 hsorted
      rcases List.mem_append.1 hmem with hm | hm
      · simpa [hn, ho] using hbefore _ hm
      · rcases List.mem_cons.1 hm with heq | hm
        · exact absurd (Prod.mk.inj heq).1 (by omega)
        · have hlt : c < b := (List.pairwise_cons.1 htail).1 _ hm
          omega
    have heq : c = b := by omega
    subst heq
    rw [Option.some.inj (hc.symm.trans hb)]

theorem upTo_drop (m n : Nat) (h1 : 1 ≤ n) : (upTo m).drop (n - 1) = List.range' n (m + 1 - n) := by
  have hup : upTo m = List.range' 1 m := by
    rw [upTo, List.range'_eq_map_range]
    exact List.map_congr_left fun k _ => Nat.add_comm k 1
  rw [hup, List.drop_range', Nat.mul_one, Nat.add_sub_of_le h1]
  congr 1
  omega

/-- The values of a profile in the order of Table 2.4. -/
theorem profileKeys_get (p : Profile) (ds : List Nat) :
    (profileKeys ds).map (fun k => p.get k.1 k.2.1 k.2.2) =
      (List.range 4).map (classOf p.threshold) ++ (List.range 4).map (classOf p.hysteresis) ++
        (List.range 4).map (classOf p.floatMin) ++ ((List.range 4).flatMap fun c => ds.map (classSlotOf p.target c)) ++
        ((List.range 4).flatMap fun c => ds.map (classSlotOf p.cap c)) ++
        [p.rateInit, p.rateMin, p.rateMax, p.smoothing] ++ ds.map (nth 0 p.floor) ++
        [p.tolerance, p.poolThreshold, p.hold, p.lockDelay, p.lockWindow, p.collectionDelay, p.haltPolicy.num] := by
  have h17 : List.range 17 = [0, 1, 2, 3, 4, 5, 6, 7, 8, 9, 10, 11, 12, 13, 14, 15, 16] := rfl
  have h4 : List.range 4 = [0, 1, 2, 3] := rfl
  simp [profileKeys, h17, h4, fieldPerClass, fieldPerSlot, Profile.get, List.map_append, Function.comp_def]

end Sys2Proof.Machine
end

section

/-! PROOFS. The entries of the replies to the reads, field by field. -/

namespace Sys2Proof.Machine

/-- An optional field read from a record that may be absent. -/
theorem getD_default_bind {β : Type} (o : Option Bag) (f : Bag → Option β) (h : f default = none) : f (o.getD default) = o.bind f := by
  cases o with
  | none => exact h
  | some x => rfl

section
variable (s : State)

theorem source_code (a : Source) : a.code = .enum (if a = .working then 0 else 1) := by
  cases a with
  | working => rfl
  | unfit => rfl

theorem policy_num (h : HaltPolicy) : h.num = (match h with | .none => 0 | .suspect => 1 | .suspectAndDoubt => 2) := by
  cases h with
  | none => rfl
  | suspect => rfl
  | suspectAndDoubt => rfl

/-- What READ RESERVATIONS gives for one reservation. -/
theorem reservation_fields (r : Reservation) :
    r.fields =
      (match r.owner with
        | .till m => [.enum 0, .byte m]
        | .bag b => [.enum 1, .byte b]) ++
      counted (r.lines.map fun l => [.byte l.slot, .pieces l.pieces, .enum (if l.source = .working then 0 else 1)]) ++
      ([.time r.created] : List Datum) ++ Machine.optional (r.expiry.map fun t => [.time t]) := by
  have hline : ContentLine.fields = fun l : ContentLine => [.byte l.slot, .pieces l.pieces, .enum (if l.source = .working then 0 else 1)] := by
    funext l
    rw [ContentLine.fields, source_code]
  rw [Reservation.fields, hline]
  cases r.owner with
  | till m => rfl
  | bag b => rfl

theorem State.stockEntry_eq (d : Nat) :
    s.stockEntry d =
      [.pieceValue (s.pieceValue d), .enum (if s.isRoll d then 1 else 0), .pieces (s.slot d).working, .pieces (s.slot d).reserve,
       .pieces (s.slot d).unfit, .pieces (s.slot d).dispatch, .pieces (s.reserved .working d), .pieces (s.reserved .unfit d),
       .pieces (s.availability d), .pieces (s.slot d).suspect, .pieces (s.slot d).low, .pieces (s.slot d).high] := by
  unfold State.stockEntry
  dsimp only
  cases s.isRoll d with
  | true => rfl
  | false => rfl

theorem State.queueEntry_eq (b : Nat) :
    s.queueEntry b =
      ([.byte b, .sealNo (((s.bag b).bind Bag.sealNo).getD 0), ((s.bag b).getD default).kind.code] : List Datum) ++
        Machine.optional (((s.bag b).bind Bag.till).map fun m => [.byte m]) ++
        ([.amount (((s.bag b).bind Bag.declared).getD 0), (((s.bag b).bind Bag.queueClass).getD .ordinary).code,
         .count (((s.bag b).bind Bag.attempts).getD 0), .count (((s.bag b).bind Bag.bypass).getD 0)] : List Datum) := by
  simp only [State.queueEntry, tillField, getD_default_bind _ Bag.sealNo rfl, getD_default_bind _ Bag.till rfl,
    getD_default_bind _ Bag.declared rfl, getD_default_bind _ Bag.queueClass rfl, getD_default_bind _ Bag.attempts rfl,
    getD_default_bind _ Bag.bypass rfl]

theorem State.bagFields_eq (b : Nat) (x : Bag) :
    s.bagFields b x =
      ([.byte b, .sealNo (x.sealNo.getD 0), x.kind.code, x.state.code] : List Datum) ++ Machine.optional (x.till.map fun n => [.byte n]) ++
        Machine.optional (x.consignment.map fun c => [.byte c]) ++ Machine.optional (x.declared.map fun n => [.amount n]) ++
        counted (x.lines.map fun l => [.byte l.slot, .pieces l.pieces, .enum (if l.source = .working then 0 else 1)]) ++
        Machine.optional (x.result.map fun r =>
          counted (((List.range s.st.denoms.length).map (· + 1)).map fun d =>
            [.pieces (nth default r.tally d).good, .pieces (nth default r.tally d).unfit,
             .pieces (nth default r.tally d).suspect]) ++ ([.wide r.value, .wide r.variance, .mark r.flag] : List Datum)) ++
        Machine.optional (x.attempts.map fun n => [.count n]) ++ Machine.optional (x.queueClass.map fun c => [c.code]) ++
        Machine.optional (x.bypass.map fun n => [.count n]) ++ ([.time x.changed] : List Datum) ++
        (if x.state = .queued then [.count (s.position b)] else []) := by
  simp only [State.bagFields, source_code]
  rfl

theorem State.consignmentEntry_eq (b : Nat) :
    s.consignmentEntry b = [.byte b, .sealNo (((s.bag b).bind Bag.sealNo).getD 0), ((s.bag b).getD default).state.code,
      .amount (((s.bag b).bind Bag.declared).getD 0)] := by
  simp only [State.consignmentEntry, getD_default_bind _ Bag.sealNo rfl, getD_default_bind _ Bag.declared rfl]

/-- Two parts of a list with no entry in common: their values add up. -/
theorem sum_filter_append (bs : List Nat) (p q : Nat → Bool) (h : ∀ b, p b = true → q b = false) (f : Nat → Nat) :
    ((bs.filter p ++ bs.filter q).map f).sum = ((bs.filter fun b => p b || q b).map f).sum := by
  rw [List.map_append, List.sum_append]
  induction bs with
  | nil => rfl
  | cons b bs ih =>
    cases hp : p b with
    | true => simp [hp, h b hp, ← ih, Nat.add_assoc]
    | false =>
      cases hq : q b with
      | true => simp [hp, hq, ← ih, Nat.add_left_comm]
      | false => simp [hp, hq, ← ih]

theorem State.packedValue_eq (c : Nat) :
    s.packedValue c = (((s.consignment c).outbound.filter fun b => decide ((s.bag b).map Bag.state = some .sealed ∨
      (s.bag b).map Bag.state = some .scanned)).map fun b => ((s.bag b).bind Bag.declared).getD 0).sum := by
  unfold State.packedValue State.bagsIn
  rw [sum_filter_append]
  · simp only [Bool.decide_or]
  · intro b hb
    rw [of_decide_eq_true hb]
    rfl

theorem State.toScan_eq (c : Nat) :
    s.toScan c = ((s.consignment c).outbound.filter fun b => (s.bag b).any fun x => decide (x.state ≠ .scanned)).length := by
  unfold State.toScan
  congr 2
  funext b
  cases s.bag b with
  | none => rfl
  | some x => rfl

theorem State.online_eq :
    s.online = ((upTo 4).filter fun n =>
      (s.station n).enabled && decide (∀ r ∈ [OfflineReason.link, .disabled, .start], (s.station n).state ≠ .offline r)).length := by
  have hlist : s.csc.stations.toList = (upTo 4).map s.station := by
    refine List.ext_getElem (by simp [upTo]) fun k h1 h2 => ?_
    have hk : k < 4 := by simpa using h1
    simp [upTo, State.station, nth, hk]
  have hoff : ∀ x : StationState, (match x with | .offline _ => false | _ => true) =
      decide (∀ r ∈ [OfflineReason.link, .disabled, .start], x ≠ .offline r) := by
    intro x
    cases x with
    | offline r => cases r <;> rfl
    | _ => simp
  unfold State.online
  rw [hlist, List.filter_map, List.length_map]
  congr 2
  funext n
  exact congrArg ((s.station n).enabled && ·) (hoff _)

theorem State.stationEntry_eq (n : Nat) :
    s.stationEntry n =
      ([.mark (s.station n).enabled, (s.station n).state.code] : List Datum) ++
        (match (s.station n).state with
          | .offline r => [.present true, r.code]
          | .held r => [.present true, r.code]
          | _ => [.present false]) ++
        [(s.station n).flow.code, .count (s.station n).intake.length] ++
        Machine.optional ((s.station n).job.map fun k =>
          let j := (s.csc.jobs.find? fun j => decide (j.bag = k.bag)).getD default
          let p := (j.parts.find? fun p => decide (p.station = n)).getD default
          ([.byte k.bag, k.portion.code] : List Datum) ++ Machine.optional (k.partner.map fun m => [.byte m]) ++
            ([.mark k.complete, .word j.tolerance,
             .enum (match j.policy with | .none => 0 | .suspect => 1 | .suspectAndDoubt => 2), .time j.assigned] : List Datum) ++
            Machine.optional (p.doubt.map fun d => [.byte d]) ++
            counted (((List.range s.st.denoms.length).map (· + 1)).map fun d =>
              [.pieces (nth default p.tally d).good, .pieces (nth default p.tally d).unfit,
               .pieces (nth default p.tally d).suspect])) := by
  unfold State.stationEntry State.stationJobFields
  simp only [policy_num] <;> rfl

end

end Sys2Proof.Machine
end

section

/-! PROOFS. What each read gives. -/

namespace Sys2Proof.Machine

theorem profileOf_eq_none {n : Nat} (h : 1 < n) : profileOf n = none := by
  match n, h with
  | _ + 2, _ => rfl

/-- The values of a profile as READ PROFILE sends them. -/
theorem profile_words (p : Profile) (ds : List Nat) :
    ((profileKeys ds).map fun k => [Datum.word (p.get k.1 k.2.1 k.2.2)]) =
      ((List.range 4).map (classOf p.threshold) ++ (List.range 4).map (classOf p.hysteresis) ++
        (List.range 4).map (classOf p.floatMin) ++ ((List.range 4).flatMap fun c => ds.map (classSlotOf p.target c)) ++
        ((List.range 4).flatMap fun c => ds.map (classSlotOf p.cap c)) ++
        [p.rateInit, p.rateMin, p.rateMax, p.smoothing] ++ ds.map (nth 0 p.floor) ++
        [p.tolerance, p.poolThreshold, p.hold, p.lockDelay, p.lockWindow, p.collectionDelay,
         match p.haltPolicy with | .none => 0 | .suspect => 1 | .suspectAndDoubt => 2]).map fun x => [Datum.word x] := by
  have h := congrArg (List.map fun x => [Datum.word x]) (profileKeys_get p ds)
  rw [List.map_map, policy_num] at h
  exact h

/-- The ORPHAN records of a seal. -/
theorem State.sealOrphans (s : State) (n : Nat) :
    ((s.orphans.filter fun p => decide (p.2.sealNo = some n)).map fun p => [Datum.byte p.1]) =
      ((List.range 256).filter fun b => (s.bag b).any fun x => decide (x.state = .orphan ∧ x.sealNo = some n)).map fun c => [.byte c] := by
  rw [State.orphans, List.filter_filter]
  refine s.bagList_filter_map _ _ _ _ (fun b => ?_) fun _ _ _ => rfl
  congr 1
  funext x
  rw [Bool.decide_and, Bool.and_comm]

theorem State.orphans_map (s : State) :
    (s.orphans.map fun p => [Datum.byte p.1, .sealNo (p.2.sealNo.getD 0), .time p.2.changed]) =
      ((List.range 256).filter fun b => decide ((s.bag b).map Bag.state = some .orphan)).map fun b =>
        [.byte b, .sealNo (((s.bag b).bind Bag.sealNo).getD 0), .time ((s.bag b).getD default).changed] := by
  refine s.bagList_filter_map _ _ _ _ (fun b => ?_) fun b x hb => ?_
  · cases s.bag b with
    | none => rfl
    | some x => simp
  · rw [hb]
    rfl

theorem State.unattached_map {β : Type} (s : State) (f : Nat × Bag → β) (g : Nat → β) (h : ∀ b x, s.bag b = some x → f (b, x) = g b) :
    s.unattached.map f =
      ((List.range 256).filter fun b => (s.bag b).any fun x =>
        decide (x.consignment = none ∧ (x.kind = .outbound ∨ x.kind = .inbound))).map g :=
  s.bagList_filter_map _ _ _ _ (fun _ => rfl) h

theorem Opening.fields_eq (o : Opening) :
    o.fields = ([o.source.code] : List Datum) ++ Machine.optional (o.operators.map fun p => [.ident p.1, .ident p.2]) ++
      ([.byte o.windows, .word o.delayLen, .word o.windowLen,
       .enum (match o.mark with | none => 0 | some .waiting => 1 | some .told => 2)] : List Datum) := by
  unfold Opening.fields markCode
  cases o.mark with
  | none => rfl
  | some m => cases m <;> rfl

theorem State.lockFields_eq {s : State} (h : s.phase = .running) :
    s.lockFields =
      [s.slc.state.code] ++
        Machine.optional (s.slc.opening.map fun o =>
          ([o.source.code] : List Datum) ++ Machine.optional (o.operators.map fun p => [.ident p.1, .ident p.2]) ++
            ([.byte o.windows, .word o.delayLen, .word o.windowLen,
             .enum (match o.mark with | none => 0 | some .waiting => 1 | some .told => 2)] : List Datum)) ++
        Machine.optional (s.slc.timer.map fun n => [.word n]) ++
        ([.mark s.slc.pendingCollection, doorCode s.slc.door, boltCode s.slc.bolt, slotCode s.slc.slot, s.slc.boltDrive.code,
         s.slc.shutter.code, s.slc.alarm.code, .mark s.slc.forced, .mark s.slc.boltFault] : List Datum) ++
        (if s.slc.shutter = .closed then
          (if s.oc.state ≠ .trading ∧ s.oc.state ≠ .closing then [.present true, .enum 0]
          else if s.freeOrphans = [] then [.present true, .enum 1] else [.present false])
        else []) := by
  have hfault : Machine.optional (s.shutterFault.map fun f => [Datum.enum f]) =
      if s.oc.state ≠ .trading ∧ s.oc.state ≠ .closing then [.present true, .enum 0]
      else if s.freeOrphans = [] then [.present true, .enum 1] else [.present false] := by
    simp only [State.shutterFault, h, List.isEmpty_iff, reduceCtorEq, if_false]
    split
    · rfl
    · split
      · rfl
      · rfl
  rw [State.lockFields, hfault, funext Opening.fields_eq, Slc.latchFields]
  simp only [List.append_assoc, List.cons_append, List.nil_append]

/-- The bytes that stand behind the two lists of READ CONSIGNMENT are few. -/
theorem State.size_consignmentTail (s : State) (c : Nat) : entrySize (s.consignmentTail c) ≤ 25 := by
  unfold State.consignmentTail
  cases (s.consignment c).schedule with
  | none => exact (by decide : 9 ≤ 25)
  | some k => exact le_of_eq rfl

/-- The two lists of READ CONSIGNMENT, the inbound one in the room that the outbound one leaves. -/
theorem State.consignmentFields_parts (s : State) (c : Nat) :
    ∃ outs ins,
      s.consignmentFields c = ([.byte c, (s.consignment c).state.code] : List Datum) ++ outs ++ ins ++ s.consignmentTail c ∧
      GivesPart (5 + ((s.consignmentTail c).map Datum.size).sum) ((s.consignment c).outbound.map s.consignmentEntry)
        [.count (s.consignment c).outbound.length] outs ∧
      GivesPart (3 + (outs.map Datum.size).sum + ((s.consignmentTail c).map Datum.size).sum)
        ((s.consignment c).inbound.map s.consignmentEntry) [.count (s.consignment c).inbound.length] ins := by
  have htail := s.size_consignmentTail c
  obtain ⟨given, hgiven⟩ : ∃ g, g = fitting (473 - entrySize (s.consignmentTail c))
    ((s.consignment c).outbound.map s.consignmentEntry) := ⟨_, rfl⟩
  have houts : listing (5 + entrySize (s.consignmentTail c)) ((s.consignment c).outbound.map s.consignmentEntry)
      [.count (s.consignment c).outbound.length] = given.flatten ++ [.count given.length, .count (s.consignment c).outbound.length] := by
    rw [listing, show 478 - (5 + entrySize (s.consignmentTail c)) = 473 - entrySize (s.consignmentTail c) by omega, ← hgiven]
    simp only [List.append_assoc, List.cons_append, List.nil_append]
  have hroom : (given.map entrySize).sum ≤ 473 - entrySize (s.consignmentTail c) := by
    obtain ⟨k, -, hk, hle, -⟩ := fitting_take (473 - entrySize (s.consignmentTail c))
      ((s.consignment c).outbound.map s.consignmentEntry)
    rwa [hgiven, hk]
  have hsize : ((given.flatten ++ [Datum.count given.length, .count (s.consignment c).outbound.length]).map Datum.size).sum =
      (given.map entrySize).sum + 2 := by
    rw [List.map_append, List.sum_append, size_flatten]
    rfl
  refine ⟨given.flatten ++ [.count given.length, .count (s.consignment c).outbound.length],
    listing ((given.map entrySize).sum + entrySize (s.consignmentTail c) + 5) ((s.consignment c).inbound.map s.consignmentEntry)
      [.count (s.consignment c).inbound.length], ?_, ?_, ?_⟩
  · rw [hgiven, State.consignmentFields]
    simp only [List.append_assoc, List.cons_append, List.nil_append, List.length_map]
  · rw [← houts]
    exact listing_givesPart _ (by omega) rfl
  · refine listing_givesPart _ (by omega) ?_
    rw [hsize]
    show _ = _ + entrySize _ + 1
    omega

theorem DaySummary.fields_eq (d : DaySummary) :
    d.fields = Machine.optional (d.openMark.map fun m => [.time m]) ++
      ([.time d.closed, .word d.minute, .wide d.totals.floatsIssued, .wide d.totals.topUps, .wide d.totals.counted,
        .wide d.totals.unfit, .wide d.totals.suspectPieces, .wide d.totals.suspectValue, .wide d.totals.varianceSum,
        .wide d.totals.varianceCount, .wide d.totals.handedOver, .wide d.totals.received, .wide d.totals.lostBags,
        .wide d.totals.lostValue] : List Datum) ++
      counted (d.slots.map fun x => [.pieces x.suspect, .pieces x.low, .pieces x.high]) ++ ([.wide d.stockValue] : List Datum) := by
  rw [DaySummary.fields, Totals.fields]
  simp only [List.append_assoc, List.cons_append, List.nil_append]

/-- Settles O8: each read by its reply. -/
theorem readsChangeNoRecord : Obligations.ReadsChangeNoRecord := by
  refine ⟨fun s o q hr ho hq => ?office, fun s hr => ⟨?summary, ?operators⟩, fun s hr => ?stock,
    fun n s hr => ⟨fun h => ?reservationsRange, fun h => ?reservations⟩,
    fun n p slots s hr hp hs => ⟨fun h => ?profileRange, fun h => ?profile⟩,
    fun n t s hr ht => ⟨fun h => ?tillRange, fun h1 h2 => ?till⟩,
    fun n s hr => ⟨fun h => ?tillsRange, fun h1 h2 => ?tills, fun h => ?pickupRange, fun h => ?pickups⟩,
    fun n s hr => ⟨fun h => ?queueRange, fun h => ?queue⟩,
    fun b s hr => ⟨fun h => ?bagRange, fun h hb => ?free, fun x h hb => ?bag⟩,
    fun n orphans s hr ho => ⟨fun h => ?sealRange, fun h1 h2 => ⟨fun hn => ?noSeal, fun b x hb hn hx hlow => ?sealed⟩⟩,
    fun orphans s hr ho => ?orphans, fun s hr => ?stations, fun s hr => ?lock,
    fun c y tail entry s hr hy ht he => ⟨fun h => ?consignmentRange, fun h1 h2 hf => ?freeConsignment, fun h1 h2 hf => ?consignment⟩,
    fun s hr => ⟨fun hn => ?noHandover, fun h hh => ⟨fun hv => ?verified, fun hv => ?scanning⟩⟩, fun bags s hr hb => ?unattached⟩
  case office =>
    refine .of_answer (show exec .readOffice s = execReadOffice s from rfl) hr ?_
    rw [ho, hq, State.officeFields, Outstanding.fields, Totals.fields]
    simp only [List.append_assoc, List.cons_append, List.nil_append]
  case summary =>
    refine .of_answer (show exec .readDaySummary s = execReadDaySummary s from rfl) hr ?_
    rw [funext DaySummary.fields_eq]
  case operators => exact .of_answer (show exec .readOperators s = execReadOperators s from rfl) hr rfl
  case stock =>
    refine .of_answer (show exec .readStock s = execReadStock s from rfl) hr ?_
    rw [funext s.stockEntry_eq]
    rfl
  case reservationsRange => exact .of_answer (show exec (.readReservations n) s = execReadReservations n s from rfl) hr (if_pos h)
  case reservations =>
    exact Accepts.of_listing (show exec (.readReservations n) s = execReadReservations n s from rfl) hr (if_neg (by omega))
      (List.map_congr_left fun r _ => reservation_fields r) (by omega) rfl
  case profileRange =>
    refine .of_answer (show exec (.readProfile n) s = execReadProfile n s from rfl) hr ?_
    rw [profileOf_eq_none h]
  case profile =>
    have hof : profileOf n = some (if n = 0 then ProfileName.a else ProfileName.b) := by
      rcases Nat.le_one_iff_eq_zero_or_eq_one.1 h with rfl | rfl
      · rfl
      · rfl
    have hp' : p = s.profileOf (if n = 0 then ProfileName.a else ProfileName.b) := by
      rw [hp]
      split
      · rfl
      · rfl
    refine Accepts.of_listing (show exec (.readProfile n) s = execReadProfile n s from rfl) hr ?_ (profile_words p slots) (by omega) rfl
    rw [hof, hs, hp']
    rfl
  case tillRange => exact .of_answer (show exec (.readTill n) s = execReadTill n s from rfl) hr (if_neg (by simp [tillOk_eq_false h]))
  case till =>
    refine .of_answer (show exec (.readTill n) s = execReadTill n s from rfl) hr ?_
    rw [if_pos (tillOk_eq_true h1 h2), ht, State.tillFields, Option.map_map]
    rfl
  case tillsRange => exact .of_answer (show exec (.readTills n) s = execReadTills n s from rfl) hr (if_neg (by simp [tillOk_eq_false h]))
  case tills =>
    exact Accepts.of_listing (show exec (.readTills n) s = execReadTills n s from rfl) hr (if_pos (tillOk_eq_true h1 h2))
      (by rw [upTo_drop 96 n h1]; rfl) (by omega) rfl
  case pickupRange => exact .of_answer (show exec (.readPickupList n) s = execReadPickupList n s from rfl) hr (if_pos h)
  case pickups =>
    exact Accepts.of_listing (show exec (.readPickupList n) s = execReadPickupList n s from rfl) hr (if_neg (by omega)) rfl (by omega) rfl
  case queueRange => exact .of_answer (show exec (.readCountQueue n) s = execReadCountQueue n s from rfl) hr (if_pos h)
  case queue =>
    exact Accepts.of_listing (show exec (.readCountQueue n) s = execReadCountQueue n s from rfl) hr (if_neg (by omega))
      (List.map_congr_left fun b _ => s.queueEntry_eq b) (by omega) rfl
  case bagRange => exact .of_answer (show exec (.readBag b) s = execReadBag b s from rfl) hr (if_pos (by simpa using h))
  case free =>
    refine .of_answer (show exec (.readBag b) s = execReadBag b s from rfl) hr ?_
    rw [if_neg (by simpa using h), hb]
  case bag =>
    refine .of_answer (show exec (.readBag b) s = execReadBag b s from rfl) hr ?_
    rw [if_neg (by simpa using h), hb]
    exact congrArg (Answer.accept s) (s.bagFields_eq b x)
  case sealRange => exact .of_answer (show exec (.readSeal n) s = execReadSeal n s from rfl) hr (if_pos (by simp; omega))
  case noSeal =>
    refine .of_answer (show exec (.readSeal n) s = execReadSeal n s from rfl) hr ?_
    have hlive : s.liveSeal n = none := State.liveSeal_eq_none.2 fun b x hb hx hs => hx (hn b x hb hs)
    rw [if_neg (by simp; omega), hlive, s.sealOrphans, ← ho]
    rfl
  case sealed =>
    refine .of_answer (show exec (.readSeal n) s = execReadSeal n s from rfl) hr ?_
    rw [if_neg (by simp; omega), State.liveSeal_lowest hb hn hx hlow, s.sealOrphans, ← ho]
    rfl
  case orphans =>
    refine .of_answer (show exec .readOrphans s = execReadOrphans s from rfl) hr ?_
    rw [ho, s.orphans_map]
    rfl
  case stations =>
    rw [← s.online_eq]
    exact Accepts.of_listing (other := 5) (es := (upTo 4).map s.stationEntry) (total := [.count s.online, .word s.profile.poolThreshold])
      (show exec .readStations s = execReadStations s from rfl) hr rfl
      (List.map_congr_left fun n _ => s.stationEntry_eq n) (by omega) rfl
  case lock =>
    refine .of_answer (show exec .readLock s = execReadLock s from rfl) hr ?_
    exact congrArg (Answer.accept s) (State.lockFields_eq hr)
  case consignmentRange => exact .of_answer (show exec (.readConsignment c) s = execReadConsignment c s from rfl) hr (if_pos (by simp; omega))
  case freeConsignment =>
    refine .of_answer (show exec (.readConsignment c) s = execReadConsignment c s from rfl) hr ?_
    rw [if_neg (by simp; omega), if_pos (hy ▸ hf)]
    rfl
  case consignment =>
    have hentry : s.consignmentEntry = entry := funext fun b => (s.consignmentEntry_eq b).trans (he b).symm
    have htail : s.consignmentTail c = tail := by
      rw [ht, hy, State.consignmentTail, s.packedValue_eq]
      rfl
    obtain ⟨outs, ins, hfields, houts, hins⟩ := s.consignmentFields_parts c
    rw [hentry] at houts hins
    rw [htail, ← hy] at houts hins hfields
    refine ⟨outs, ins, .of_answer (show exec (.readConsignment c) s = execReadConsignment c s from rfl) hr ?_, houts, hins⟩
    rw [if_neg (by simp; omega), if_neg (hy ▸ hf), hfields]
  case noHandover =>
    refine .of_answer (show exec .readHandover s = execReadHandover s from rfl) hr ?_
    rw [State.handoverFields, hn]
    rfl
  case verified =>
    refine .of_answer (show exec .readHandover s = execReadHandover s from rfl) hr ?_
    rw [State.handoverFields, hh]
    simp only [handoverCode, hv, reduceCtorEq, if_false, List.append_nil]
    rfl
  case scanning =>
    refine .of_answer (show exec .readHandover s = execReadHandover s from rfl) hr ?_
    rw [State.handoverFields, hh]
    simp only [handoverCode, hv, s.toScan_eq]
    rfl
  case unattached =>
    have hentries := s.unattached_map (fun p => [Datum.byte p.1, p.2.kind.code, p.2.state.code, .sealNo (p.2.sealNo.getD 0),
      .amount (p.2.declared.getD 0)])
      (fun b => [.byte b, ((s.bag b).getD default).kind.code, ((s.bag b).getD default).state.code,
        .sealNo (((s.bag b).bind Bag.sealNo).getD 0), .amount (((s.bag b).bind Bag.declared).getD 0)]) (fun b x hx => by rw [hx]; rfl)
    have hlength := congrArg List.length (s.unattached_map (fun p => p.1) (fun b => b) fun _ _ _ => rfl)
    rw [List.length_map, List.length_map, ← hb] at hlength
    rw [← hb] at hentries
    refine Accepts.of_listing (show exec .readUnattached s = execReadUnattached s from rfl) hr ?_ hentries (by omega) rfl
    rw [hlength]

end Sys2Proof.Machine
end
